-- ==== Sys2Proof/Word.lean ====
section
/-! DEFINITION. The few widths the part's manual treats as bits: bytes of its frames (spec/11),
the 32-bit seconds count (R192) and sets of zone numbers carried as 32-bit masks (R195). -/

namespace Sys2Proof

/-- One byte of a link or span frame (R196, R198). -/
abbrev Byte := BitVec 8

/-- A value of the seconds count, 32 bits wide (R192). -/
abbrev Seconds := BitVec 32

/-- A set of zone numbers 0-31; zone `n` is a member when bit `n` is 1 (R195). -/
abbrev ZoneSet := BitVec 32

/-- A moment of the millisecond time base, counted from the last full reset (R192). -/
abbrev Millis := Nat

end Sys2Proof
end

