-- ==== Sys2Proof/Syntax.lean ====
section
/-! DEFINITION. The commands the part takes: one constructor of `Instr` per row of
spec/opcode_table.json. A request's operands are its fields as the wire carries them (R196), so a
number may be any natural number and a code any number: the range check of R179 step 4 judges it. -/

namespace Sys2Proof

/-- The two request links (R173). -/
inductive Port where
  | main
  | panel
  deriving DecidableEq, Repr

/-- The four field spans (R155). -/
inductive SpanId where
  | span0
  | span1
  | span2
  | span3
  deriving DecidableEq, Repr

/-- What every request command carries beside its own fields: the port it arrives on, the class and
tag bytes of its frame (R196), and the level of the SERVICE KEY line, which is sampled when the
request is taken (R178). -/
structure Head where
  port : Port
  cls  : Byte
  tag  : Byte
  key  : Bool
  deriving DecidableEq, Repr

/-- Levels of the input pins at the start of the part: the rate straps (R173), the raw FIRE line
(R103), the code lines FZ0-FZ4 (R104) and SERVICE KEY (R178). -/
structure Pins where
  rate1    : Bool
  rate0    : Bool
  fireLine : Bool
  codes    : BitVec 5
  key      : Bool
  deriving DecidableEq, Repr

/-- The fill and air settings of DEFINE_ZONE and SET_ZONE, each a value or an absence (R41, R42), in
the order of the zone view (R197). -/
structure ZoneFields where
  fullAt          : Option Nat
  hysteresis      : Option Nat
  coWeight        : Option Nat
  no2Weight       : Option Nat
  coStart         : Option Nat
  coFull          : Option Nat
  no2Start        : Option Nat
  no2Full         : Option Nat
  coWarn          : Option Nat
  coAlarm         : Option Nat
  coHyst          : Option Nat
  no2Warn         : Option Nat
  no2Alarm        : Option Nat
  no2Hyst         : Option Nat
  alarmConfirm    : Option Nat
  clearConfirm    : Option Nat
  blindLimit      : Option Nat
  blindDemand     : Option Nat
  arrivalCredit   : Option Nat
  departureCredit : Option Nat
  decay           : Option Nat
  minDemand       : Option Nat
  deriving DecidableEq, Repr

/-- The settings of DEFINE_FAN and SET_FAN, each a value or an absence (R97, R98). -/
structure FanFields where
  vmin    : Option Nat
  su      : Option Nat
  sd      : Option Nat
  minRun  : Option Nat
  fireIn  : Option Nat
  fireOut : Option Nat
  deriving DecidableEq, Repr

/-- The fields of DEFINE_SIGN, in the order R130 lists them. -/
structure SignFields where
  node       : Nat
  kind       : Nat
  countZones : ZoneSet
  countKinds : Byte
  fullAt     : Nat
  termA      : ZoneSet
  termB      : ZoneSet
  out0       : Nat
  out1       : Nat
  out2       : Nat
  out3       : Nat
  deriving DecidableEq, Repr

/-- The fields of SET_SIGN, each a value or an absence (R131). -/
structure SignChange where
  node       : Option Nat
  kind       : Option Nat
  countZones : Option ZoneSet
  termA      : Option ZoneSet
  termB      : Option ZoneSet
  countKinds : Option Byte
  fullAt     : Option Nat
  out0       : Option Nat
  out1       : Option Nat
  out2       : Option Nat
  out3       : Option Nat
  deriving DecidableEq, Repr

/-- The settings of DEFINE_LIGHT and SET_LIGHT, each a value or an absence (R149, R150). -/
structure LightFields where
  economy  : Option Nat
  active   : Option Nat
  hold     : Option Nat
  rampRate : Option Nat
  deriving DecidableEq, Repr

/-- The settings of SET_PART, each a value or an absence (R183), in the order of R197. -/
structure PartFields where
  airPeriod        : Option Nat
  fanPeriod        : Option Nat
  startInterval    : Option Nat
  arrivalConfirm   : Option Nat
  departureConfirm : Option Nat
  proofTime        : Option Nat
  missLimit        : Option Nat
  limit0           : Option Nat
  limit1           : Option Nat
  limit2           : Option Nat
  limit3           : Option Nat
  revisit          : Option Nat
  deriving DecidableEq, Repr

/-- A request as its frame's code and payload state it (R196): the content of a request place. The
last three constructors are frames whose code or payload is no request's: step 2 and step 3 of R179,
and the presence bytes of R200. -/
inductive Request where
  | readBays (start count direction step : Nat)
  | findBays (zone : Nat) (kinds states : Byte) (after maximum : Nat)
  | changeBay (bay mode : Nat) (marks : Byte)
  | reserveBay (bay holder hold : Nat)
  | releaseBay (bay holder : Nat)
  | defineBay (bay zone node channel kind : Nat)
  | redefineBay (bay zone node channel kind : Nat)
  | retireBay (bay : Nat)
  | readZone (zone : Nat)
  | closeZone (zone : Nat)
  | openZone (zone : Nat)
  | defineZone (zone level : Nat) (fields : ZoneFields)
  | setZone (zone : Nat) (level : Option Nat) (fields : ZoneFields)
  | retireZone (zone : Nat)
  | readFan (group : Nat)
  | pushOverride (group level : Nat) (duration : Option Nat) (tag : Nat)
  | popOverride (group : Nat)
  | fanControl (groups : BitVec 32) (action : Nat)
  | defineFan (group : Nat) (zones : ZoneSet) (drives : List Nat) (fields : FanFields)
  | setFan (group : Nat) (zones : Option ZoneSet) (drives : Option (List Nat)) (fields : FanFields)
  | retireFan (group : Nat)
  | readSign (sign : Nat)
  | defineSign (sign : Nat) (fields : SignFields)
  | setSign (sign : Nat) (change : SignChange)
  | retireSign (sign : Nat)
  | readLight (group : Nat)
  | lightOverride (group : Nat) (level duration : Option Nat)
  | defineLight (group zone node : Nat) (fields : LightFields)
  | setLight (group : Nat) (zone node : Option Nat) (fields : LightFields)
  | retireLight (group : Nat)
  | readNode (node : Nat)
  | defineNode (node span address kind : Nat) (zone : Option Nat)
  | retireNode (node : Nat)
  | suspendNode (node : Nat)
  | resumeNode (node : Nat)
  | readStatus
  | setPermit (cls mode : Nat) (zones : ZoneSet)
  | setPart (fields : PartFields)
  | readAttention (cls : Option Nat)
  | clearAttention (cls object : Nat)
  | setAttentionEnable (classes : Byte)
  | restart
  | unknown (code : Nat)
  | badLength (code : Nat)
  | badPresence (code : Nat)
  deriving DecidableEq, Repr

/-- What a request place holds (R175, R176): a bad frame with its tag alone, or a request with the
class and tag of its frame. -/
inductive Placed where
  | badFrame (tag : Byte)
  | request (cls tag : Byte) (body : Request)
  deriving DecidableEq, Repr

/-- The commands of the part, one constructor per row of spec/opcode_table.json. -/
inductive Instr where
  | readBays (h : Head) (start count direction step : Nat)
  | findBays (h : Head) (zone : Nat) (kinds states : Byte) (after maximum : Nat)
  | changeBay (h : Head) (bay mode : Nat) (marks : Byte)
  | reserveBay (h : Head) (bay holder hold : Nat)
  | releaseBay (h : Head) (bay holder : Nat)
  | defineBay (h : Head) (bay zone node channel kind : Nat)
  | redefineBay (h : Head) (bay zone node channel kind : Nat)
  | retireBay (h : Head) (bay : Nat)
  | readZone (h : Head) (zone : Nat)
  | closeZone (h : Head) (zone : Nat)
  | openZone (h : Head) (zone : Nat)
  | defineZone (h : Head) (zone level : Nat) (fields : ZoneFields)
  | setZone (h : Head) (zone : Nat) (level : Option Nat) (fields : ZoneFields)
  | retireZone (h : Head) (zone : Nat)
  | readFan (h : Head) (group : Nat)
  | pushOverride (h : Head) (group level : Nat) (duration : Option Nat) (tag : Nat)
  | popOverride (h : Head) (group : Nat)
  | fanControlIsolate (h : Head) (groups : BitVec 32)
  | fanControlRestore (h : Head) (groups : BitVec 32)
  | fanControlClearFault (h : Head) (groups : BitVec 32)
  | defineFan (h : Head) (group : Nat) (zones : ZoneSet) (drives : List Nat) (fields : FanFields)
  | setFan (h : Head) (group : Nat) (zones : Option ZoneSet) (drives : Option (List Nat))
      (fields : FanFields)
  | retireFan (h : Head) (group : Nat)
  | readSign (h : Head) (sign : Nat)
  | defineSign (h : Head) (sign : Nat) (fields : SignFields)
  | setSign (h : Head) (sign : Nat) (change : SignChange)
  | retireSign (h : Head) (sign : Nat)
  | readLight (h : Head) (group : Nat)
  | lightOverride (h : Head) (group : Nat) (level duration : Option Nat)
  | defineLight (h : Head) (group zone node : Nat) (fields : LightFields)
  | setLight (h : Head) (group : Nat) (zone node : Option Nat) (fields : LightFields)
  | retireLight (h : Head) (group : Nat)
  | readNode (h : Head) (node : Nat)
  | defineNode (h : Head) (node span address kind : Nat) (zone : Option Nat)
  | retireNode (h : Head) (node : Nat)
  | suspendNode (h : Head) (node : Nat)
  | resumeNode (h : Head) (node : Nat)
  | readStatus (h : Head)
  | setPermit (h : Head) (cls mode : Nat) (zones : ZoneSet)
  | setPart (h : Head) (fields : PartFields)
  | readAttention (h : Head) (cls : Option Nat)
  | clearAttention (h : Head) (cls object : Nat)
  | setAttentionEnable (h : Head) (classes : Byte)
  | restart (h : Head)
  | badFrameAnswer (port : Port) (tag : Byte)
  | linkByteReceived (port : Port) (byte : Byte) (stopOk key : Bool)
  | frameGapTimeout (port : Port)
  | drainingEnd (port : Port)
  | replySent (port : Port) (key : Bool)
  | fullReset (pins : Pins)
  | secondsCountAdvance
  | fireLineEdge (level : Bool)
  | fireFilterDue
  | fireZoneCodeChange (value : BitVec 5)
  | pendingZoneDue
  | airEvaluationExpiry
  | fanStep
  | startSlotExpiry
  | proofTimerExpiry (group : Nat)
  | overrideExpiry (group : Nat)
  | reservationExpiry (bay : Nat)
  | holdExpiry (group : Nat)
  | rampStep (group : Nat)
  | lightOverrideExpiry (group : Nat)
  | roundStart (span : SpanId)
  | visitStart (span : SpanId)
  | spanByteReceived (span : SpanId) (byte : Byte) (stopOk : Bool)
  | answerLimitExpiry (span : SpanId)
  | answerGapTimeout (span : SpanId)
  | spanStuck (span : SpanId)
  | stuckSilencing (span : SpanId)
  | stuckRetry (span : SpanId) (idle : Bool)
  | unknownRequest (h : Head) (code : Nat) (payload : List Byte)
  deriving DecidableEq, Repr

end Sys2Proof
end

