-- ==== Sys2Proof/Decode.lean ====
section
/-! DEFINITION. The commands that a word spells. No row of spec/opcode_table.json gives bits: every
row's list of fields is empty, so no word of any width spells a command (log 32). -/

namespace Sys2Proof

/-- The rows of the table that give bits: their width and the command their bits spell. There is
none. -/
def wordRows : List (Nat × (Nat → Option Instr)) := []

/-- The command a word of `nbits` bits spells by the table's bits, the first row that reads it. -/
def decodeTableWord (nbits w : Nat) : Option Instr :=
  wordRows.findSome? (fun row => if row.1 = nbits then row.2 w else none)

end Sys2Proof
end

