-- ==== Sys2Proof/Config.lean ====
section
/-! DEFINITION. What the part fixes (the millisecond times of its filters and spans, its table
sizes) and its free values: constants without a body for what the spec leaves open. -/

namespace Sys2Proof.Config

/-- R103: a rise of the FIRE line is taken after 200 ms. -/
def fireRiseMs : Millis := 200
/-- R103: a fall of the FIRE line is taken after 2,000 ms. -/
def fireFallMs : Millis := 2000
/-- R105: a fire-zone code is latched after 200 ms. -/
def fireZoneMs : Millis := 200
/-- R157: a round begins 100 ms after the round before it began. -/
def roundMs : Millis := 100
/-- R158: a call goes out after 1 ms of idle line. -/
def idleLineMs : Millis := 1
/-- R159: the longest gap between two bytes of an answer. -/
def answerGapMs : Millis := 2
/-- R163: how long a line must have been busy for its span to become STUCK. -/
def stuckWatchMs : Millis := 20
/-- R163, R165: the retry interval of a stuck span. -/
def stuckRetryMs : Millis := 1000
/-- R164: the stay in STUCK after which the span's nodes are silenced. -/
def stuckSilenceMs : Millis := 10000
/-- R174, R175: the gap that ends a partial link frame (log 44), and the idle time that ends DRAINING. -/
def linkGapMs : Millis := 20
/-- R192: milliseconds in a second of the time base. -/
def secondMs : Millis := 1000

/-- R174: the start byte of a link frame, given in R196. -/
def startByte : Byte := 0xC3
/-- R198: the longest answer of any node kind, as a stated length. -/
def longestAnswer : Nat := 18

/-- Table sizes (R1, R27, R75, R116, R135, R154). -/
def bays : Nat := 2048
def zones : Nat := 32
def fans : Nat := 24
def signs : Nat := 64
def lights : Nat := 48
def nodes : Nat := 256
/-- R154: the most nodes one span carries. -/
def nodesPerSpan : Nat := 96
/-- R47: the most gas heads one zone has. -/
def headsPerZone : Nat := 4
/-- R81: the most entries an override stack holds. -/
def stackDepth : Nat := 4

/-- FREE VALUE (log 16). R53: "the evaluator gives them no order among themselves". The order in
which the `n`-th draw takes the given zones; used only where it is a permutation of them. -/
opaque evaluationOrder : Nat → List Nat → List Nat

/-- FREE VALUE (log 15). R159 speaks of the stop bit of an answer's first byte only. What the span
controller's receiver takes, at the `n`-th draw, from a later byte whose stop bit is bad: a byte of
the answer, or nothing. -/
opaque badStopByte : Nat → Byte → Option Byte

/-- FREE VALUE (log 17). R197 states no value for the slot expiry of the status view while the start
slot is idle. -/
opaque idleSlotExpiry : Nat → Seconds

end Sys2Proof.Config
end

