-- ==== Sys2Proof/Machine/State.lean ====
section
/-! DEFINITION. The state of the part as plain data: every record, queue, filter, timer, place and
line the spec names, the queue of waiting commands, and the machine right after a full reset. -/

namespace Sys2Proof.Machine

/-- A table of numbered records in one canonical form: numbers strictly rising. A number that is not
listed is an undefined record (spec/00 "Numbering"). -/
abbrev Table (α : Type) := List (Nat × α)

/-! ### Bays (spec/01) -/

/-- R199, bay kind. -/
inductive Kind where
  | general
  | family
  | accessible
  | charger
  deriving DecidableEq, Repr

/-- R199, bay state. -/
inductive BayState where
  | unknown
  | free
  | reserved
  | arriving
  | occupied
  | leaving
  deriving DecidableEq, Repr

/-- A set of marks (R11). -/
structure Marks where
  hold     : Bool
  watch    : Bool
  noCount  : Bool
  lampTest : Bool
  deriving DecidableEq, Repr

/-- R14: who holds a bay, and until when. -/
structure Reservation where
  tag    : Nat
  expiry : Seconds
  deriving DecidableEq, Repr

/-- A bay record (R1, table of 1.1); its number is its key. -/
structure Bay where
  zone        : Nat
  node        : Nat
  channel     : Nat
  kind        : Kind
  marks       : Marks
  state       : BayState
  confirm     : Nat
  reservation : Option Reservation
  since       : Seconds
  deriving DecidableEq, Repr

/-! ### Zones (spec/02) and their air (spec/03) -/

/-- The six state tallies (R28). -/
structure Tallies where
  unknown  : Nat
  free     : Nat
  reserved : Nat
  arriving : Nat
  occupied : Nat
  leaving  : Nat
  deriving DecidableEq, Repr

/-- The free count of each kind (R29). -/
structure FreeCounts where
  general    : Nat
  family     : Nat
  accessible : Nat
  charger    : Nat
  deriving DecidableEq, Repr

/-- R32, R199: the fill state. -/
inductive Fill where
  | hasRoom
  | full
  deriving DecidableEq, Repr

/-- The set of closure causes (R34). -/
structure Causes where
  operator : Bool
  fume     : Bool
  air      : Bool
  fire     : Bool
  deriving DecidableEq, Repr

/-- One gas's settings: weight w, start level L, full level H, warning W, alarm X, hysteresis Y. -/
structure GasSettings where
  weight : Nat
  start  : Nat
  full   : Nat
  warn   : Nat
  alarm  : Nat
  hyst   : Nat
  deriving DecidableEq, Repr

/-- A zone's settings beside its level: the fill settings of 2.1 and the air settings of 2.6. -/
structure ZoneSettings where
  fullAt          : Nat
  hysteresis      : Nat
  co              : GasSettings
  no2             : GasSettings
  alarmConfirm    : Nat
  clearConfirm    : Nat
  blindLimit      : Nat
  blindDemand     : Nat
  arrivalCredit   : Nat
  departureCredit : Nat
  decay           : Nat
  minDemand       : Nat
  deriving DecidableEq, Repr

/-- R63, R199: the fume state. -/
inductive Fume where
  | clear
  | warning
  | fume
  deriving DecidableEq, Repr

/-- R69, R199: the air status. -/
inductive AirStatus where
  | ok
  | lost
  deriving DecidableEq, Repr

/-- The air state of a zone (3.11); the heads count is computed. -/
structure AirState where
  coAvg         : Option Nat
  no2Avg        : Option Nat
  coOver        : Bool
  no2Over       : Bool
  blindCount    : Nat
  blind         : Bool
  fume          : Fume
  alarmCount    : Nat
  clearCount    : Nat
  credit        : Nat
  gasDemand     : Nat
  trafficDemand : Nat
  zoneDemand    : Nat
  status        : AirStatus
  deriving DecidableEq, Repr

/-- A zone record (R27, table of 2.1); its number is its key. -/
structure Zone where
  level    : Nat
  tallies  : Tallies
  total    : Nat
  free     : FreeCounts
  fill     : Fill
  causes   : Causes
  settings : ZoneSettings
  air      : AirState
  deriving DecidableEq, Repr

/-! ### Fan groups (spec/04) -/

/-- The four classes; `fire` is carried by override entries only (spec/00 "Client classes"). -/
inductive Cls where
  | facility
  | operator
  | service
  | fire
  deriving DecidableEq, Repr

/-- R199: the state of a fan group. -/
inductive FanState where
  | stopped
  | waiting
  | running
  | isolated
  | fault
  deriving DecidableEq, Repr

/-- R199: why a group is in FAULT. -/
inductive FaultCause where
  | startFail
  | runLost
  | allDrives
  deriving DecidableEq, Repr

/-- R77: what a drive last reported. -/
structure DriveReport where
  running : Bool
  speed   : Nat
  fault   : Bool
  deriving DecidableEq, Repr

/-- One drive of a group: its FAN node and its report. -/
structure Drive where
  node   : Nat
  report : Option DriveReport
  deriving DecidableEq, Repr

/-- One override entry (4.3). -/
structure Entry where
  cls    : Cls
  level  : Nat
  expiry : Option Seconds
  tag    : Nat
  deriving DecidableEq, Repr

/-- R79: the proof timer of a RUNNING group. -/
structure Proof where
  expiry : Seconds
  proven : Bool
  deriving DecidableEq, Repr

/-- The settings of a group (table of 4.1). -/
structure FanSettings where
  vmin    : Nat
  su      : Nat
  sd      : Nat
  minRun  : Nat
  fireIn  : Nat
  fireOut : Nat
  deriving DecidableEq, Repr

/-- A fan group record (R75, table of 4.1); its number is its key. The stack is listed bottom first. -/
structure Fan where
  served     : ZoneSet
  drives     : List Drive
  settings   : FanSettings
  state      : FanState
  target     : Nat
  commanded  : Nat
  stack      : List Entry
  grantedAt  : Option Seconds
  proof      : Option Proof
  degraded   : Bool
  faultCause : Option FaultCause
  deriving DecidableEq, Repr

/-! ### Fire monitor (spec/05) -/

/-- R103 to R105. `taken` is the filter's taken level (true for ASSERTED), so fire mode is active
exactly while it is true (R104). -/
structure FireMonitor where
  line        : Bool
  taken       : Bool
  change      : Option Millis
  zone        : Option Nat
  codes       : BitVec 5
  pendingZone : Option (Nat × Millis)
  deriving DecidableEq, Repr

/-! ### Signs (spec/06) -/

/-- R199: the kind of a sign. -/
inductive SignKind where
  | count
  | arrow
  | both
  deriving DecidableEq, Repr

/-- R199: arrow codes. -/
inductive Arrow where
  | dark
  | left
  | right
  | ahead
  | up
  | down
  | back
  | cross
  deriving DecidableEq, Repr

/-- R118, R199: the word of a sign. -/
inductive SignWord where
  | dark
  | full
  | closed
  deriving DecidableEq, Repr

/-- A set of bay kinds. -/
structure KindSet where
  general    : Bool
  family     : Bool
  accessible : Bool
  charger    : Bool
  deriving DecidableEq, Repr

/-- R118: a sign's content; a digit position is blank when absent. -/
structure Content where
  word     : SignWord
  hundreds : Option Nat
  tens     : Option Nat
  units    : Option Nat
  arrow    : Arrow
  deriving DecidableEq, Repr

/-- The definition of a sign (6.1). -/
structure SignDef where
  node       : Nat
  kind       : SignKind
  countZones : ZoneSet
  countKinds : KindSet
  fullAt     : Nat
  termA      : ZoneSet
  termB      : ZoneSet
  out0       : Arrow
  out1       : Arrow
  out2       : Arrow
  out3       : Arrow
  deriving DecidableEq, Repr

/-- A sign record (R116, table of 6.1); its number is its key. -/
structure Sign where
  config       : SignDef
  content      : Content
  accepted     : Option Content
  sent         : Option Content
  dirty        : Bool
  unseen       : Bool
  displayFault : Option Bool
  deriving DecidableEq, Repr

/-! ### Luminaire groups (spec/07) -/

/-- R199: the state of a luminaire group. -/
inductive LightState where
  | economy
  | active
  | ramping
  | forced
  deriving DecidableEq, Repr

/-- R142: a level override. -/
structure LightOverride where
  level  : Nat
  expiry : Option Seconds
  deriving DecidableEq, Repr

/-- The settings of a luminaire group (table of 7.1). -/
structure LightSettings where
  economy  : Nat
  active   : Nat
  hold     : Nat
  rampRate : Nat
  deriving DecidableEq, Repr

/-- A luminaire group record (R135, table of 7.1); its number is its key. `nextRamp` is the second of
the next ramp step of a RAMPING group (R138, "at each later second"; log 5). -/
structure Light where
  zone        : Nat
  node        : Nat
  settings    : LightSettings
  state       : LightState
  policy      : Nat
  holdExpiry  : Option Seconds
  nextRamp    : Option Seconds
  ovr         : Option LightOverride
  level       : Nat
  applied     : Option Nat
  failedLamps : Option Nat
  unseen      : Bool
  deriving DecidableEq, Repr

/-! ### Nodes and spans (spec/08) -/

/-- R199: node kinds. -/
inductive NodeKind where
  | sensor
  | gas
  | dimmer
  | fan
  | sign
  deriving DecidableEq, Repr

/-- R199: liveness. -/
inductive Liveness where
  | unseen
  | live
  | silent
  | suspended
  deriving DecidableEq, Repr

/-- R159, R199: the outcome of a failed visit. -/
inductive VisitError where
  | noAnswer
  | cut
  | check
  | stray
  deriving DecidableEq, Repr

/-- R49, R199: the head status of a gas head. -/
inductive HeadStatus where
  | unreported
  | ready
  | warmup
  | fault
  deriving DecidableEq, Repr

/-- R50: a period peak. -/
structure Peak where
  value     : Nat
  overRange : Bool
  deriving DecidableEq, Repr

/-- What the air evaluator holds for a gas head (R49, R50); at its start value for other kinds. -/
structure GasHead where
  coPeak  : Option Peak
  no2Peak : Option Peak
  status  : HeadStatus
  deriving DecidableEq, Repr

/-- A node record (R154, table of 8.1); its index is its key. -/
structure Node where
  span           : SpanId
  address        : Nat
  kind           : NodeKind
  zone           : Option Nat
  liveness       : Liveness
  missCount      : Nat
  lastError      : Option VisitError
  roundsPassed   : Nat
  due            : Bool
  suspendPending : Bool
  head           : GasHead
  deriving DecidableEq, Repr

/-- What becomes of a visit's outcome: applied, or discarded because the node was retired (R170),
because RESTART took effect (R172), or because of both. -/
inductive VisitFate where
  | counted
  | retired
  | restarted
  | restartedRetired
  deriving DecidableEq, Repr

/-- A visit in flight (R156, R158): the node, its address and kind as called, the call as built, the
answer so far, and when the wait began. `rebound` keeps a gas answer from the evaluator (R169). -/
structure Visit where
  node     : Nat
  address  : Nat
  kind     : NodeKind
  call     : List Byte
  answer   : List Byte
  waitFrom : Millis
  limit    : Millis
  lastByte : Millis
  fate     : VisitFate
  rebound  : Bool
  deriving DecidableEq, Repr

/-- R163 to R165: when a span became STUCK, its next retry, and whether R164 has been done. -/
structure Stuck where
  since    : Millis
  retry    : Millis
  silenced : Bool
  deriving DecidableEq, Repr

/-- The state of one span controller (R156); STUCK while `stuck` is present. `inRound` says that the
round begun at `roundStart` has not ended (log 20); `lineAt` is the last line activity known. `watchFrom`
is the stuck watch (R163, R192): the last moment at which the part knows the line not to have been busy,
since which it may have been busy without a break of 1 ms (log 42). -/
structure Span where
  stuck      : Option Stuck
  position   : Option Nat
  roundStart : Millis
  inRound    : Bool
  visit      : Option Visit
  lineAt     : Millis
  watchFrom  : Millis
  deriving DecidableEq, Repr

/-! ### Links and attention (spec/09, spec/10) -/

/-- R174, R175: a port's receiver; `receiving` holds the bytes after the start byte. -/
inductive Receiver where
  | hunting
  | receiving (bytes : List Byte)
  | draining
  deriving DecidableEq, Repr

/-- R199: result codes. -/
inductive Result where
  | ok
  | okMasked
  | badFrame
  | classRefused
  | unknownRequest
  | badLength
  | badValue
  | denied
  | noSuch
  | alreadyDefined
  | conflict
  | inUse
  | notFree
  | notHolder
  | stackFull
  | stackEmpty
  | outranked
  | fireLock
  deriving DecidableEq, Repr

/-- R181: a reply as fixed when its request was taken. -/
structure Reply where
  tag     : Byte
  result  : Result
  payload : List Byte
  deriving DecidableEq, Repr

/-- R176, R177: the occupied service place: what was taken, and its reply, being sent. -/
structure Service where
  item  : Placed
  reply : Reply
  deriving DecidableEq, Repr

/-- R186: attention classes in priority order. -/
inductive AttClass where
  | fire
  | air
  | fan
  | node
  | bay
  | link
  deriving DecidableEq, Repr

/-- R186, R199: reasons. -/
inductive Reason where
  | asserted
  | released
  | zoneChanged
  | fumeEntered
  | fumeLeft
  | airLost
  | airRestored
  | blind
  | fault
  | degraded
  | displaced
  | isolatedInFire
  | silent
  | restored
  | headFault
  | stuck
  | freed
  | watchChange
  | reservationExpired
  | overrun
  deriving DecidableEq, Repr

/-- R187, R188: one attention set, per class its pending objects with their reasons, and its
enables. -/
structure AttSet where
  fire    : Table Reason
  air     : Table Reason
  fan     : Table Reason
  node    : Table Reason
  bay     : Table Reason
  link    : Table Reason
  enables : Byte
  deriving DecidableEq, Repr

/-- R173: one port with its attention set and attention line. -/
structure PortState where
  receiver : Receiver
  lastByte : Millis
  service  : Option Service
  waiting  : Option Placed
  att      : AttSet
  attn     : Bool
  deriving DecidableEq, Repr

/-- The part-wide settings (9.5). -/
structure PartSettings where
  airPeriod        : Nat
  fanPeriod        : Nat
  startInterval    : Nat
  arrivalConfirm   : Nat
  departureConfirm : Nat
  proofTime        : Nat
  missLimit        : Nat
  limit0           : Nat
  limit1           : Nat
  limit2           : Nat
  limit3           : Nat
  revisit          : Nat
  deriving DecidableEq, Repr

/-! ### The whole part -/

/-- Everything the spec gives the part, and the queue of waiting commands. -/
structure State where
  /-- The commands that wait, the next one first. -/
  pending     : List Instr
  /-- The seconds count (R192). -/
  seconds     : Seconds
  /-- The millisecond timing (R192). -/
  ms          : Millis
  /-- The millisecond at which the running second began (R192). -/
  secondAt    : Millis
  /-- The rate code read from the straps (R173). -/
  rate        : BitVec 2
  /-- SERVICE KEY as last sampled (R178). -/
  serviceKey  : Bool
  bays        : Table Bay
  zones       : Table Zone
  /-- Next expiry of the air evaluation timer (R52). -/
  airNext     : Seconds
  fans        : Table Fan
  /-- The start queue, head first (R92). -/
  queue       : List Nat
  /-- The start slot: busy with this expiry, or idle (R90). -/
  slot        : Option Seconds
  /-- Next expiry of the fan step timer (R86). -/
  fanNext     : Seconds
  fire        : FireMonitor
  signs       : Table Sign
  lights      : Table Light
  /-- R139: set while fire mode is active. -/
  fireFlag    : Bool
  /-- R139: the zones reported in FUME. -/
  fumeSet     : ZoneSet
  nodes       : Table Node
  span0       : Span
  span1       : Span
  span2       : Span
  span3       : Span
  main        : PortState
  panel       : PortState
  /-- Permit map of FACILITY (R182). -/
  facilityMap : ZoneSet
  /-- Permit map of OPERATOR (R182). -/
  operatorMap : ZoneSet
  settings    : PartSettings
  /-- The model's own: how many free values have been drawn (log 36). -/
  freeCount   : Nat
  deriving DecidableEq, Repr

/-- Why a command would stop the part. The spec gives every command an effect in every state, so
there is no such reason: nothing raises a fault (safe; log 31). -/
inductive Fault where
  deriving DecidableEq, Repr

/-- Why a command is not run. -/
inductive Refusal where
  /-- Raised by `exec`'s arm of a command that has no meaning yet; safe, because no next state is
  claimed. No arm raises it in this model. -/
  | notModelled (mnemonic : String)
  deriving DecidableEq, Repr

/-! ### Values after a full reset -/

/-- R187, R188: both sets and both enable sets are empty. -/
def AttSet.empty : AttSet :=
  { fire := [], air := [], fan := [], node := [], bay := [], link := [], enables := 0 }

/-- R173: the port after a full reset. -/
def PortState.reset : PortState :=
  { receiver := .hunting, lastByte := 0, service := none, waiting := none, att := AttSet.empty,
    attn := false }

/-- R156: the span after a full reset; its first round begins at once and, no node being defined,
ends as soon as it begins. The stuck watch runs from the full reset on. -/
def Span.reset : Span :=
  { stuck := none, position := none, roundStart := 0, inRound := false, visit := none, lineAt := 0,
    watchFrom := 0 }

/-- The defaults of 9.5. -/
def PartSettings.default : PartSettings :=
  { airPeriod := 10, fanPeriod := 5, startInterval := 5, arrivalConfirm := 3,
    departureConfirm := 4, proofTime := 15, missLimit := 3, limit0 := 8, limit1 := 8, limit2 := 8,
    limit3 := 8, revisit := 8 }

/-- R103, R104: the monitor after a full reset with the lines at the given levels: taken level
CLEAR, and a pending rise due 200 ms later if the raw line is asserted. -/
def FireMonitor.reset (line : Bool) (codes : BitVec 5) : FireMonitor :=
  { line := line, taken := false, change := if line then some Config.fireRiseMs else none,
    zone := none, codes := codes, pendingZone := none }

/-- R173: the rate code of the straps, in the order of the rate table of 9.1. -/
def rateCode (p : Pins) : BitVec 2 := (BitVec.ofBool p.rate1) ++ (BitVec.ofBool p.rate0)

/-- R193: the part as a full reset leaves it, with its input pins at the given levels and `pending`
commands waiting. The timers run from the start: the first air evaluation at the default E (R52),
the first fan step at the default period (R86). -/
def State.fresh (p : Pins) (pending : List Instr) : State :=
  { pending := pending, seconds := 0, ms := 0, secondAt := 0, rate := rateCode p,
    serviceKey := p.key, bays := [], zones := [], airNext := 10, fans := [], queue := [],
    slot := none, fanNext := 5, fire := FireMonitor.reset p.fireLine p.codes, signs := [],
    lights := [], fireFlag := false, fumeSet := 0, nodes := [], span0 := Span.reset,
    span1 := Span.reset, span2 := Span.reset, span3 := Span.reset, main := PortState.reset,
    panel := PortState.reset, facilityMap := 0, operatorMap := 0, settings := PartSettings.default,
    freeCount := 0 }

/-- DESIGN CHOICE (log 7, unsafe): the input pins at `State.reset` are all low. -/
def pinsLow : Pins :=
  { rate1 := false, rate0 := false, fireLine := false, codes := 0, key := false }

/-- The machine right after a full reset (R193), nothing waiting. -/
def State.reset : State := State.fresh pinsLow []

end Sys2Proof.Machine
end

