-- ==== Sys2Proof/Machine/Tables.lean ====
section
/-! DEFINITION. The operations on tables of numbered records. Every write keeps the numbers strictly
rising, so that equal tables are equal data. -/

namespace Sys2Proof.Machine

/-- The record at a number, or none where it is undefined. -/
def Table.get {α : Type} : Table α → Nat → Option α
  | [], _ => none
  | (j, a) :: rest, k => if j = k then some a else Table.get rest k

/-- Whether a number is defined. -/
def Table.has {α : Type} (t : Table α) (k : Nat) : Bool := (Table.get t k).isSome

/-- Define or replace the record at a number. -/
def Table.set {α : Type} : Table α → Nat → α → Table α
  | [], k, a => [(k, a)]
  | (j, b) :: rest, k, a =>
    if k < j then (k, a) :: (j, b) :: rest
    else if j = k then (k, a) :: rest
    else (j, b) :: Table.set rest k a

/-- Make a number undefined. -/
def Table.erase {α : Type} : Table α → Nat → Table α
  | [], _ => []
  | (j, b) :: rest, k => if j = k then rest else (j, b) :: Table.erase rest k

/-- Change the record at a number, if it is defined. -/
def Table.modify {α : Type} (t : Table α) (k : Nat) (f : α → α) : Table α :=
  match Table.get t k with
  | some a => Table.set t k (f a)
  | none => t

/-- Change every record. -/
def Table.update {α : Type} (f : Nat → α → α) : Table α → Table α
  | [] => []
  | (j, a) :: rest => (j, f j a) :: Table.update f rest

/-- The defined numbers, rising. -/
def Table.keys {α : Type} (t : Table α) : List Nat := t.map (fun e => e.1)

/-- The number of the first record that meets a condition. -/
def Table.find {α : Type} (p : Nat → α → Bool) : Table α → Option Nat
  | [] => none
  | (j, a) :: rest => if p j a then some j else Table.find p rest

/-- Whether some record meets a condition. -/
def Table.exists {α : Type} (t : Table α) (p : Nat → α → Bool) : Bool := (Table.find p t).isSome

/-- How many records meet a condition. -/
def Table.countOf {α : Type} (t : Table α) (p : Nat → α → Bool) : Nat :=
  (t.filter (fun e => p e.1 e.2)).length

/-- The canonical form: numbers strictly rising and below the table's size. -/
abbrev Table.wf {α : Type} (size : Nat) (t : Table α) : Prop :=
  (Table.keys t).Pairwise (· < ·) ∧ ∀ k ∈ Table.keys t, k < size

end Sys2Proof.Machine
end

