-- ==== Sys2Proof/Machine/Ops.lean ====
section
/-! DEFINITION. The named operations on the state: one update per part of it, the two ports and four
spans by name, sets of zones, and the time base with its 32-bit expiries (R192). -/

namespace Sys2Proof.Machine

/-! ### Updates, one per part -/

def State.withBays (s : State) (t : Table Bay) : State := { s with bays := t }
def State.withZones (s : State) (t : Table Zone) : State := { s with zones := t }
def State.withFans (s : State) (t : Table Fan) : State := { s with fans := t }
def State.withQueue (s : State) (q : List Nat) : State := { s with queue := q }
def State.withSlot (s : State) (e : Option Seconds) : State := { s with slot := e }
def State.withFire (s : State) (f : FireMonitor) : State := { s with fire := f }
def State.withSigns (s : State) (t : Table Sign) : State := { s with signs := t }
def State.withLights (s : State) (t : Table Light) : State := { s with lights := t }
def State.withFireFlag (s : State) (b : Bool) : State := { s with fireFlag := b }
def State.withFumeSet (s : State) (z : ZoneSet) : State := { s with fumeSet := z }
def State.withNodes (s : State) (t : Table Node) : State := { s with nodes := t }
def State.withClock (s : State) (t second : Millis) (count : Seconds) : State :=
  { s with ms := t, secondAt := second, seconds := count }
def State.withKey (s : State) (b : Bool) : State := { s with serviceKey := b }
def State.withSettings (s : State) (p : PartSettings) : State := { s with settings := p }
def State.withAirNext (s : State) (e : Seconds) : State := { s with airNext := e }
def State.withFanNext (s : State) (e : Seconds) : State := { s with fanNext := e }
def State.withFreeCount (s : State) (n : Nat) : State := { s with freeCount := n }

/-! ### Ports and spans by name -/

def State.port (s : State) : Port → PortState
  | .main => s.main
  | .panel => s.panel

def State.withPort (s : State) (p : Port) (v : PortState) : State :=
  match p with
  | .main => { s with main := v }
  | .panel => { s with panel := v }

/-- The number of a port as an attention object (R176): 0 for MAIN, 1 for PANEL. -/
def portObject : Port → Nat
  | .main => 0
  | .panel => 1

def State.span (s : State) : SpanId → Span
  | .span0 => s.span0
  | .span1 => s.span1
  | .span2 => s.span2
  | .span3 => s.span3

def State.withSpan (s : State) (i : SpanId) (v : Span) : State :=
  match i with
  | .span0 => { s with span0 := v }
  | .span1 => { s with span1 := v }
  | .span2 => { s with span2 := v }
  | .span3 => { s with span3 := v }

def spanNumber : SpanId → Nat
  | .span0 => 0
  | .span1 => 1
  | .span2 => 2
  | .span3 => 3

def spanOfNumber : Nat → Option SpanId
  | 0 => some .span0
  | 1 => some .span1
  | 2 => some .span2
  | 3 => some .span3
  | _ => none

/-! ### The time base (R192) -/

/-- An expiry value: the current count plus a duration, "in the same 32-bit arithmetic" (R192). -/
def State.expiryIn (s : State) (duration : Nat) : Seconds := s.seconds + BitVec.ofNat 32 duration

/-- R192: an expiry falls due when the seconds count reaches its value. DEDUCED (log 4): it stays due
while the count has passed it by less than half the count's range, so an expiry taken late is still
taken, and one that lies ahead is not due. -/
def reached (now expiry : Seconds) : Bool := decide ((now - expiry).toNat < 2147483648)

/-- Whether an optional expiry is present and due. -/
def dueNow (now : Seconds) : Option Seconds → Bool
  | some e => reached now e
  | none => false

/-- R192: the millisecond timing goes on to a moment, and never back; each 1,000 ms it passes advance
the seconds count by 1. DESIGN CHOICE (log 3): a command that reports a millisecond event carries the
time base forward to that event's moment. -/
def State.atMs (s : State) (t : Millis) : State :=
  let now := max s.ms t
  let passed := (now - s.secondAt) / Config.secondMs
  s.withClock now (s.secondAt + passed * Config.secondMs) (s.seconds + BitVec.ofNat 32 passed)

/-! ### Sets of zones -/

/-- The members of a zone set, rising. -/
def zonesIn (m : ZoneSet) : List Nat := (List.range 32).filter (fun z => m.getLsbD z)

/-- The set holding one zone number. -/
def zoneSingle (z : Nat) : ZoneSet := (1 : ZoneSet) <<< z

/-- The records of the defined zones in a set. -/
def State.zoneRecords (s : State) (m : ZoneSet) : List Zone :=
  (zonesIn m).filterMap (fun z => Table.get s.zones z)

/-- Run an operation over a list of numbers, in the list's order. -/
def State.forEach (f : Nat → State → State) : List Nat → State → State
  | [], s => s
  | n :: rest, s => State.forEach f rest (f n s)

end Sys2Proof.Machine
end

