-- ==== Sys2Proof/Machine/Flags.lean ====
section
/-! DEFINITION. The attention unit (spec/10): items entered in both sets (R187), the two attention
lines (R189), and what a read and a clear find (R190, R191). -/

namespace Sys2Proof.Machine

/-- R186: the classes by priority, highest first. -/
def attClasses : List AttClass := [.fire, .air, .fan, .node, .bay, .link]

/-- R199: class codes. -/
def AttClass.code : AttClass → Nat
  | .fire => 0
  | .air => 1
  | .fan => 2
  | .node => 3
  | .bay => 4
  | .link => 5

def AttClass.ofCode : Nat → Option AttClass
  | 0 => some .fire
  | 1 => some .air
  | 2 => some .fan
  | 3 => some .node
  | 4 => some .bay
  | 5 => some .link
  | _ => none

/-- R186, column Objects: how many objects a class has, numbered from 0. -/
def AttClass.objects : AttClass → Nat
  | .fire => 1
  | .air => 32
  | .fan => 24
  | .node => 260
  | .bay => 2048
  | .link => 2

/-- The pending objects of one class. -/
def AttSet.items (a : AttSet) : AttClass → Table Reason
  | .fire => a.fire
  | .air => a.air
  | .fan => a.fan
  | .node => a.node
  | .bay => a.bay
  | .link => a.link

def AttSet.withItems (a : AttSet) (c : AttClass) (t : Table Reason) : AttSet :=
  match c with
  | .fire => { a with fire := t }
  | .air => { a with air := t }
  | .fan => { a with fan := t }
  | .node => { a with node := t }
  | .bay => { a with bay := t }
  | .link => { a with link := t }

/-- Whether a class is in the enable set (R188). -/
def AttSet.enabled (a : AttSet) (c : AttClass) : Bool := a.enables.getLsbD c.code

/-- R189: the line's condition, at least one pending item of an enabled class. -/
def AttSet.asserted (a : AttSet) : Bool :=
  attClasses.any (fun c => a.enabled c && !(a.items c).isEmpty)

/-- R189: give a port a new attention set and judge its line again. -/
def PortState.withAtt (p : PortState) (a : AttSet) : PortState :=
  { p with att := a, attn := a.asserted }

/-- R187: an object becomes pending with the reason, or its reason is replaced. -/
def AttSet.enter (a : AttSet) (c : AttClass) (object : Nat) (r : Reason) : AttSet :=
  a.withItems c (Table.set (a.items c) object r)

/-- R191: an item leaves the set. -/
def AttSet.clear (a : AttSet) (c : AttClass) (object : Nat) : AttSet :=
  a.withItems c (Table.erase (a.items c) object)

/-- R194: empty the set and keep the enables. -/
def AttSet.emptied (a : AttSet) : AttSet := { AttSet.empty with enables := a.enables }

/-- R187: raise an item; it is entered in both sets, and both lines are judged (R189). -/
def State.raise (s : State) (c : AttClass) (object : Nat) (r : Reason) : State :=
  { s with
    main := s.main.withAtt (s.main.att.enter c object r)
    panel := s.panel.withAtt (s.panel.att.enter c object r) }

/-- R190: the class a read chooses: the named one, enabled or not, or the highest enabled one with an item.
DEDUCED (log 45): R188's words that no read finds an item while the enables are empty are taken of reads
without a class. -/
def AttSet.chosen (a : AttSet) : Option AttClass → Option AttClass
  | some c => if (a.items c).isEmpty then none else some c
  | none => attClasses.find? (fun c => a.enabled c && !(a.items c).isEmpty)

end Sys2Proof.Machine
end

