-- ==== Sys2Proof/Machine/Codes.lean ====
section
/-! DEFINITION. The code lists of R199: the byte a reply or call carries for each name, and back for
the names a request carries. Each code is its place in its list, counting from 0. -/

namespace Sys2Proof.Machine

/-- R199, result. -/
def Result.code : Result → Nat
  | .ok => 0
  | .okMasked => 1
  | .badFrame => 2
  | .classRefused => 3
  | .unknownRequest => 4
  | .badLength => 5
  | .badValue => 6
  | .denied => 7
  | .noSuch => 8
  | .alreadyDefined => 9
  | .conflict => 10
  | .inUse => 11
  | .notFree => 12
  | .notHolder => 13
  | .stackFull => 14
  | .stackEmpty => 15
  | .outranked => 16
  | .fireLock => 17

/-- R199, bay state. -/
def BayState.code : BayState → Nat
  | .unknown => 0
  | .free => 1
  | .reserved => 2
  | .arriving => 3
  | .occupied => 4
  | .leaving => 5

/-- R199, bay kind. -/
def Kind.code : Kind → Nat
  | .general => 0
  | .family => 1
  | .accessible => 2
  | .charger => 3

/-- R199, bay kind; a code with no place in its list is none (R200). -/
def Kind.ofCode : Nat → Option Kind
  | 0 => some .general
  | 1 => some .family
  | 2 => some .accessible
  | 3 => some .charger
  | _ => none

/-- R199, fill. -/
def Fill.code : Fill → Nat
  | .hasRoom => 0
  | .full => 1

/-- R199, fume. -/
def Fume.code : Fume → Nat
  | .clear => 0
  | .warning => 1
  | .fume => 2

/-- R199, air status. -/
def AirStatus.code : AirStatus → Nat
  | .ok => 0
  | .lost => 1

/-- R199, fan state. -/
def FanState.code : FanState → Nat
  | .stopped => 0
  | .waiting => 1
  | .running => 2
  | .isolated => 3
  | .fault => 4

/-- R199, fault cause. -/
def FaultCause.code : FaultCause → Nat
  | .startFail => 0
  | .runLost => 1
  | .allDrives => 2

/-- R199, light state. -/
def LightState.code : LightState → Nat
  | .economy => 0
  | .active => 1
  | .ramping => 2
  | .forced => 3

/-- R199, node kind. -/
def NodeKind.code : NodeKind → Nat
  | .sensor => 0
  | .gas => 1
  | .dimmer => 2
  | .fan => 3
  | .sign => 4

/-- R199, node kind; a code with no place in its list is none (R200). -/
def NodeKind.ofCode : Nat → Option NodeKind
  | 0 => some .sensor
  | 1 => some .gas
  | 2 => some .dimmer
  | 3 => some .fan
  | 4 => some .sign
  | _ => none

/-- R199, liveness. -/
def Liveness.code : Liveness → Nat
  | .unseen => 0
  | .live => 1
  | .silent => 2
  | .suspended => 3

/-- R199, last error. -/
def VisitError.code : VisitError → Nat
  | .noAnswer => 0
  | .cut => 1
  | .check => 2
  | .stray => 3

/-- R199, head status. -/
def HeadStatus.code : HeadStatus → Nat
  | .unreported => 0
  | .ready => 1
  | .warmup => 2
  | .fault => 3

/-- R199, arrow. -/
def Arrow.code : Arrow → Nat
  | .dark => 0
  | .left => 1
  | .right => 2
  | .ahead => 3
  | .up => 4
  | .down => 5
  | .back => 6
  | .cross => 7

/-- R199, arrow; a code with no place in its list is none (R200). -/
def Arrow.ofCode : Nat → Option Arrow
  | 0 => some .dark
  | 1 => some .left
  | 2 => some .right
  | 3 => some .ahead
  | 4 => some .up
  | 5 => some .down
  | 6 => some .back
  | 7 => some .cross
  | _ => none

/-- R199, word. -/
def SignWord.code : SignWord → Nat
  | .dark => 0
  | .full => 1
  | .closed => 2

/-- R199, sign kind. -/
def SignKind.code : SignKind → Nat
  | .count => 0
  | .arrow => 1
  | .both => 2

/-- R199, sign kind; a code with no place in its list is none (R200). -/
def SignKind.ofCode : Nat → Option SignKind
  | 0 => some .count
  | 1 => some .arrow
  | 2 => some .both
  | _ => none

/-- R199, reason. -/
def Reason.code : Reason → Nat
  | .asserted => 0
  | .released => 1
  | .zoneChanged => 2
  | .fumeEntered => 3
  | .fumeLeft => 4
  | .airLost => 5
  | .airRestored => 6
  | .blind => 7
  | .fault => 8
  | .degraded => 9
  | .displaced => 10
  | .isolatedInFire => 11
  | .silent => 12
  | .restored => 13
  | .headFault => 14
  | .stuck => 15
  | .freed => 16
  | .watchChange => 17
  | .reservationExpired => 18
  | .overrun => 19

/-- Classes are sent as their ranks (R199), which also order them (spec/00 "Client classes"). -/
def Cls.rank : Cls → Nat
  | .facility => 1
  | .operator => 2
  | .service => 3
  | .fire => 4

def Cls.ofRank : Nat → Option Cls
  | 1 => some .facility
  | 2 => some .operator
  | 3 => some .service
  | 4 => some .fire
  | _ => none

/-- R199: the modes of CHANGE_BAY, REPLACE, SET, CLEAR, and of SET_PERMIT, REPLACE, GRANT, REVOKE. -/
inductive Mode where
  | replace
  | add
  | remove
  deriving DecidableEq, Repr

def Mode.ofCode : Nat → Option Mode
  | 0 => some .replace
  | 1 => some .add
  | 2 => some .remove
  | _ => none

/-- R199: the actions of FAN_CONTROL. -/
inductive FanAction where
  | isolate
  | restore
  | clearFault
  deriving DecidableEq, Repr

def FanAction.ofCode : Nat → Option FanAction
  | 0 => some .isolate
  | 1 => some .restore
  | 2 => some .clearFault
  | _ => none

/-- R195: a set of marks as a mask in one byte. -/
def Marks.mask (m : Marks) : Nat :=
  m.hold.toNat + 2 * m.watch.toNat + 4 * m.noCount.toNat + 8 * m.lampTest.toNat

/-- R195, R200: a mask byte with a bit beyond the last mark is no set of marks. -/
def Marks.ofMask (b : Byte) : Option Marks :=
  if b.toNat < 16 then
    some { hold := b.getLsbD 0, watch := b.getLsbD 1, noCount := b.getLsbD 2, lampTest := b.getLsbD 3 }
  else none

/-- R195: a set of closure causes as a mask in one byte. -/
def Causes.mask (c : Causes) : Nat :=
  c.operator.toNat + 2 * c.fume.toNat + 4 * c.air.toNat + 8 * c.fire.toNat

/-- R195: a set of bay kinds as a mask in one byte. -/
def KindSet.mask (k : KindSet) : Nat :=
  k.general.toNat + 2 * k.family.toNat + 4 * k.accessible.toNat + 8 * k.charger.toNat

/-- R195, R200: a mask byte with a bit beyond the last kind is no set of kinds. -/
def KindSet.ofMask (b : Byte) : Option KindSet :=
  if b.toNat < 16 then
    some { general := b.getLsbD 0, family := b.getLsbD 1, accessible := b.getLsbD 2,
           charger := b.getLsbD 3 }
  else none

def KindSet.has (s : KindSet) : Kind → Bool
  | .general => s.general
  | .family => s.family
  | .accessible => s.accessible
  | .charger => s.charger

/-- R199: the code a channel reading carries. -/
inductive Reading where
  | vacant
  | present
  | fault
  | unused
  deriving DecidableEq, Repr

/-- R199, R201: a reading code above 3 is taken as FAULT. -/
def Reading.ofByte (b : Byte) : Reading :=
  match b.toNat with
  | 0 => .vacant
  | 1 => .present
  | 2 => .fault
  | 3 => .unused
  | _ => .fault

/-- R199, R201: the status of a gas answer; a status above 2 is taken as FAULT. -/
def HeadStatus.ofGasStatus (b : Byte) : HeadStatus :=
  match b.toNat with
  | 0 => .ready
  | 1 => .warmup
  | _ => .fault

/-- R199: lamp codes. -/
inductive Lamp where
  | off
  | whiteFlashing
  | whiteSteady
  | amberSteady
  | amberFlashing
  | redSteady
  | blueSteady
  | greenSteady
  | greenFlashing
  deriving DecidableEq, Repr

def Lamp.code : Lamp → Nat
  | .off => 0
  | .whiteFlashing => 1
  | .whiteSteady => 2
  | .amberSteady => 3
  | .amberFlashing => 4
  | .redSteady => 5
  | .blueSteady => 6
  | .greenSteady => 7
  | .greenFlashing => 8

end Sys2Proof.Machine
end

