-- ==== Sys2Proof/Machine/Layout.lean ====
section
/-! DEFINITION. Field encodings and frames (spec/11): numbers most significant byte first, optional
fields, the check byte, reply frames and span calls. -/

namespace Sys2Proof.Machine

/-- A number in one byte. -/
def byte (n : Nat) : Byte := BitVec.ofNat 8 n

/-- R195: a flag, 0 clear or no, 1 set or yes. -/
def flagByte (b : Bool) : Byte := byte b.toNat

/-- A number in two bytes, most significant first. -/
def bytes2 (n : Nat) : List Byte := [byte (n / 256), byte n]

/-- A number in four bytes, most significant first. -/
def bytes4 (n : Nat) : List Byte :=
  [byte (n / 16777216), byte (n / 65536), byte (n / 256), byte n]

/-- R195: a seconds value. -/
def secondsBytes (v : Seconds) : List Byte := bytes4 v.toNat

/-- R195: a zone set, zone n at bit n. -/
def zoneSetBytes (m : ZoneSet) : List Byte := bytes4 m.toNat

/-- `n` zero bytes. -/
def zeros (n : Nat) : List Byte := List.replicate n 0

/-- R195: an optional field whose value takes `size` bytes: a presence byte, then the value's bytes,
zeros when absent. -/
def optBytes {α : Type} (size : Nat) (f : α → List Byte) : Option α → List Byte
  | some a => byte 1 :: f a
  | none => byte 0 :: zeros size

/-- R195: an optional one-byte number. -/
def optByte (o : Option Nat) : List Byte := optBytes 1 (fun n => [byte n]) o

/-- R196, R198: the sum of the given bytes, modulo 256. -/
def byteSum (l : List Byte) : Byte := l.foldl (fun a b => a + b) 0

/-- R196: the value that makes the sum of the bytes and itself 0 modulo 256. -/
def checkByte (l : List Byte) : Byte := 0 - byteSum l

/-- R196: a reply frame as it goes out: start byte, two-byte length counting tag to check byte, tag,
result code, payload, check byte over length to check byte. -/
def Reply.frame (r : Reply) : List Byte :=
  let body := bytes2 (r.payload.length + 3) ++ [r.tag, byte r.result.code] ++ r.payload
  Config.startByte :: body ++ [checkByte body]

/-- R198: a call frame: address, kind code, length counting content and check byte, content, check
byte over address to check byte. -/
def callFrame (address : Nat) (kind : NodeKind) (content : List Byte) : List Byte :=
  let body := [byte address, byte kind.code, byte (content.length + 1)] ++ content
  body ++ [checkByte body]

/-- R198: the stated length of a good answer of each kind: its content and its check byte. -/
def answerLength : NodeKind → Nat
  | .sensor => 18
  | .gas => 6
  | .dimmer => 3
  | .fan => 4
  | .sign => 3

/-- The one-byte number at a place of an answer's content; 0 beyond its end. -/
def byteAt (l : List Byte) (i : Nat) : Byte := l.getD i 0

/-- The two-byte number at a place of an answer's content. -/
def word2At (l : List Byte) (i : Nat) : Nat := (byteAt l i).toNat * 256 + (byteAt l (i + 1)).toNat

end Sys2Proof.Machine
end

