-- ==== Sys2Proof/Machine/SignOps.lean ====
section
/-! DEFINITION. What a sign shows (R119 to R121), its recomputation and dirty flag (R122, R123), and
its refresh through its node (R124, R125, R127). -/

namespace Sys2Proof.Machine

/-- R34: a zone is closed while its set of causes is not empty. -/
def Causes.any (c : Causes) : Bool := c.operator || c.fume || c.air || c.fire

def Zone.closed (z : Zone) : Bool := z.causes.any

/-- R29: the sum of the GENERAL, FAMILY and CHARGER free counts. -/
def FreeCounts.guidance (f : FreeCounts) : Nat := f.general + f.family + f.charger

/-- The free counts of the kinds in a set, summed. -/
def FreeCounts.ofKinds (f : FreeCounts) (k : KindSet) : Nat :=
  (if k.general then f.general else 0) + (if k.family then f.family else 0) +
  (if k.accessible then f.accessible else 0) + (if k.charger then f.charger else 0)

/-- R104: fire mode is active while the taken level is ASSERTED. -/
def State.fireActive (s : State) : Bool := s.fire.taken

/-- R118: the blank content. -/
def Content.blank : Content :=
  { word := .dark, hundreds := none, tens := none, units := none, arrow := .dark }

/-- R120: a count shown as a number in the three digit positions, the arrow dark. -/
def Content.number (n : Nat) : Content :=
  let m := if 999 < n then 999 else n
  { word := .dark
    hundreds := if m < 100 then none else some (m / 100)
    tens := if m < 10 then none else some (m / 10 % 10)
    units := some (m % 10)
    arrow := .dark }

/-- R117: which parts a kind shows. -/
def SignKind.showsCount : SignKind → Bool
  | .count => true
  | .arrow => false
  | .both => true

def SignKind.showsArrow : SignKind → Bool
  | .count => false
  | .arrow => true
  | .both => true

/-- R119: the count part, the arrow left dark. -/
def State.countPart (s : State) (d : SignDef) : Content :=
  if !d.kind.showsCount then Content.blank
  else
    let zs := s.zoneRecords d.countZones
    if zs.all Zone.closed then { Content.blank with word := .closed }
    else
      let n := ((zs.filter (fun z => !z.closed)).map (fun z => z.free.ofKinds d.countKinds)).sum
      if n ≤ d.fullAt then { Content.blank with word := .full } else Content.number n

/-- R121: a term is true when some zone of its mask is OPEN with an empty closure set. -/
def State.termTrue (s : State) (m : ZoneSet) : Bool :=
  (s.zoneRecords m).any (fun z => decide (z.fill = Fill.hasRoom) && !z.closed)

/-- R121: the arrow part outside fire mode. -/
def State.arrowPart (s : State) (d : SignDef) : Arrow :=
  if !d.kind.showsArrow then .dark
  else
    match s.termTrue d.termA, s.termTrue d.termB with
    | false, false => d.out0
    | false, true => d.out1
    | true, false => d.out2
    | true, true => d.out3

/-- R121: the fire content. -/
def SignKind.fireContent (k : SignKind) : Content :=
  { Content.blank with
    word := if k.showsCount then .closed else .dark
    arrow := if k.showsArrow then .cross else .dark }

/-- R119 to R121: the content a definition has in a state. -/
def State.contentOf (s : State) (d : SignDef) : Content :=
  if s.fireActive then d.kind.fireContent
  else { s.countPart d with arrow := s.arrowPart d }

/-- R123: dirty while the accepted content is absent or differs from the content. -/
def Sign.judged (g : Sign) : Sign := { g with dirty := decide (g.accepted ≠ some g.content) }

/-- R122: recompute; content equal to the content held leaves the record as it was. -/
def State.recomputed (s : State) (g : Sign) : Sign :=
  let c := s.contentOf g.config
  if c = g.content then g else { g with content := c }.judged

/-- A sign depends on a zone that is in one of its three masks (6.1). -/
def SignDef.dependsOn (d : SignDef) (z : Nat) : Bool :=
  (d.countZones ||| d.termA ||| d.termB).getLsbD z

/-- R39, R122: mark every sign that depends on the zone, and recompute it. A sign marked several
times within one change ends with the content of the last state, as one recomputation after the
whole change gives it (log 19). -/
def State.markSigns (z : Nat) (s : State) : State :=
  s.withSigns (Table.update (fun _ g => if g.config.dependsOn z then s.recomputed g else g) s.signs)

/-- R122: recompute every sign, as on entering and leaving fire mode. -/
def State.recomputeSigns (s : State) : State :=
  s.withSigns (Table.update (fun _ g => s.recomputed g) s.signs)

/-- The sign whose node field names the node. -/
def State.signOf (s : State) (node : Nat) : Option Nat :=
  Table.find (fun _ g => decide (g.config.node = node)) s.signs

/-- R127: the sign's node has become SILENT or SUSPENDED. -/
def Sign.lost (g : Sign) : Sign := { g with unseen := true, sent := none }

/-- R127: the sign's node is restored. -/
def Sign.restored (g : Sign) : Sign := { g with unseen := false, accepted := none }.judged

/-- R125: a good answer's accepted and display fault flags act on a sign. -/
def Sign.answered (accepted fault : Bool) (g : Sign) : Sign :=
  let g := { g with displayFault := some fault }
  match g.sent with
  | none => g
  | some c =>
    if accepted then { g with accepted := some c, sent := none }.judged
    else { g with sent := none }.judged

/-- A digit position on the wire: 0-9, or 15 for blank (R197). -/
def digitByte (o : Option Nat) : Byte := byte (o.getD 15)

/-- R197: content on the wire. -/
def Content.bytes (c : Content) : List Byte :=
  [byte c.word.code, digitByte c.hundreds, digitByte c.tens, digitByte c.units, byte c.arrow.code]

end Sys2Proof.Machine
end

