-- ==== Sys2Proof/Machine/ZoneOps.lean ====
section
/-! DEFINITION. Tallies and free counts (R28 to R31), the fill state (R32) and closure causes (R34),
each change marking the zone's dependent signs (R39). -/

namespace Sys2Proof.Machine

def Tallies.get (t : Tallies) : BayState → Nat
  | .unknown => t.unknown
  | .free => t.free
  | .reserved => t.reserved
  | .arriving => t.arriving
  | .occupied => t.occupied
  | .leaving => t.leaving

def Tallies.change (t : Tallies) (st : BayState) (f : Nat → Nat) : Tallies :=
  match st with
  | .unknown => { t with unknown := f t.unknown }
  | .free => { t with free := f t.free }
  | .reserved => { t with reserved := f t.reserved }
  | .arriving => { t with arriving := f t.arriving }
  | .occupied => { t with occupied := f t.occupied }
  | .leaving => { t with leaving := f t.leaving }

def Tallies.sum (t : Tallies) : Nat :=
  t.unknown + t.free + t.reserved + t.arriving + t.occupied + t.leaving

def FreeCounts.get (t : FreeCounts) : Kind → Nat
  | .general => t.general
  | .family => t.family
  | .accessible => t.accessible
  | .charger => t.charger

def FreeCounts.change (t : FreeCounts) (k : Kind) (f : Nat → Nat) : FreeCounts :=
  match k with
  | .general => { t with general := f t.general }
  | .family => { t with family := f t.family }
  | .accessible => { t with accessible := f t.accessible }
  | .charger => { t with charger := f t.charger }

def Tallies.none : Tallies :=
  { unknown := 0, free := 0, reserved := 0, arriving := 0, occupied := 0, leaving := 0 }

def FreeCounts.none : FreeCounts := { general := 0, family := 0, accessible := 0, charger := 0 }

def Causes.none : Causes := { operator := false, fume := false, air := false, fire := false }

/-- R29: whether a bay counts as free: FREE, without HOLD and without NOCOUNT. -/
def Bay.isFree (b : Bay) : Bool :=
  decide (b.state = .free) && !b.marks.hold && !b.marks.noCount

/-- R30: a bay counted out of a zone's record. -/
def Zone.countOut (b : Bay) (z : Zone) : Zone :=
  { z with
    tallies := z.tallies.change b.state (fun n => n - 1)
    total := z.total - 1
    free := if b.isFree then z.free.change b.kind (fun n => n - 1) else z.free }

/-- R30: a bay counted into a zone's record. -/
def Zone.countIn (b : Bay) (z : Zone) : Zone :=
  { z with
    tallies := z.tallies.change b.state (fun n => n + 1)
    total := z.total + 1
    free := if b.isFree then z.free.change b.kind (fun n => n + 1) else z.free }

/-- R32: the fill state judged with guidance free count `n`. -/
def judgeFill (fill : Fill) (n fullAt hysteresis : Nat) : Fill :=
  match fill with
  | .hasRoom => if n ≤ fullAt then .full else .hasRoom
  | .full => if fullAt + hysteresis ≤ n then .hasRoom else .full

def Zone.judged (z : Zone) : Zone :=
  { z with fill := judgeFill z.fill z.free.guidance z.settings.fullAt z.settings.hysteresis }

/-- R30, R31: adjust a zone's counts by a whole bay change: the fill state is judged if the guidance
free count takes a new value, and the dependent signs are marked if a free count or the fill state
does. -/
def State.adjustZone (zone : Nat) (f : Zone → Zone) (s : State) : State :=
  match Table.get s.zones zone with
  | none => s
  | some z =>
    let z1 := f z
    let z2 := if z1.free.guidance = z.free.guidance then z1 else z1.judged
    let s1 := s.withZones (Table.set s.zones zone z2)
    if z2.free = z.free ∧ z2.fill = z.fill then s1 else s1.markSigns zone

/-- R30: the adjustment for a bay record that changes from `old` to `new`: within one zone as one
adjustment, otherwise out of the old zone and into the new one. -/
def State.recount (old new : Option Bay) (s : State) : State :=
  match old, new with
  | some b, some b' =>
    if b.zone = b'.zone then s.adjustZone b.zone (fun z => (z.countOut b).countIn b')
    else (s.adjustZone b.zone (Zone.countOut b)).adjustZone b'.zone (Zone.countIn b')
  | some b, none => s.adjustZone b.zone (Zone.countOut b)
  | none, some b' => s.adjustZone b'.zone (Zone.countIn b')
  | none, none => s

/-- R34: change a zone's closure causes; a changed set marks the zone's signs. -/
def State.changeCauses (zone : Nat) (f : Causes → Causes) (s : State) : State :=
  match Table.get s.zones zone with
  | none => s
  | some z =>
    if f z.causes = z.causes then s
    else (s.withZones (Table.set s.zones zone { z with causes := f z.causes })).markSigns zone

end Sys2Proof.Machine
end

