-- ==== Sys2Proof/Machine/LightOps.lean ====
section
/-! DEFINITION. The luminaire groups: their level (R136), movement (R137), hold and ramp (R138),
forcing (R139 to R141), overrides (R142, R143), the dimmer (R144 to R146) and bay lamps (R147). -/

namespace Sys2Proof.Machine

/-- R136: the level follows the state, then the override, then the policy level. -/
def Light.relevel (l : Light) : Light :=
  { l with
    level :=
      match l.state, l.ovr with
      | .forced, _ => 100
      | _, some o => o.level
      | _, none => l.policy }

/-- Enter ACTIVE at the active level with a fresh hold (R137, R141, R142). -/
def Light.enterActive (now : Seconds) (l : Light) : Light :=
  { l with
    state := .active
    policy := l.settings.active
    holdExpiry := some (now + BitVec.ofNat 32 l.settings.hold)
    nextRamp := none }.relevel

/-- R140: enter FORCED. -/
def Light.enterForced (l : Light) : Light :=
  { l with state := .forced, policy := 100, holdExpiry := none, nextRamp := none }.relevel

/-- Enter ECONOMY at the economy level (R138). -/
def Light.enterEconomy (l : Light) : Light :=
  { l with
    state := .economy, policy := l.settings.economy, holdExpiry := none, nextRamp := none }.relevel

/-- R137: a movement in the group's zone. -/
def Light.moved (now : Seconds) (l : Light) : Light :=
  if l.state = .forced then l else l.enterActive now

/-- R137: a movement acts on every group that lights the zone. -/
def State.movement (zone : Nat) (s : State) : State :=
  s.withLights (Table.update
    (fun _ l => if l.zone = zone then l.moved s.seconds else l) s.lights)

/-- R139: due for forcing while the fire flag is set or the group's zone is in the fume set. -/
def State.dueForForcing (s : State) (zone : Nat) : Bool := s.fireFlag || s.fumeSet.getLsbD zone

/-- R140, R141: a group enters FORCED when it becomes due, and leaves it for ACTIVE when it is no
longer due. -/
def Light.judgeForcing (due : Bool) (now : Seconds) (l : Light) : Light :=
  if due then (if l.state = .forced then l else l.enterForced)
  else (if l.state = .forced then l.enterActive now else l)

/-- R140, R141: judge the groups of the zones that a condition picks. -/
def State.judgeForcing (picks : Nat → Bool) (s : State) : State :=
  s.withLights (Table.update
    (fun _ l => if picks l.zone then l.judgeForcing (s.dueForForcing l.zone) s.seconds else l)
    s.lights)

/-- R67, R139: the zone joins the fume set. -/
def State.fumeReported (zone : Nat) (s : State) : State :=
  (s.withFumeSet (s.fumeSet ||| zoneSingle zone)).judgeForcing (fun z => decide (z = zone))

/-- R67, R139: the zone leaves the fume set. -/
def State.fumeEnded (zone : Nat) (s : State) : State :=
  (s.withFumeSet (s.fumeSet &&& ~~~(zoneSingle zone))).judgeForcing (fun z => decide (z = zone))

/-- R106, R110: the fire monitor sets or clears the fire flag. -/
def State.setFireFlag (b : Bool) (s : State) : State :=
  (s.withFireFlag b).judgeForcing (fun _ => true)

/-- R142, R143: the override is removed; a group not FORCED gets a fresh hold. -/
def Light.dropOverride (now : Seconds) (l : Light) : Light :=
  match l.ovr with
  | none => l
  | some _ =>
    let l := { l with ovr := none }
    if l.state = .forced then l.relevel else l.enterActive now

/-- R138: the hold has run out. -/
def Light.holdEnds (now : Seconds) (l : Light) : Light :=
  if l.settings.economy < l.settings.active then
    { l with state := .ramping, holdExpiry := none, nextRamp := some (now + 1) }.relevel
  else l.enterEconomy

/-- R138: one ramp step, due at `due`; the policy level falls, not below the economy level. -/
def Light.ramped (due : Seconds) (l : Light) : Light :=
  let p := max l.settings.economy (l.policy - l.settings.rampRate)
  if p = l.settings.economy then l.enterEconomy
  else { l with policy := p, nextRamp := some (due + 1) }.relevel

/-- The group whose node field names the node. -/
def State.lightOf (s : State) (node : Nat) : Option Nat :=
  Table.find (fun _ l => decide (l.node = node)) s.lights

/-- R145: what the dimmer reports. -/
def Light.reported (applied failed : Nat) (l : Light) : Light :=
  { l with applied := some (min applied 100), failedLamps := some (min failed 63) }

/-- The bay mapped to a head's channel (R3, R147). -/
def State.bayAt (s : State) (node channel : Nat) : Option Nat :=
  Table.find (fun _ b => decide (b.node = node) && decide (b.channel = channel)) s.bays

/-- R147: the first row of the lamp table that a bay meets. -/
def lampOf (b : Bay) (zoneClosed : Bool) : Lamp :=
  if b.marks.lampTest then .whiteFlashing
  else if b.state = .unknown then .off
  else if b.marks.hold then .amberSteady
  else if zoneClosed && (decide (b.state = .free) || decide (b.state = .reserved)) then .amberFlashing
  else
    match b.state, b.kind with
    | .reserved, _ => .whiteSteady
    | .free, .accessible => .blueSteady
    | .free, .charger => .greenFlashing
    | .free, .general => .greenSteady
    | .free, .family => .greenSteady
    | .arriving, _ => .redSteady
    | .occupied, _ => .redSteady
    | .leaving, _ => .redSteady
    | .unknown, _ => .off

/-- Whether a zone number names a closed zone. -/
def State.zoneClosed (s : State) (zone : Nat) : Bool :=
  (Table.get s.zones zone).any Zone.closed

/-- R147: the lamp of one channel of a head. -/
def State.lampAt (s : State) (node channel : Nat) : Lamp :=
  match (s.bayAt node channel).bind (Table.get s.bays) with
  | none => .off
  | some b => lampOf b (s.zoneClosed b.zone)

/-- R147: the sixteen lamp codes of a head's call, channel 0 first. -/
def State.lamps (s : State) (node : Nat) : List Byte :=
  (List.range 16).map (fun c => byte (s.lampAt node c).code)

end Sys2Proof.Machine
end

