-- ==== Sys2Proof/Machine/FanOps.lean ====
section
/-! DEFINITION. Fan groups: the target (R85), drives and their judgement (R77, R78), FAULT (R80), air
status and the AIR cause (R69 to R71), the override stack (R81 to R84), and the start arbiter (R90 to
R93). -/

namespace Sys2Proof.Machine

/-! ### Stack and target -/

/-- R81: the top entry. -/
def Fan.top (g : Fan) : Option Entry := g.stack.getLast?

/-- Whether the top entry is FIRE. -/
def Fan.fireTop (g : Fan) : Bool := g.top.any (fun e => decide (e.cls = .fire))

/-- R85, 1: the greatest stored zone demand over the served zones. -/
def State.autoTarget (s : State) (served : ZoneSet) : Nat :=
  (s.zoneRecords served).foldl (fun m z => max m z.air.zoneDemand) 0

/-- Whether a served zone is in FUME. -/
def State.fumeServed (s : State) (served : ZoneSet) : Bool :=
  (s.zoneRecords served).any (fun z => decide (z.air.fume = .fume))

/-- R85: a group's target. -/
def State.targetOf (s : State) (g : Fan) : Nat :=
  if s.fumeServed g.served && !g.fireTop then 100
  else
    match g.top with
    | none => s.autoTarget g.served
    | some e => e.level

/-- Change a group's record, if it is defined. -/
def State.changeFan (group : Nat) (f : Fan → Fan) (s : State) : State :=
  s.withFans (Table.modify s.fans group f)

/-- R85: recompute a group's target. -/
def State.retarget (group : Nat) (s : State) : State :=
  s.changeFan group (fun g => { g with target := s.targetOf g })

/-- R85: recompute the targets of the groups that serve a zone. -/
def State.retargetServing (zone : Nat) (s : State) : State :=
  s.withFans (Table.update
    (fun _ g => if g.served.getLsbD zone then { g with target := s.targetOf g } else g) s.fans)

/-! ### Air status (R69 to R71) -/

/-- R69: ISOLATED and FAULT are the unavailable states. -/
def FanState.available : FanState → Bool
  | .stopped => true
  | .waiting => true
  | .running => true
  | .isolated => false
  | .fault => false

/-- R69: AIR_LOST when some group serves the zone and none that does is available. -/
def State.airStatusOf (s : State) (zone : Nat) : AirStatus :=
  let serving := s.fans.filter (fun e => e.2.served.getLsbD zone)
  if serving.isEmpty || serving.any (fun e => e.2.state.available) then .ok else .lost

/-- R71: the zone carries AIR exactly while it is AIR_LOST and in WARNING or FUME. -/
def State.judgeAirCause (zone : Nat) (s : State) : State :=
  match Table.get s.zones zone with
  | none => s
  | some z =>
    s.changeCauses zone (fun c =>
      { c with air := decide (z.air.status = .lost) && !decide (z.air.fume = .clear) })

/-- R70: recompute one zone's air status; a change raises an item and judges the AIR cause again. -/
def State.judgeStatus (zone : Nat) (s : State) : State :=
  match Table.get s.zones zone with
  | none => s
  | some z =>
    let st := s.airStatusOf zone
    if st = z.air.status then s
    else
      (((s.withZones (Table.set s.zones zone { z with air := { z.air with status := st } })).raise
        .air zone (match st with | .lost => .airLost | .ok => .airRestored))).judgeAirCause zone

/-- R70: an availability notice naming a set of zones. -/
def State.availabilityNotice (served : ZoneSet) (s : State) : State :=
  State.forEach State.judgeStatus (zonesIn served) s

/-! ### Drives, faults (R77 to R80) -/

/-- R77: a drive is failed while its node is SILENT or SUSPENDED, or its report says fault. -/
def State.driveFailed (s : State) (d : Drive) : Bool :=
  (Table.get s.nodes d.node).any
    (fun n => decide (n.liveness = .silent) || decide (n.liveness = .suspended)) ||
  d.report.any (fun r => r.fault)

/-- R93: a group leaves the start queue; the waiters behind it close up. -/
def State.leaveQueue (group : Nat) (s : State) : State :=
  s.withQueue (s.queue.filter (fun n => decide (n ≠ group)))

/-- R80: a group enters FAULT. -/
def State.enterFault (group : Nat) (cause : FaultCause) (s : State) : State :=
  match Table.get s.fans group with
  | none => s
  | some g =>
    ((((s.changeFan group (fun g =>
      { g with state := .fault, faultCause := some cause, commanded := 0, proof := none })).leaveQueue
        group).raise .fan group .fault).availabilityNotice g.served)

/-- R78: judge a group's drives. -/
def State.judgeDrives (group : Nat) (s : State) : State :=
  match Table.get s.fans group with
  | none => s
  | some g =>
    if g.drives.all (fun d => !s.driveFailed d) then
      s.changeFan group (fun g => { g with degraded := false })
    else if g.drives.all s.driveFailed then
      let s1 := s.changeFan group (fun g => { g with degraded := false })
      if g.state.available then s1.enterFault group .allDrives else s1
    else
      let s1 := s.changeFan group (fun g => { g with degraded := true })
      if g.degraded then s1 else s1.raise .fan group .degraded

/-! ### The start arbiter (R90 to R93) -/

/-- R91: a group is granted a start. -/
def State.grant (group : Nat) (s : State) : State :=
  (s.leaveQueue group).changeFan group (fun g =>
    { g with
      state := .running
      grantedAt := some s.seconds
      proof := some { expiry := s.expiryIn s.settings.proofTime, proven := false }
      commanded := if g.fireTop then max g.settings.vmin g.target else g.settings.vmin })

/-- R90: the slot becomes busy for one start interval. -/
def State.takeSlot (s : State) : State := s.withSlot (some (s.expiryIn s.settings.startInterval))

/-- R92: insert a group behind the last waiter whose top entry is FIRE, or at the head. -/
def insertFire (isFire : Nat → Bool) (group : Nat) : List Nat → List Nat
  | [] => [group]
  | n :: rest =>
    if isFire n || rest.any isFire then n :: insertFire isFire group rest else group :: n :: rest

/-- Whether a group's top entry is FIRE. -/
def State.isFireWaiter (s : State) (group : Nat) : Bool := (Table.get s.fans group).any Fan.fireTop

/-- R92: where a joining group stands. -/
def State.enqueue (group : Nat) (s : State) : State :=
  if s.isFireWaiter group then s.withQueue (insertFire s.isFireWaiter group s.queue)
  else s.withQueue (s.queue ++ [group])

/-- R92: a waiter whose top entry has become FIRE moves forward. -/
def State.moveForward (group : Nat) (s : State) : State :=
  let s1 := s.leaveQueue group
  s1.withQueue (insertFire s1.isFireWaiter group s1.queue)

/-- R87, R90: a group becomes WAITING and joins the queue; an idle slot grants it at once. -/
def State.joinQueue (group : Nat) (s : State) : State :=
  let s1 := s.changeFan group (fun g => { g with state := .waiting })
  match s.slot with
  | none => (s1.grant group).takeSlot
  | some _ => s1.enqueue group

/-! ### FIRE entries (R84, R107) -/

/-- R107: the level of a group's FIRE entry for a fire zone. -/
def Fan.fireLevel (g : Fan) (zone : Option Nat) : Nat :=
  if zone.any (fun z => g.served.getLsbD z) then g.settings.fireIn else g.settings.fireOut

/-- R84: a stack with a FIRE entry placed on top, the bottom entry of a full stack discarded. -/
def stackWithFire (stack : List Entry) (level : Nat) : List Entry :=
  (if Config.stackDepth ≤ stack.length then stack.drop 1 else stack) ++
    [{ cls := .fire, level := level, expiry := none, tag := 0 }]

/-- R84: the fire monitor places a group's FIRE entry. -/
def State.placeFire (group : Nat) (s : State) : State :=
  match Table.get s.fans group with
  | none => s
  | some g =>
    let s1 := (s.changeFan group (fun g =>
      { g with stack := stackWithFire g.stack (g.fireLevel s.fire.zone) })).retarget group
    let s2 := if Config.stackDepth ≤ g.stack.length then s1.raise .fan group .displaced else s1
    let s3 := if g.state = .isolated then s2.raise .fan group .isolatedInFire else s2
    if g.state = .waiting then s3.moveForward group else s3

/-- R84, R109: the level of a group's FIRE entry is judged again, the entry keeping its place. -/
def State.relevelFire (group : Nat) (s : State) : State :=
  (s.changeFan group (fun g =>
    { g with stack := g.stack.map (fun e =>
        if e.cls = .fire then { e with level := g.fireLevel s.fire.zone } else e) })).retarget group

/-- R84, R110: the FIRE entry is taken off. -/
def State.removeFire (group : Nat) (s : State) : State :=
  (s.changeFan group (fun g =>
    { g with stack := g.stack.filter (fun e => decide (e.cls ≠ .fire)) })).retarget group

/-! ### Drives as nodes (R76, R77) -/

/-- The group that lists a node among its drives. -/
def State.fanOf (s : State) (node : Nat) : Option Nat :=
  Table.find (fun _ g => g.drives.any (fun d => decide (d.node = node))) s.fans

/-- Set the report of a group's drive. -/
def Fan.withReport (node : Nat) (r : Option DriveReport) (g : Fan) : Fan :=
  { g with drives := g.drives.map (fun d => if d.node = node then { d with report := r } else d) }

/-- R77, R79: a drive's answer: its report is set, a running report of a RUNNING group restarts the
proof timer, and the drives are judged. -/
def State.driveAnswer (node : Nat) (r : DriveReport) (s : State) : State :=
  match s.fanOf node with
  | none => s
  | some group =>
    (s.changeFan group (fun g =>
      let g := g.withReport node (some r)
      if r.running && decide (g.state = .running) then
        { g with proof := some { expiry := s.expiryIn s.settings.proofTime, proven := true } }
      else g)).judgeDrives group

/-- R77: a drive's node has become SILENT or SUSPENDED. -/
def State.driveLost (node : Nat) (s : State) : State :=
  match s.fanOf node with
  | none => s
  | some group => (s.changeFan group (Fan.withReport node none)).judgeDrives group

/-- R77: a drive's node is restored. -/
def State.driveRestored (node : Nat) (s : State) : State :=
  match s.fanOf node with
  | none => s
  | some group => s.judgeDrives group

/-- R76: what a FAN node is sent: run flag and speed. -/
def State.driveCall (s : State) (node : Nat) : List Byte :=
  match (s.fanOf node).bind (Table.get s.fans) with
  | none => [0, 0]
  | some g => if g.state = .running then [1, byte g.commanded] else [0, 0]

end Sys2Proof.Machine
end

