-- ==== Sys2Proof/Machine/BayOps.lean ====
section
/-! DEFINITION. Bay changes made whole (R2), movement notices (R9, R61), the occupancy machine (R4 to
R7), and a sensor head's answer and silence (R3, R8). -/

namespace Sys2Proof.Machine

/-- R2: the record a bay takes: `since` is the current seconds count when the state takes a new
value. -/
def Bay.stamped (now : Seconds) (old b : Bay) : Bay :=
  if b.state = old.state then b else { b with since := now }

/-- R2: a bay record takes new values as one change: `since` on a new state, the zone counts, and the
WATCH item on a new state of a bay that carries WATCH. Unchanged values change nothing. -/
def State.putBay (bay : Nat) (b : Bay) (s : State) : State :=
  match Table.get s.bays bay with
  | none => s
  | some old =>
    if b = old then s
    else
      let b' := Bay.stamped s.seconds old b
      let s1 := (s.withBays (Table.set s.bays bay b')).recount (some old) (some b')
      if b.state ≠ old.state ∧ b.marks.watch = true then s1.raise .bay bay .watchChange else s1

/-- R61: a movement notice's credit, capped at 100. -/
def State.addCredit (zone : Nat) (arrival : Bool) (s : State) : State :=
  match Table.get s.zones zone with
  | none => s
  | some z =>
    let c := if arrival then z.settings.arrivalCredit else z.settings.departureCredit
    s.withZones (Table.set s.zones zone { z with air := { z.air with credit := min 100 (z.air.credit + c) } })

/-- R9: a movement notice goes to the air evaluator and the lighting controller. -/
def State.movementNotice (zone : Nat) (arrival : Bool) (s : State) : State :=
  (s.addCredit zone arrival).movement zone

/-- What a reading makes of a bay: its record, and the movement notice, if any (true for arrival). -/
structure BayStep where
  bay    : Bay
  notice : Option Bool
  deriving DecidableEq, Repr

/-- R4, R6: the bay confirms OCCUPIED; any reservation is consumed. -/
def Bay.occupied (b : Bay) : BayStep :=
  { bay := { b with state := .occupied, confirm := 0, reservation := none }, notice := some true }

/-- R5: the bay confirms its departure and is FREE. -/
def Bay.departed (b : Bay) : BayStep :=
  { bay := { b with state := .free, confirm := 0 }, notice := some false }

/-- R4, R6: the bay is vacant again: RESERVED while the reservation is present, otherwise FREE. -/
def Bay.vacant (b : Bay) : Bay :=
  { b with state := if b.reservation.isSome then .reserved else .free, confirm := 0 }

/-- R7, R8: the bay goes to UNKNOWN, keeping any reservation. -/
def Bay.lost (b : Bay) : Bay := { b with state := .unknown, confirm := 0 }

/-- R4, R6: a first PRESENT reading. -/
def Bay.arriving (na : Nat) (b : Bay) : BayStep :=
  if na ≤ 1 then b.occupied
  else { bay := { b with state := .arriving, confirm := 1 }, notice := none }

/-- R4 to R7: the occupancy machine, for the confirm settings Na and Nd. -/
def Bay.read (na nd : Nat) (r : Reading) (b : Bay) : BayStep :=
  match r, b.state with
  | .present, .free => b.arriving na
  | .present, .reserved => b.arriving na
  | .present, .unknown => b.arriving na
  | .present, .arriving =>
    if na ≤ b.confirm + 1 then b.occupied
    else { bay := { b with confirm := b.confirm + 1 }, notice := none }
  | .present, .occupied => { bay := b, notice := none }
  | .present, .leaving => { bay := { b with state := .occupied, confirm := 0 }, notice := none }
  | .vacant, .arriving => { bay := b.vacant, notice := none }
  | .vacant, .unknown => { bay := b.vacant, notice := none }
  | .vacant, .free => { bay := b, notice := none }
  | .vacant, .reserved => { bay := b, notice := none }
  | .vacant, .occupied =>
    if nd ≤ 1 then b.departed
    else { bay := { b with state := .leaving, confirm := 1 }, notice := none }
  | .vacant, .leaving =>
    if nd ≤ b.confirm + 1 then b.departed
    else { bay := { b with confirm := b.confirm + 1 }, notice := none }
  | .fault, _ => { bay := b.lost, notice := none }
  | .unused, _ => { bay := b.lost, notice := none }

/-- R3: one reading applied to the bay mapped to a head's channel, if there is one. -/
def State.applyReading (node channel : Nat) (r : Reading) (s : State) : State :=
  match s.bayAt node channel with
  | none => s
  | some bay =>
    match Table.get s.bays bay with
    | none => s
    | some b =>
      let step := b.read s.settings.arrivalConfirm s.settings.departureConfirm r
      let s1 := s.putBay bay step.bay
      match step.notice with
      | none => s1
      | some arrival => s1.movementNotice b.zone arrival

/-- R3: the sixteen readings of an answer, in ascending channel order. -/
def State.applyReadings (node : Nat) (content : List Byte) (s : State) : State :=
  State.forEach (fun c s => s.applyReading node c (Reading.ofByte (byteAt content c))) (List.range 16) s

/-- R8: the bay mapped to a head's channel goes to UNKNOWN. -/
def State.loseBay (node channel : Nat) (s : State) : State :=
  match s.bayAt node channel with
  | none => s
  | some bay =>
    match Table.get s.bays bay with
    | none => s
    | some b => s.putBay bay b.lost

/-- R8: the head has become SILENT or SUSPENDED: its bays go to UNKNOWN, in ascending channel
order. -/
def State.loseHead (node : Nat) (s : State) : State :=
  State.forEach (fun c s => s.loseBay node c) (List.range 16) s

end Sys2Proof.Machine
end

