-- ==== Sys2Proof/Machine/AirOps.lean ====
section
/-! DEFINITION. The air evaluator: gas answers and period peaks (R48 to R50), and the evaluation of a
zone in its seven stages (R53 to R68). -/

namespace Sys2Proof.Machine

/-! ### Gas heads -/

/-- R49, R50: the start value of a head. -/
def GasHead.start : GasHead := { coPeak := none, no2Peak := none, status := .unreported }

/-- R48, R201: a reading decoded against its gas's maximum. -/
def decodeGas (maximum raw : Nat) : Peak :=
  if raw ≤ maximum then { value := raw, overRange := false } else { value := maximum, overRange := true }

/-- R50: a usable reading raises a peak. -/
def raisePeak (p : Option Peak) (r : Peak) : Option Peak :=
  match p with
  | none => some r
  | some q => some { value := max q.value r.value, overRange := q.overRange || r.overRange }

/-- R47: the heads of a zone are the defined GAS nodes bound to it. -/
def Node.isHeadOf (zone : Nat) (n : Node) : Bool :=
  decide (n.kind = .gas) && decide (n.zone = some zone)

/-- R73: how many heads a zone has. -/
def State.headCount (s : State) (zone : Nat) : Nat := Table.countOf s.nodes (fun _ n => n.isHeadOf zone)

/-- R48 to R50: a gas answer: the head status is set, a change to FAULT raises HEAD_FAULT, and usable
readings raise the peaks. -/
def State.gasAnswer (node co no2 : Nat) (status : HeadStatus) (s : State) : State :=
  match Table.get s.nodes node with
  | none => s
  | some n =>
    let h := { n.head with status := status }
    let h' := if status = .ready then
        { h with coPeak := raisePeak h.coPeak (decodeGas 999 co)
                 no2Peak := raisePeak h.no2Peak (decodeGas 250 no2) }
      else h
    let s1 := s.withNodes (Table.set s.nodes node { n with head := h' })
    if status = .fault ∧ n.head.status ≠ .fault then s1.raise .node node .headFault else s1

/-- R49: the head has become SILENT or SUSPENDED. -/
def State.loseGasHead (node : Nat) (s : State) : State :=
  s.withNodes (Table.modify s.nodes node (fun n => { n with head := { n.head with status := .unreported } }))

/-! ### The stages of an evaluation -/

/-- R54: the zone sample of one gas from the heads' peaks. -/
def sampleOf (peaks : List (Option Peak)) : Option Peak :=
  peaks.foldl (fun acc p => match p with | none => acc | some r => raisePeak acc r) none

/-- R56: the step of an average over a distance `d` that is not 0 or is 0. -/
def avgStep (w d : Nat) : Nat := if d ≠ 0 ∧ d / 2 ^ w = 0 then 1 else d / 2 ^ w

/-- R56: one average updated from its sample. -/
def updateAvg (w : Nat) (sample : Option Peak) (avg : Option Nat) : Option Nat :=
  match sample, avg with
  | none, a => a
  | some p, none => some (16 * p.value)
  | some p, some a =>
    if a ≤ 16 * p.value then some (a + avgStep w (16 * p.value - a))
    else some (a - avgStep w (a - 16 * p.value))

/-- R59: one gas's demand. -/
def gasDemandOf (g : GasSettings) (blind : Bool) (blindDemand : Nat) (avg : Option Nat) : Nat :=
  match blind, avg with
  | true, _ => blindDemand
  | false, none => blindDemand
  | false, some a =>
    if a ≤ 16 * g.start then 0
    else if 16 * g.full ≤ a then 100
    else (a - 16 * g.start) * 100 / (16 * (g.full - g.start))

/-- R63: the present averages, each with its own gas's levels. -/
def presentAverages (st : ZoneSettings) (co no2 : Option Nat) : List (Nat × GasSettings) :=
  (match co with | some a => [(a, st.co)] | none => []) ++
  (match no2 with | some a => [(a, st.no2)] | none => [])

/-- The fume state with its two counts. -/
structure FumeCounts where
  fume  : Fume
  alarm : Nat
  clear : Nat
  deriving DecidableEq, Repr

/-- R63 to R66: the fume state judged from the averages as stage 2 left them. -/
def judgeFume (st : ZoneSettings) (hasHeads blind : Bool) (co no2 : Option Nat) (f : FumeCounts) :
    FumeCounts :=
  let avgs := presentAverages st co no2
  let atAlarm := avgs.any (fun e => decide (16 * e.2.alarm ≤ e.1))
  let atWarn := avgs.any (fun e => decide (16 * e.2.warn ≤ e.1))
  let belowWarn := avgs.all (fun e => decide (e.1 < 16 * (e.2.warn - e.2.hyst)))
  let belowAlarm := avgs.all (fun e => decide (e.1 < 16 * (e.2.alarm - e.2.hyst)))
  if !hasHeads then { fume := .clear, alarm := 0, clear := 0 }
  else if avgs.isEmpty || blind then f
  else
    match f.fume with
    | .clear =>
      if atWarn then
        let a := if atAlarm then 1 else 0
        if st.alarmConfirm ≤ a then { fume := .fume, alarm := 0, clear := 0 }
        else { fume := .warning, alarm := a, clear := 0 }
      else { fume := .clear, alarm := 0, clear := 0 }
    | .warning =>
      if atAlarm then
        if st.alarmConfirm ≤ f.alarm + 1 then { fume := .fume, alarm := 0, clear := 0 }
        else { f with alarm := f.alarm + 1 }
      else if belowWarn then { fume := .clear, alarm := 0, clear := 0 }
      else { f with alarm := 0 }
    | .fume =>
      if belowAlarm then
        if st.clearConfirm ≤ f.clear + 1 then { fume := .warning, alarm := 0, clear := 0 }
        else { f with clear := f.clear + 1 }
      else { f with clear := 0 }

/-- What an evaluation makes of a zone's air state, and whether the BLIND flag was set by it. -/
structure AirStep where
  air     : AirState
  toBlind : Bool
  deriving DecidableEq, Repr

/-- R53 to R68: the seven stages, from the zone's settings, whether it has heads, and its samples. -/
def evaluateAir (st : ZoneSettings) (hasHeads : Bool) (co no2 : Option Peak) (a : AirState) : AirStep :=
  let coAvg := if hasHeads then updateAvg st.co.weight co a.coAvg else none
  let no2Avg := if hasHeads then updateAvg st.no2.weight no2 a.no2Avg else none
  let without := hasHeads && co.isNone && no2.isNone
  let blindCount := if without then min 255 (a.blindCount + 1) else 0
  let toBlind := without && decide (st.blindLimit ≤ blindCount) && !a.blind
  let blind := without && (a.blind || toBlind)
  let gasDemand :=
    if hasHeads then
      max (gasDemandOf st.co blind st.blindDemand coAvg) (gasDemandOf st.no2 blind st.blindDemand no2Avg)
    else 0
  let f := judgeFume st hasHeads blind coAvg no2Avg
    { fume := a.fume, alarm := a.alarmCount, clear := a.clearCount }
  { air :=
      { coAvg := coAvg
        no2Avg := no2Avg
        coOver := co.any (fun p => p.overRange)
        no2Over := no2.any (fun p => p.overRange)
        blindCount := blindCount
        blind := blind
        fume := f.fume
        alarmCount := f.alarm
        clearCount := f.clear
        credit := a.credit - st.decay
        gasDemand := gasDemand
        trafficDemand := a.credit
        zoneDemand := if f.fume = .fume then 100 else max (max gasDemand a.credit) st.minDemand
        status := a.status }
    toBlind := toBlind }

/-- R54: clear the peaks of every head of a zone. -/
def State.clearPeaks (zone : Nat) (s : State) : State :=
  s.withNodes (Table.update
    (fun _ n => if n.isHeadOf zone then { n with head := { n.head with coPeak := none, no2Peak := none } }
      else n) s.nodes)

/-- R67, R71: the effects of a change of the fume state from `old`: entering and leaving FUME, the
AIR cause judged at every change, and the targets of the serving groups (R85; log 18). -/
def State.fumeEffects (zone : Nat) (old new : Fume) (s : State) : State :=
  if old = new then s
  else
    let s1 :=
      if new = .fume then
        (((s.changeCauses zone (fun c => { c with fume := true })).raise .air zone .fumeEntered).fumeReported
          zone).retargetServing zone
      else if old = .fume then
        (((s.changeCauses zone (fun c => { c with fume := false })).raise .air zone .fumeLeft).fumeEnded
          zone).retargetServing zone
      else s
    s1.judgeAirCause zone

/-- R53: the evaluation of one zone, taken whole. -/
def State.evaluateZone (zone : Nat) (s : State) : State :=
  match Table.get s.zones zone with
  | none => s
  | some z =>
    let heads := (s.nodes.filter (fun e => e.2.isHeadOf zone)).map (fun e => e.2.head)
    let step := evaluateAir z.settings (!heads.isEmpty) (sampleOf (heads.map (fun h => h.coPeak)))
      (sampleOf (heads.map (fun h => h.no2Peak))) z.air
    let s1 := (s.clearPeaks zone).withZones (Table.set s.zones zone { z with air := step.air })
    let s2 := if step.toBlind then s1.raise .air zone .blind else s1
    s2.fumeEffects zone z.air.fume step.air.fume

/-- R73: the air state at the start values, for a minimum demand. -/
def AirState.start (minDemand : Nat) : AirState :=
  { coAvg := none, no2Avg := none, coOver := false, no2Over := false, blindCount := 0, blind := false,
    fume := .clear, alarmCount := 0, clearCount := 0, credit := 0, gasDemand := 0,
    trafficDemand := 0, zoneDemand := minDemand, status := .ok }

/-- FREE VALUE (log 16): the order in which one expiry takes the defined zones, constrained to be a
permutation of them. Fewer than two zones have one order. -/
def State.evaluationOrder (s : State) : List Nat :=
  let zs := Table.keys s.zones
  if zs.length ≤ 1 then zs
  else
    let o := Config.evaluationOrder s.freeCount zs
    if o.isPerm zs then o else zs

/-- R52: one expiry of the air evaluation timer: the next expiry is set at this one's own seconds
count plus E, and every defined zone is evaluated. -/
def State.evaluateAll (s : State) : State :=
  let s1 := (s.withAirNext (s.airNext + BitVec.ofNat 32 s.settings.airPeriod)).withFreeCount (s.freeCount + 1)
  State.forEach State.evaluateZone s.evaluationOrder s1

end Sys2Proof.Machine
end

