-- ==== Sys2Proof/Machine/NodeOps.lean ====
section
/-! DEFINITION. Nodes and their owners: liveness notices (R162), answers handed over (R160, R162,
R201), failed visits (R161), suspension (R166) and restoring (R167). -/

namespace Sys2Proof.Machine

/-- Change a node's record, if it is defined. -/
def State.changeNode (node : Nat) (f : Node → Node) (s : State) : State :=
  s.withNodes (Table.modify s.nodes node f)

/-- Change the sign on a node, if some sign lists it. -/
def State.changeSignOn (node : Nat) (f : Sign → Sign) (s : State) : State :=
  match s.signOf node with
  | none => s
  | some n => s.withSigns (Table.modify s.signs n f)

/-- Change the luminaire group on a node, if some group lists it. -/
def State.changeLightOn (node : Nat) (f : Light → Light) (s : State) : State :=
  match s.lightOf node with
  | none => s
  | some n => s.withLights (Table.modify s.lights n f)

/-- R162: the owners are told that a node has become SILENT or SUSPENDED (R8, R49, R77, R127, R146). -/
def State.noticeLost (node : Nat) (kind : NodeKind) (s : State) : State :=
  match kind with
  | .sensor => s.loseHead node
  | .gas => s.loseGasHead node
  | .dimmer => s.changeLightOn node (fun l => { l with unseen := true })
  | .fan => s.driveLost node
  | .sign => s.changeSignOn node Sign.lost

/-- R162: the owners are told that a node is restored. -/
def State.noticeRestored (node : Nat) (kind : NodeKind) (s : State) : State :=
  match kind with
  | .sensor => s
  | .gas => s
  | .dimmer => s.changeLightOn node (fun l => { l with unseen := false })
  | .fan => s.driveRestored node
  | .sign => s.changeSignOn node Sign.restored

/-- A node becomes SILENT (R161, R164): its revisit counting starts, its owners are told, and SILENT
is raised. -/
def State.silenceNode (node : Nat) (s : State) : State :=
  match Table.get s.nodes node with
  | none => s
  | some n =>
    ((s.changeNode node (fun n =>
      { n with liveness := .silent, roundsPassed := 0, due := false })).noticeLost node n.kind).raise
        .node node .silent

/-- R166: a node becomes SUSPENDED at once, its due flag clear and nothing pending; its owners are
told. -/
def State.suspendNow (node : Nat) (s : State) : State :=
  match Table.get s.nodes node with
  | none => s
  | some n =>
    (s.changeNode node (fun n =>
      { n with liveness := .suspended, due := false, suspendPending := false })).noticeLost node n.kind

/-- R167: a SUSPENDED node becomes UNSEEN and its owners are told it is restored. -/
def State.resumeNow (node : Nat) (s : State) : State :=
  match Table.get s.nodes node with
  | none => s
  | some n =>
    (s.changeNode node (fun n =>
      { n with liveness := .unseen, missCount := 0, roundsPassed := 0, due := false })).noticeRestored
        node n.kind

/-- R137: a head's aisle presence is a movement in its aisle zone. -/
def State.aislePresence (node : Nat) (s : State) : State :=
  match (Table.get s.nodes node).bind (fun n => n.zone) with
  | none => s
  | some zone => s.movement zone

/-- R162, R201: the content of a good answer handed to the owners of the node's kind. `rebound`
keeps a gas answer from the air evaluator (R169). -/
def State.handAnswer (node : Nat) (kind : NodeKind) (content : List Byte) (rebound : Bool) (s : State) :
    State :=
  match kind with
  | .sensor =>
    let s1 := s.applyReadings node content
    if byteAt content 16 ≠ 0 then s1.aislePresence node else s1
  | .gas =>
    if rebound then s
    else s.gasAnswer node (word2At content 0) (word2At content 2) (HeadStatus.ofGasStatus (byteAt content 4))
  | .dimmer =>
    s.changeLightOn node (Light.reported (byteAt content 0).toNat (byteAt content 1).toNat)
  | .fan =>
    s.driveAnswer node
      { running := decide (byteAt content 0 ≠ 0), speed := min 100 (byteAt content 1).toNat,
        fault := decide (byteAt content 2 ≠ 0) }
  | .sign =>
    s.changeSignOn node (Sign.answered (decide (byteAt content 0 = 1)) (decide (byteAt content 1 ≠ 0)))

/-- R160: a good visit to a node. -/
def State.goodVisit (node : Nat) (content : List Byte) (rebound : Bool) (s : State) : State :=
  match Table.get s.nodes node with
  | none => s
  | some n =>
    let s1 :=
      match n.liveness with
      | .unseen => s.changeNode node (fun n => { n with missCount := 0, liveness := .live })
      | .silent =>
        ((s.changeNode node (fun n =>
          { n with missCount := 0, liveness := .live, due := false })).noticeRestored node n.kind).raise
            .node node .restored
      | .live => s.changeNode node (fun n => { n with missCount := 0 })
      | .suspended => s.changeNode node (fun n => { n with missCount := 0 })
    s1.handAnswer node n.kind content rebound

/-- R161: a failed visit to a node. -/
def State.failedVisit (node : Nat) (e : VisitError) (s : State) : State :=
  match Table.get s.nodes node with
  | none => s
  | some n =>
    let misses := min 15 (n.missCount + 1)
    let s1 := s.changeNode node (fun n => { n with missCount := misses, lastError := some e })
    if (n.liveness = .live ∨ n.liveness = .unseen) ∧ s.settings.missLimit ≤ misses then
      s1.silenceNode node
    else s1

/-- R166: at the end of a visit, a pending suspension is applied. -/
def State.applySuspension (node : Nat) (s : State) : State :=
  match Table.get s.nodes node with
  | none => s
  | some n => if n.suspendPending then s.suspendNow node else s

end Sys2Proof.Machine
end

