-- ==== Sys2Proof/Machine/SpanOps.lean ====
section
/-! DEFINITION. The span controllers: rounds and the choice of the next node (R157), calls (R158),
the judgement of an answer (R159), the end of a visit (R160, R161, R170, R172) and the stuck line
(R163 to R165). -/

namespace Sys2Proof.Machine

/-- Change one span controller. -/
def State.changeSpan (i : SpanId) (f : Span → Span) (s : State) : State := s.withSpan i (f (s.span i))

/-- R157: which nodes a round visits: LIVE or UNSEEN ones, and SILENT ones that are due. -/
def Node.inRounds (n : Node) : Bool :=
  match n.liveness with
  | .live => true
  | .unseen => true
  | .silent => n.due
  | .suspended => false

/-- The defined node at an address of a span. -/
def State.nodeAt (s : State) (i : SpanId) (address : Nat) : Option Nat :=
  Table.find (fun _ n => decide (n.span = i) && decide (n.address = address)) s.nodes

/-- R157: of a list of addresses, the node at the first one that a round visits. -/
def State.firstVisited (s : State) (i : SpanId) : List Nat → Option Nat
  | [] => none
  | a :: rest =>
    match s.nodeAt i a with
    | none => State.firstVisited s i rest
    | some n =>
      if (Table.get s.nodes n).any Node.inRounds then some n else State.firstVisited s i rest

/-- R157: the next node of the round: the visited node with the lowest address above the position, or
the lowest of all when the position is absent. Addresses run from 1 to 126. -/
def State.nextNode (s : State) (i : SpanId) : Option Nat :=
  let above := match (s.span i).position with | none => 0 | some p => p
  s.firstVisited i ((List.range 127).filter (fun a => decide (above < a)))

/-- R158: whether a visit can begin: RUNNING, a round in progress, no visit in flight. -/
def Span.choosing (p : Span) : Bool := p.stuck.isNone && p.visit.isNone && p.inRound

/-- R157: when no node remains to be chosen the round ends, and the position becomes absent. A STUCK span
chooses none, and keeps its round (R163). -/
def State.closeRound (i : SpanId) (s : State) : State :=
  if (s.span i).choosing && (s.nextNode i).isNone then
    s.changeSpan i (fun p => { p with inRound := false, position := none })
  else s

/-- R157: at the start of a round, a SILENT node is due or counts one more round passed. -/
def Node.judgeRevisit (revisit : Nat) (n : Node) : Node :=
  if n.liveness = .silent then
    if revisit - 1 ≤ n.roundsPassed then { n with due := true, roundsPassed := 0 }
    else { n with due := false, roundsPassed := n.roundsPassed + 1 }
  else n

/-- R157: a round begins now on the span. -/
def State.beginRound (i : SpanId) (s : State) : State :=
  ((s.withNodes (Table.update
      (fun _ n => if n.span = i then n.judgeRevisit s.settings.revisit else n) s.nodes)).changeSpan i
    (fun p => { p with roundStart := s.ms, inRound := true, position := none })).closeRound i

/-- R158: the content of the call to a node, as its owner's record stands now. -/
def State.callContent (s : State) (node : Nat) (kind : NodeKind) : List Byte :=
  match kind with
  | .sensor => s.lamps node
  | .gas => []
  | .dimmer =>
    match (s.lightOf node).bind (Table.get s.lights) with
    | none => [byte 100]
    | some l => [byte l.level]
  | .fan => s.driveCall node
  | .sign =>
    match (s.signOf node).bind (Table.get s.signs) with
    | none => Content.blank.bytes
    | some g => g.content.bytes

/-- R124: the content carried by a call becomes the sign's sent content. -/
def State.recordSent (node : Nat) (kind : NodeKind) (s : State) : State :=
  match kind with
  | .sign => s.changeSignOn node (fun g => { g with sent := some g.content })
  | .sensor => s
  | .gas => s
  | .dimmer => s
  | .fan => s

/-- R156: the answer limit of a span. -/
def PartSettings.limit (p : PartSettings) : SpanId → Nat
  | .span0 => p.limit0
  | .span1 => p.limit1
  | .span2 => p.limit2
  | .span3 => p.limit3

/-- R158: the visit to a node begins: its call is built and sent. The line was idle before it, and is
not busy while the part sends (R155): the stuck watch starts again. -/
def State.beginVisit (i : SpanId) (node : Nat) (s : State) : State :=
  match Table.get s.nodes node with
  | none => s
  | some n =>
    let visit : Visit :=
      { node := node, address := n.address, kind := n.kind
        call := callFrame n.address n.kind (s.callContent node n.kind), answer := []
        waitFrom := s.ms, limit := s.settings.limit i, lastByte := s.ms, fate := .counted
        rebound := false }
    (s.recordSent node n.kind).changeSpan i (fun p => { p with visit := some visit, lineAt := s.ms, watchFrom := s.ms })

/-- R166, R170: a visit to this node is in flight on its span. A visit to a record retired since is
not a visit to the node. -/
def Visit.isTo (v : Visit) (node : Nat) : Bool :=
  decide (v.node = node) && (decide (v.fate = .counted) || decide (v.fate = .restarted))

/-- R170: the node of a visit in flight is retired; the outcome will be discarded. -/
def Visit.orphaned (v : Visit) : Visit :=
  { v with
    fate :=
      match v.fate with
      | .counted => .retired
      | .retired => .retired
      | .restarted => .restartedRetired
      | .restartedRetired => .restartedRetired }

/-- R172: RESTART takes effect while the visit is in flight; the outcome will be discarded. -/
def Visit.restarted (v : Visit) : Visit :=
  { v with
    fate :=
      match v.fate with
      | .counted => .restarted
      | .retired => .restartedRetired
      | .restarted => .restarted
      | .restartedRetired => .restartedRetired }

/-- How a visit ends (R159). -/
inductive VisitEnd where
  | good (content : List Byte)
  | failed (e : VisitError)
  deriving DecidableEq, Repr

/-- R160, R161, R166: the outcome of a visit acts on its node. -/
def State.applyOutcome (v : Visit) (e : VisitEnd) (s : State) : State :=
  match e with
  | .good content => (s.goodVisit v.node content v.rebound).applySuspension v.node
  | .failed err => (s.failedVisit v.node err).applySuspension v.node

/-- The end of the visit in flight on a span, if there is one. A counted outcome is applied; that of
a retired node or of a visit that RESTART met is discarded (R170, R172), and after the latter the
span's new round begins. -/
def State.endVisit (i : SpanId) (e : VisitEnd) (s : State) : State :=
  match (s.span i).visit with
  | none => s
  | some v =>
    let s1 := s.changeSpan i (fun p => { p with visit := none })
    match v.fate with
    | .counted =>
      ((s1.applyOutcome v e).changeSpan i (fun p => { p with position := some v.address })).closeRound i
    | .retired => (s1.changeSpan i (fun p => { p with position := some v.address })).closeRound i
    | .restarted => (s1.applySuspension v.node).beginRound i
    | .restartedRetired => s1.beginRound i

/-- R159: what the bytes of an answer so far amount to for the called address and kind: none while
the answer goes on. -/
def judgeAnswer (address : Nat) (kind : NodeKind) (answer : List Byte) : Option VisitEnd :=
  if answer.length < 3 then none
  else
    let len := (byteAt answer 2).toNat
    if Config.longestAnswer < len ∨ len = 0 then some (.failed .check)
    else if answer.length < 3 + len then none
    else if byteSum answer ≠ 0 then some (.failed .check)
    else if byteAt answer 0 ≠ byte address ∨ byteAt answer 1 ≠ byte kind.code ∨ len ≠ answerLength kind then
      some (.failed .stray)
    else some (.good ((answer.drop 3).take (len - 1)))

/-- What the receiver takes from a byte: a good one always; one with a bad stop bit never begins an
answer (R159), and within an answer it is a FREE VALUE (log 15). -/
def State.answerByte (s : State) (begun : Bool) (b : Byte) (stopOk : Bool) : Option Byte :=
  if stopOk then some b
  else if begun then Config.badStopByte s.freeCount b
  else none

/-- R155: a byte keeps the line busy. It says nothing of a break before it: the line can be busy without
bytes (R159), and the stuck watch goes on (log 42). -/
def Span.lineByte (now : Millis) (p : Span) : Span := { p with lineAt := now }

/-- R155, R159: a byte on a span: outside a visit it only keeps the line busy; within one it is added
to the answer, and the answer is judged. -/
def State.spanByte (i : SpanId) (b : Byte) (stopOk : Bool) (s : State) : State :=
  let s0 := s.changeSpan i (Span.lineByte s.ms)
  match (s.span i).visit with
  | none => s0
  | some v =>
    let s1 := if stopOk then s0 else s0.withFreeCount (s.freeCount + 1)
    match s.answerByte (!v.answer.isEmpty) b stopOk with
    | none => s1
    | some b =>
      let answer := v.answer ++ [b]
      let s2 := s1.changeSpan i (fun p =>
        { p with visit := some { v with answer := answer, lastByte := s.ms } })
      match judgeAnswer v.address v.kind answer with
      | none => s2
      | some e => s2.endVisit i e

/-- R163: the span becomes STUCK; STUCK is raised for object 256 plus the span number. -/
def State.becomeStuck (i : SpanId) (s : State) : State :=
  (s.changeSpan i (fun p =>
    { p with stuck := some { since := s.ms, retry := s.ms + Config.stuckRetryMs, silenced := false } })).raise
      .node (256 + spanNumber i) .stuck

/-- R164: one address of a stuck span: its node, if LIVE or UNSEEN, becomes SILENT. -/
def State.silenceAt (i : SpanId) (address : Nat) (s : State) : State :=
  match s.nodeAt i address with
  | none => s
  | some node =>
    match Table.get s.nodes node with
    | none => s
    | some n =>
      if n.liveness = .live ∨ n.liveness = .unseen then s.silenceNode node else s

/-- R164: the span's LIVE and UNSEEN nodes become SILENT, in ascending address order. -/
def State.silenceSpan (i : SpanId) (s : State) : State :=
  State.forEach (State.silenceAt i) (List.range 127) s

/-- R165: the span is freed and its round continues. Its line has been idle: the stuck watch starts
again. -/
def State.freeSpan (i : SpanId) (s : State) : State :=
  ((s.changeSpan i (fun p => { p with stuck := none, watchFrom := s.ms })).raise .node (256 + spanNumber i) .freed).closeRound i

end Sys2Proof.Machine
end

