-- ==== Sys2Proof/Machine/Views.lean ====
section
/-! DEFINITION. The record views of replies (R197): the fields of each, in order and in size. -/

namespace Sys2Proof.Machine

/-- R195: two-byte numbers, a maybe-absent two-byte number, and a maybe-absent seconds value. -/
def optBytes2 (o : Option Nat) : List Byte := optBytes 2 bytes2 o
def optSeconds (o : Option Seconds) : List Byte := optBytes 4 secondsBytes o

/-- R197, bay: an undefined number gives its number, a clear defined flag and zeros. -/
def bayView (number : Nat) : Option Bay → List Byte
  | none => bytes2 number ++ zeros 19
  | some b =>
    bytes2 number ++
    [byte 1, byte b.zone, byte b.node, byte b.channel, byte b.kind.code, byte b.marks.mask,
     byte b.state.code, byte b.confirm] ++
    optBytes 6 (fun r => bytes2 r.tag ++ secondsBytes r.expiry) b.reservation ++
    secondsBytes b.since

/-- R197, zone. -/
def zoneView (number : Nat) (z : Zone) (heads : Nat) : List Byte :=
  let t := z.tallies
  let f := z.free
  let st := z.settings
  let a := z.air
  [byte number, byte z.level] ++
  bytes2 t.unknown ++ bytes2 t.free ++ bytes2 t.reserved ++ bytes2 t.arriving ++
  bytes2 t.occupied ++ bytes2 t.leaving ++ bytes2 z.total ++
  bytes2 f.general ++ bytes2 f.family ++ bytes2 f.accessible ++ bytes2 f.charger ++
  bytes2 f.guidance ++
  [byte st.fullAt, byte st.hysteresis, byte z.fill.code, byte z.causes.mask,
   byte st.co.weight, byte st.no2.weight] ++
  bytes2 st.co.start ++ bytes2 st.co.full ++ [byte st.no2.start, byte st.no2.full] ++
  bytes2 st.co.warn ++ bytes2 st.co.alarm ++ bytes2 st.co.hyst ++
  [byte st.no2.warn, byte st.no2.alarm, byte st.no2.hyst, byte st.alarmConfirm,
   byte st.clearConfirm, byte st.blindLimit, byte st.blindDemand, byte st.arrivalCredit,
   byte st.departureCredit, byte st.decay, byte st.minDemand] ++
  optBytes2 a.coAvg ++ optBytes2 a.no2Avg ++
  [flagByte a.coOver, flagByte a.no2Over, byte a.blindCount, flagByte a.blind, byte a.fume.code,
   byte a.alarmCount, byte a.clearCount, byte a.credit, byte a.gasDemand, byte a.trafficDemand,
   byte a.zoneDemand, byte a.status.code, byte heads]

/-- The zone view of a number in a state (R44); empty where the zone is undefined. -/
def State.zoneViewOf (s : State) (number : Nat) : List Byte :=
  match Table.get s.zones number with
  | none => []
  | some z => zoneView number z (s.headCount number)

/-- One stack entry of the fan group view. -/
def Entry.bytes (e : Entry) : List Byte :=
  [byte e.cls.rank, byte e.level] ++ optSeconds e.expiry ++ [byte e.tag]

/-- One drive report of the fan group view: node, present flag, running, speed, fault, failed. -/
def State.driveBytes (s : State) (d : Drive) : List Byte :=
  [byte d.node] ++
  optBytes 3 (fun r : DriveReport => [flagByte r.running, byte r.speed, flagByte r.fault]) d.report ++
  [flagByte (s.driveFailed d)]

/-- R100: the three facets. -/
def Fan.facets (g : Fan) : List Byte :=
  [flagByte (decide (0 < g.commanded)),
   flagByte (g.drives.any (fun d => d.report.any (fun r => r.running))),
   flagByte (g.drives.any (fun d => d.report.any (fun r => r.fault)))]

/-- R100: the place in the start queue, counted from 1; 0 when absent. -/
def queuePlace (queue : List Nat) (group : Nat) : Nat :=
  match queue.findIdx? (fun n => decide (n = group)) with
  | none => 0
  | some i => i + 1

/-- R197, fan group. -/
def State.fanView (s : State) (number : Nat) (g : Fan) : List Byte :=
  [byte number] ++ zoneSetBytes g.served ++
  (byte g.drives.length :: g.drives.map (fun d => byte d.node)) ++
  [byte g.settings.vmin, byte g.settings.su, byte g.settings.sd] ++ bytes2 g.settings.minRun ++
  [byte g.settings.fireIn, byte g.settings.fireOut, byte g.state.code, byte g.target,
   byte g.commanded, byte (queuePlace s.queue number)] ++
  optSeconds g.grantedAt ++
  optBytes 5 (fun p : Proof => secondsBytes p.expiry ++ [flagByte p.proven]) g.proof ++
  [flagByte g.degraded] ++ optByte (g.faultCause.map FaultCause.code) ++
  (byte g.stack.length :: g.stack.flatMap Entry.bytes) ++
  (byte g.drives.length :: g.drives.flatMap s.driveBytes) ++
  g.facets

/-- The fan group view of a number in a state; empty where the group is undefined. -/
def State.fanViewOf (s : State) (number : Nat) : List Byte :=
  match Table.get s.fans number with
  | none => []
  | some g => s.fanView number g

/-- R197, sign. -/
def signView (number : Nat) (g : Sign) : List Byte :=
  let d := g.config
  [byte number, byte d.node, byte d.kind.code] ++ zoneSetBytes d.countZones ++
  [byte d.countKinds.mask, byte d.fullAt] ++ zoneSetBytes d.termA ++ zoneSetBytes d.termB ++
  [byte d.out0.code, byte d.out1.code, byte d.out2.code, byte d.out3.code] ++
  g.content.bytes ++ optBytes 5 Content.bytes g.accepted ++ [flagByte g.dirty, flagByte g.unseen] ++
  optBytes 1 (fun b => [flagByte b]) g.displayFault

/-- The sign view of a number in a state; empty where the sign is undefined. -/
def State.signViewOf (s : State) (number : Nat) : List Byte :=
  match Table.get s.signs number with
  | none => []
  | some g => signView number g

/-- R197, luminaire group. -/
def lightView (number : Nat) (l : Light) : List Byte :=
  [byte number, byte l.zone, byte l.node, byte l.settings.economy, byte l.settings.active] ++
  bytes2 l.settings.hold ++
  [byte l.settings.rampRate, byte l.state.code, byte l.policy, byte l.level] ++
  optSeconds l.holdExpiry ++
  optBytes 6 (fun o : LightOverride => [byte o.level] ++ optSeconds o.expiry) l.ovr ++
  optByte l.applied ++ optByte l.failedLamps ++ [flagByte l.unseen]

/-- The luminaire group view of a number in a state; empty where the group is undefined. -/
def State.lightViewOf (s : State) (number : Nat) : List Byte :=
  match Table.get s.lights number with
  | none => []
  | some l => lightView number l

/-- R197, node; the head status of a kind other than GAS is NONE. -/
def nodeView (number : Nat) (n : Node) (spanStuck : Bool) : List Byte :=
  [byte number, byte (spanNumber n.span), byte n.address, byte n.kind.code] ++ optByte n.zone ++
  [byte n.liveness.code, byte n.missCount] ++ optByte (n.lastError.map VisitError.code) ++
  [byte n.roundsPassed, flagByte n.due, flagByte n.suspendPending, flagByte spanStuck,
   byte (if n.kind = .gas then n.head.status.code else 0)]

/-- The node view of a number in a state; empty where the node is undefined. -/
def State.nodeViewOf (s : State) (number : Nat) : List Byte :=
  match Table.get s.nodes number with
  | none => []
  | some n => nodeView number n (s.span n.span).stuck.isSome

/-- R197, SET_PART. -/
def PartSettings.bytes (p : PartSettings) : List Byte :=
  [byte p.airPeriod, byte p.fanPeriod, byte p.startInterval, byte p.arrivalConfirm,
   byte p.departureConfirm, byte p.proofTime, byte p.missLimit, byte p.limit0, byte p.limit1,
   byte p.limit2, byte p.limit3, byte p.revisit]

/-- R184, R197: the status view for a port. The slot expiry of an idle slot is a FREE VALUE
(log 17). -/
def State.statusView (s : State) (p : Port) : List Byte :=
  secondsBytes s.seconds ++ [flagByte s.serviceKey, byte s.rate.toNat] ++
  [flagByte s.fireActive, flagByte s.fire.taken, flagByte s.fire.change.isSome] ++
  optByte s.fire.zone ++ optByte (s.fire.pendingZone.map (fun z => z.1)) ++
  [flagByte s.span0.stuck.isSome, flagByte s.span1.stuck.isSome, flagByte s.span2.stuck.isSome,
   flagByte s.span3.stuck.isSome] ++
  [flagByte s.slot.isSome] ++ secondsBytes (s.slot.getD (Config.idleSlotExpiry s.freeCount)) ++
  [byte s.queue.length] ++
  bytes2 s.bays.length ++ [byte s.zones.length] ++ bytes2 s.nodes.length ++
  [byte s.fans.length, byte s.lights.length, byte s.signs.length] ++
  zoneSetBytes s.facilityMap ++ zoneSetBytes s.operatorMap ++ s.settings.bytes ++
  [flagByte (s.port p).waiting.isSome]

end Sys2Proof.Machine
end

