-- ==== Sys2Proof/Machine/Operands.lean ====
section
/-! DEFINITION. How a request is judged and placed: the class admitted on a port (R178), the checks of
R179 as one combinator, zone permission (R180), ranges of operands, and the arrival of a request in
its port's places (R176, R177). -/

namespace Sys2Proof.Machine

/-! ### Results -/

/-- What serving a request gives: the state after it, its result and the reply's payload. -/
structure Served where
  state   : State
  result  : Result
  payload : List Byte
  deriving DecidableEq, Repr

/-- R179, R181: a refusal changes nothing and has an empty payload. -/
def refuse (r : Result) (s : State) : Served := { state := s, result := r, payload := [] }

/-- A request performed. -/
def serveOk (payload : List Byte) (s : State) : Served :=
  { state := s, result := .ok, payload := payload }

/-- R179: one check; where it fails, it gives the result. -/
def need (check : Bool) (failure : Result) (s : State) (rest : Served) : Served :=
  if check then rest else refuse failure s

/-! ### Ranges (R179 step 4, R200) -/

/-- A number in its range. -/
def within (lo hi n : Nat) : Bool := decide (lo ≤ n) && decide (n ≤ hi)

/-- An optional field: absent, or in its range. -/
def optWithin (lo hi : Nat) (o : Option Nat) : Bool := o.all (within lo hi)

/-! ### Classes (R178, R179 step 5) -/

/-- R178: the class admitted on a port for a class byte, with SERVICE KEY at the given level. -/
def admitted (p : Port) (key : Bool) (cls : Byte) : Option Cls :=
  match p, Cls.ofRank cls.toNat with
  | .main, some .facility => some .facility
  | .main, some .service => if key then some .service else none
  | .panel, some .operator => some .operator
  | _, _ => none

/-- A request open to SERVICE alone. -/
def serviceOnly (c : Cls) : Bool := decide (c = .service)

/-- A request open to OPERATOR and SERVICE. -/
def operatorUp (c : Cls) : Bool := decide (c = .operator) || decide (c = .service)

/-! ### Zone permission (R180) -/

/-- R180: every zone touched is in the permit map of the class; SERVICE is subject to none. -/
def State.permits (s : State) (c : Cls) (touched : ZoneSet) : Bool :=
  match c with
  | .facility => decide (touched &&& ~~~s.facilityMap = 0)
  | .operator => decide (touched &&& ~~~s.operatorMap = 0)
  | .service => true
  | .fire => false

/-- R180: the zone a bay request touches. -/
def State.bayZone (s : State) (bay : Nat) : ZoneSet :=
  match Table.get s.bays bay with
  | none => 0
  | some b => zoneSingle b.zone

/-- R180: the zones a group's override requests touch. -/
def State.fanZones (s : State) (group : Nat) : ZoneSet :=
  match Table.get s.fans group with
  | none => 0
  | some g => g.served

/-- The defined groups of a mask, in ascending number. -/
def State.fansIn (s : State) (groups : BitVec 32) : List Nat :=
  (List.range 24).filter (fun n => groups.getLsbD n && Table.has s.fans n)

/-- R180: the zones FAN_CONTROL touches. -/
def State.fansZones (s : State) (groups : BitVec 32) : ZoneSet :=
  (s.fansIn groups).foldl (fun m n => m ||| s.fanZones n) 0

/-- R180: the zone LIGHT_OVERRIDE touches. -/
def State.lightZone (s : State) (group : Nat) : ZoneSet :=
  match Table.get s.lights group with
  | none => 0
  | some l => zoneSingle l.zone

/-- Every zone of a set is defined. -/
def State.zonesDefined (s : State) (m : ZoneSet) : Bool := (zonesIn m).all (Table.has s.zones)

/-- A node's kind, if it is defined. -/
def State.kindOf (s : State) (node : Nat) : Option NodeKind := (Table.get s.nodes node).map (fun n => n.kind)

/-- Whether a node is SILENT or SUSPENDED. -/
def State.unreachable (s : State) (node : Nat) : Bool :=
  (Table.get s.nodes node).any
    (fun n => decide (n.liveness = .silent) || decide (n.liveness = .suspended))

/-! ### Places (R176, R177) -/

/-- R177: what is taken enters the service place with its reply, fixed at this moment. -/
def State.occupy (p : Port) (item : Placed) (r : Reply) (s : State) : State :=
  s.withPort p { s.port p with service := some { item := item, reply := r } }

/-- R177, R178: a request is taken: SERVICE KEY is sampled, the class is checked (step 1 of R179), the
rest is `serve`'s, and the reply is fixed. -/
def State.take (h : Head) (item : Placed) (serve : Cls → State → Served) (s : State) : State :=
  let s1 := s.withKey h.key
  let r :=
    match admitted h.port h.key h.cls with
    | none => refuse .classRefused s1
    | some c => serve c s1
  r.state.occupy h.port item { tag := h.tag, result := r.result, payload := r.payload }

/-- R177: a bad frame is answered with its tag and reaches no owner. -/
def State.takeBad (p : Port) (tag : Byte) (s : State) : State :=
  s.occupy p (.badFrame tag) { tag := tag, result := .badFrame, payload := [] }

/-- R176: a frame waits behind the one being served, or is discarded with OVERRUN. -/
def State.wait (p : Port) (item : Placed) (s : State) : State :=
  match (s.port p).waiting with
  | none => s.withPort p { s.port p with waiting := some item }
  | some _ => s.raise .link (portObject p) .overrun

/-- R176: a request arrives: it is taken at once if the service place is empty. -/
def State.arrive (h : Head) (body : Request) (serve : Cls → State → Served) (s : State) : State :=
  match (s.port h.port).service with
  | none => s.take h (.request h.cls h.tag body) serve
  | some _ => s.wait h.port (.request h.cls h.tag body)

/-- R175, R176: a bad frame arrives. -/
def State.arriveBad (p : Port) (tag : Byte) (s : State) : State :=
  match (s.port p).service with
  | none => s.takeBad p tag
  | some _ => s.wait p (.badFrame tag)

end Sys2Proof.Machine
end

