-- ==== Sys2Proof/Machine/Bays.lean ====
section
/-! DEFINITION. The bay requests (spec/01) and RESERVATION_EXPIRY. -/

namespace Sys2Proof.Machine

open Host

/-! ### READ_BAYS (R23) -/

/-- R23: the numbers a walk visits, going up or down by the step and stopping at the table's end. -/
def walk (up : Bool) (step : Nat) : Nat → Nat → List Nat
  | 0, _ => []
  | count + 1, n =>
    if Config.bays ≤ n then []
    else n :: (if up then walk up step count (n + step) else if n < step then [] else walk up step count (n - step))

def serveReadBays (start count direction step : Nat) (s : State) : Served :=
  need (within 0 2047 start && within 1 32 count && within 0 1 direction && within 1 16 step) .badValue s <|
  let ns := walk (direction == 0) step count start
  serveOk (byte ns.length :: ns.flatMap (fun n => bayView n (Table.get s.bays n))) s

/-! ### FIND_BAYS (R24) -/

/-- R24: the matching bays above "after", ascending; 65535 stands for -1. -/
def State.matching (s : State) (zone : Nat) (kinds states : Byte) (after : Nat) : List Nat :=
  Table.keys (s.bays.filter (fun e =>
    decide (e.2.zone = zone) && kinds.getLsbD e.2.kind.code && states.getLsbD e.2.state.code &&
    (decide (after = 65535) || decide (after < e.1))))

def serveFindBays (zone : Nat) (kinds states : Byte) (after maximum : Nat) (s : State) : Served :=
  need (within 0 31 zone && decide (kinds.toNat < 16) && decide (states.toNat < 64) &&
    (within 0 2047 after || decide (after = 65535)) && within 1 32 maximum) .badValue s <|
  need (Table.has s.zones zone) .noSuch s <|
  let ns := s.matching zone kinds states after
  let listed := ns.take maximum
  serveOk ([byte listed.length, flagByte (decide (maximum < ns.length))] ++ listed.flatMap bytes2) s

/-! ### CHANGE_BAY (R12, R13) -/

/-- R12: the marks a mode gives. -/
def Marks.apply (m : Mode) (current given : Marks) : Marks :=
  match m with
  | .replace => given
  | .add =>
    { hold := current.hold || given.hold, watch := current.watch || given.watch
      noCount := current.noCount || given.noCount, lampTest := current.lampTest || given.lampTest }
  | .remove =>
    { hold := current.hold && !given.hold, watch := current.watch && !given.watch
      noCount := current.noCount && !given.noCount, lampTest := current.lampTest && !given.lampTest }

/-- R13: NOCOUNT and LAMP_TEST keep their values. -/
def Marks.masked (current wanted : Marks) : Marks :=
  { wanted with noCount := current.noCount, lampTest := current.lampTest }

/-- R13: whether the reply says that part of the request was masked. -/
def Marks.saysMasked (m : Mode) (current given : Marks) : Bool :=
  given.noCount || given.lampTest ||
  (decide (m = .replace) &&
    ((current.noCount && !given.noCount) || (current.lampTest && !given.lampTest)))

def serveChangeBay (c : Cls) (bay mode : Nat) (marks : Byte) (s : State) : Served :=
  match Mode.ofCode mode, Marks.ofMask marks with
  | some m, some given =>
    need (within 0 2047 bay) .badValue s <|
    need (s.permits c (s.bayZone bay)) .denied s <|
    match Table.get s.bays bay with
    | none => refuse .noSuch s
    | some b =>
      let wanted := Marks.apply m b.marks given
      let service := serviceOnly c
      let new := if service then wanted else Marks.masked b.marks wanted
      let s1 := s.putBay bay { b with marks := new }
      { state := s1
        result := if !service && Marks.saysMasked m b.marks given then .okMasked else .ok
        payload := bayView bay (Table.get s1.bays bay) }
  | _, _ => refuse .badValue s

/-! ### RESERVE_BAY (R15) and RELEASE_BAY (R16) -/

def serveReserveBay (c : Cls) (bay holder hold : Nat) (s : State) : Served :=
  need (within 0 2047 bay && within 1 65535 holder && within 1 240 hold) .badValue s <|
  need (s.permits c (s.bayZone bay)) .denied s <|
  match Table.get s.bays bay with
  | none => refuse .noSuch s
  | some b =>
    need (decide (b.state = .free) && !b.marks.hold) .notFree s <|
    let s1 := s.putBay bay
      { b with state := .reserved
               reservation := some { tag := holder, expiry := s.expiryIn (60 * hold) } }
    serveOk (bayView bay (Table.get s1.bays bay)) s1

/-- R16, R17: the reservation is removed; a RESERVED bay becomes FREE. -/
def Bay.unreserved (b : Bay) : Bay :=
  { b with state := if b.state = .reserved then .free else b.state, reservation := none }

def serveReleaseBay (c : Cls) (bay holder : Nat) (s : State) : Served :=
  need (within 0 2047 bay && within 1 65535 holder) .badValue s <|
  need (s.permits c (s.bayZone bay)) .denied s <|
  match Table.get s.bays bay with
  | none => refuse .noSuch s
  | some b =>
    match b.reservation with
    | none => refuse .noSuch s
    | some r =>
      need (decide (r.tag = holder) || serviceOnly c) .notHolder s <|
      let s1 := s.putBay bay b.unreserved
      serveOk (bayView bay (Table.get s1.bays bay)) s1

/-! ### DEFINE_BAY, REDEFINE_BAY, RETIRE_BAY (R19 to R21) -/

/-- R19, R20: a bay other than this one uses the node and channel. -/
def State.channelTaken (s : State) (bay node channel : Nat) : Bool :=
  Table.exists s.bays (fun n b =>
    decide (n ≠ bay) && decide (b.node = node) && decide (b.channel = channel))

def serveDefineBay (c : Cls) (bay zone node channel kind : Nat) (s : State) : Served :=
  match Kind.ofCode kind with
  | none => refuse .badValue s
  | some k =>
    need (within 0 2047 bay && within 0 31 zone && within 0 255 node && within 0 15 channel) .badValue s <|
    need (serviceOnly c) .denied s <|
    need (!Table.has s.bays bay) .alreadyDefined s <|
    need (Table.has s.zones zone && Table.has s.nodes node) .noSuch s <|
    need (decide (s.kindOf node = some .sensor) && !s.channelTaken bay node channel) .conflict s <|
    let b : Bay :=
      { zone := zone, node := node, channel := channel, kind := k
        marks := { hold := false, watch := false, noCount := false, lampTest := false }
        state := .unknown, confirm := 0, reservation := none, since := s.seconds }
    let s1 := (s.withBays (Table.set s.bays bay b)).recount none (some b)
    serveOk (bayView bay (Table.get s1.bays bay)) s1

def serveRedefineBay (c : Cls) (bay zone node channel kind : Nat) (s : State) : Served :=
  match Kind.ofCode kind with
  | none => refuse .badValue s
  | some k =>
    need (within 0 2047 bay && within 0 31 zone && within 0 255 node && within 0 15 channel) .badValue s <|
    need (serviceOnly c) .denied s <|
    match Table.get s.bays bay with
    | none => refuse .noSuch s
    | some b =>
      need (Table.has s.zones zone && Table.has s.nodes node) .noSuch s <|
      need (decide (s.kindOf node = some .sensor) && !s.channelTaken bay node channel) .conflict s <|
      let placed := { b with zone := zone, node := node, channel := channel, kind := k }
      let s1 := s.putBay bay
        (if node = b.node ∧ channel = b.channel then placed else placed.lost)
      serveOk (bayView bay (Table.get s1.bays bay)) s1

def serveRetireBay (c : Cls) (bay : Nat) (s : State) : Served :=
  need (within 0 2047 bay) .badValue s <|
  need (serviceOnly c) .denied s <|
  match Table.get s.bays bay with
  | none => refuse .noSuch s
  | some b =>
    need (!s.fireActive) .fireLock s <|
    need b.reservation.isNone .inUse s <|
    serveOk (bayView bay (some b)) ((s.withBays (Table.erase s.bays bay)).recount (some b) none)

/-! ### The commands -/

/-- READ_BAYS (R22, R23, R26). -/
def execReadBays (h : Head) (start count direction step : Nat) (s : State) : Outcome State Fault Refusal :=
  .next (s.arrive h (.readBays start count direction step)
    (fun _ s => serveReadBays start count direction step s))

/-- FIND_BAYS (R22, R24, R26). -/
def execFindBays (h : Head) (zone : Nat) (kinds states : Byte) (after maximum : Nat) (s : State) :
    Outcome State Fault Refusal :=
  .next (s.arrive h (.findBays zone kinds states after maximum)
    (fun _ s => serveFindBays zone kinds states after maximum s))

/-- CHANGE_BAY (R11 to R13). -/
def execChangeBay (h : Head) (bay mode : Nat) (marks : Byte) (s : State) : Outcome State Fault Refusal :=
  .next (s.arrive h (.changeBay bay mode marks) (fun c s => serveChangeBay c bay mode marks s))

/-- RESERVE_BAY (R15). -/
def execReserveBay (h : Head) (bay holder hold : Nat) (s : State) : Outcome State Fault Refusal :=
  .next (s.arrive h (.reserveBay bay holder hold) (fun c s => serveReserveBay c bay holder hold s))

/-- RELEASE_BAY (R16). -/
def execReleaseBay (h : Head) (bay holder : Nat) (s : State) : Outcome State Fault Refusal :=
  .next (s.arrive h (.releaseBay bay holder) (fun c s => serveReleaseBay c bay holder s))

/-- DEFINE_BAY (R19). -/
def execDefineBay (h : Head) (bay zone node channel kind : Nat) (s : State) : Outcome State Fault Refusal :=
  .next (s.arrive h (.defineBay bay zone node channel kind)
    (fun c s => serveDefineBay c bay zone node channel kind s))

/-- REDEFINE_BAY (R20). -/
def execRedefineBay (h : Head) (bay zone node channel kind : Nat) (s : State) :
    Outcome State Fault Refusal :=
  .next (s.arrive h (.redefineBay bay zone node channel kind)
    (fun c s => serveRedefineBay c bay zone node channel kind s))

/-- RETIRE_BAY (R21). -/
def execRetireBay (h : Head) (bay : Nat) (s : State) : Outcome State Fault Refusal :=
  .next (s.arrive h (.retireBay bay) (fun c s => serveRetireBay c bay s))

/-- R17: the reservation of a bay falls due: it is removed, a RESERVED bay becomes FREE, and
RESERVATION_EXPIRED is raised, after any WATCH_CHANGE item. -/
def State.expireReservation (bay : Nat) (s : State) : State :=
  match Table.get s.bays bay with
  | none => s
  | some b =>
    if dueNow s.seconds (b.reservation.map (fun r => r.expiry)) then
      (s.putBay bay b.unreserved).raise .bay bay .reservationExpired
    else s

/-- RESERVATION_EXPIRY (R17, R18). -/
def execReservationExpiry (bay : Nat) (s : State) : Outcome State Fault Refusal :=
  .next (s.expireReservation bay)

end Sys2Proof.Machine
end

