-- ==== Sys2Proof/Machine/Zones.lean ====
section
/-! DEFINITION. The zone requests (spec/02): ranges and consistency of zone settings (2.6, R40), and
READ_ZONE, CLOSE_ZONE, OPEN_ZONE, DEFINE_ZONE, SET_ZONE and RETIRE_ZONE. -/

namespace Sys2Proof.Machine

open Host

/-! ### Settings (tables of 2.1 and 2.6) -/

/-- The defaults of 2.1 and 2.6 (R41). -/
def ZoneSettings.default : ZoneSettings :=
  { fullAt := 5, hysteresis := 5
    co := { weight := 2, start := 25, full := 100, warn := 60, alarm := 120, hyst := 10 }
    no2 := { weight := 2, start := 10, full := 50, warn := 30, alarm := 50, hyst := 5 }
    alarmConfirm := 2, clearConfirm := 6, blindLimit := 6, blindDemand := 50
    arrivalCredit := 6, departureCredit := 12, decay := 8, minDemand := 10 }

/-- R41, R42: the settings with the given values put in the place of the base's. -/
def fieldsApplied (f : ZoneFields) (st : ZoneSettings) : ZoneSettings :=
  { fullAt := f.fullAt.getD st.fullAt
    hysteresis := f.hysteresis.getD st.hysteresis
    co :=
      { weight := f.coWeight.getD st.co.weight, start := f.coStart.getD st.co.start
        full := f.coFull.getD st.co.full, warn := f.coWarn.getD st.co.warn
        alarm := f.coAlarm.getD st.co.alarm, hyst := f.coHyst.getD st.co.hyst }
    no2 :=
      { weight := f.no2Weight.getD st.no2.weight, start := f.no2Start.getD st.no2.start
        full := f.no2Full.getD st.no2.full, warn := f.no2Warn.getD st.no2.warn
        alarm := f.no2Alarm.getD st.no2.alarm, hyst := f.no2Hyst.getD st.no2.hyst }
    alarmConfirm := f.alarmConfirm.getD st.alarmConfirm
    clearConfirm := f.clearConfirm.getD st.clearConfirm
    blindLimit := f.blindLimit.getD st.blindLimit
    blindDemand := f.blindDemand.getD st.blindDemand
    arrivalCredit := f.arrivalCredit.getD st.arrivalCredit
    departureCredit := f.departureCredit.getD st.departureCredit
    decay := f.decay.getD st.decay
    minDemand := f.minDemand.getD st.minDemand }

/-- R179 step 4: the ranges of 2.1 and 2.6. A range that names another setting (H from L+1, X from
W+1, Y to W-1) is taken at its widest here (log 40); R40 judges it against the record. -/
def fieldsInRange (f : ZoneFields) : Bool :=
  optWithin 0 255 f.fullAt && optWithin 1 255 f.hysteresis &&
  optWithin 0 5 f.coWeight && optWithin 0 5 f.no2Weight &&
  optWithin 0 998 f.coStart && optWithin 1 999 f.coFull &&
  optWithin 0 249 f.no2Start && optWithin 1 250 f.no2Full &&
  optWithin 1 998 f.coWarn && optWithin 2 999 f.coAlarm && optWithin 0 997 f.coHyst &&
  optWithin 1 249 f.no2Warn && optWithin 2 250 f.no2Alarm && optWithin 0 248 f.no2Hyst &&
  optWithin 1 8 f.alarmConfirm && optWithin 1 32 f.clearConfirm && optWithin 1 30 f.blindLimit &&
  optWithin 0 100 f.blindDemand && optWithin 0 40 f.arrivalCredit && optWithin 0 40 f.departureCredit &&
  optWithin 0 20 f.decay && optWithin 0 100 f.minDemand

/-- R40: one gas's settings lie in their ranges, for the gas's maximum, and keep the three
inequalities. -/
def GasSettings.consistent (maximum : Nat) (g : GasSettings) : Bool :=
  within 0 5 g.weight && decide (g.start < g.full) && decide (g.full ≤ maximum) &&
  decide (1 ≤ g.warn) && decide (g.warn < g.alarm) && decide (g.alarm ≤ maximum) &&
  decide (g.hyst < g.warn)

/-- R40: a consistent set of settings, with the level. -/
def ZoneSettings.consistent (level : Nat) (st : ZoneSettings) : Bool :=
  within 1 8 level && within 0 255 st.fullAt && within 1 255 st.hysteresis &&
  st.co.consistent 999 && st.no2.consistent 250 &&
  within 1 8 st.alarmConfirm && within 1 32 st.clearConfirm && within 1 30 st.blindLimit &&
  within 0 100 st.blindDemand && within 0 40 st.arrivalCredit && within 0 40 st.departureCredit &&
  within 0 20 st.decay && within 0 100 st.minDemand

/-! ### READ_ZONE, CLOSE_ZONE, OPEN_ZONE -/

/-- R44: READ_ZONE's checks and view. -/
def serveReadZone (zone : Nat) (s : State) : Served :=
  need (within 0 31 zone) .badValue s <|
  need (Table.has s.zones zone) .noSuch s <|
  serveOk (s.zoneViewOf zone) s

/-- R35, R36: the checks that CLOSE_ZONE and OPEN_ZONE share, and the change of the OPERATOR cause. -/
def serveOperatorCause (present : Bool) (c : Cls) (zone : Nat) (s : State) : Served :=
  need (within 0 31 zone) .badValue s <|
  need (operatorUp c) .denied s <|
  need (s.permits c (zoneSingle zone)) .denied s <|
  need (Table.has s.zones zone) .noSuch s <|
  let s1 := s.changeCauses zone (fun k => { k with operator := present })
  serveOk (s1.zoneViewOf zone) s1

/-! ### DEFINE_ZONE, SET_ZONE, RETIRE_ZONE -/

/-- R41, R73: the record of a newly defined zone; FIRE is part of it while fire mode is active
(R38). -/
def Zone.fresh (level : Nat) (st : ZoneSettings) (fire : Bool) : Zone :=
  { level := level, tallies := Tallies.none, total := 0, free := FreeCounts.none, fill := .full
    causes := { Causes.none with fire := fire }, settings := st, air := AirState.start st.minDemand }

def serveDefineZone (c : Cls) (zone level : Nat) (fields : ZoneFields) (s : State) : Served :=
  let st := fieldsApplied fields ZoneSettings.default
  need (within 0 31 zone && within 1 8 level && fieldsInRange fields) .badValue s <|
  need (serviceOnly c) .denied s <|
  need (!Table.has s.zones zone) .alreadyDefined s <|
  need (st.consistent level) .badValue s <|
  let s1 := s.withZones (Table.set s.zones zone (Zone.fresh level st s.fireActive))
  serveOk (s1.zoneViewOf zone) s1

/-- R42, R72: the record with its new level and settings: a changed weight makes that gas's average
absent, and the fill state is judged when a fill setting has changed. -/
def Zone.withSettings (level : Nat) (st : ZoneSettings) (z : Zone) : Zone :=
  let z1 :=
    { z with
      level := level
      settings := st
      air :=
        { z.air with
          coAvg := if st.co.weight = z.settings.co.weight then z.air.coAvg else none
          no2Avg := if st.no2.weight = z.settings.no2.weight then z.air.no2Avg else none } }
  if st.fullAt = z.settings.fullAt ∧ st.hysteresis = z.settings.hysteresis then z1 else z1.judged

def serveSetZone (c : Cls) (zone : Nat) (level : Option Nat) (fields : ZoneFields) (s : State) : Served :=
  need (within 0 31 zone && optWithin 1 8 level && fieldsInRange fields) .badValue s <|
  need (serviceOnly c) .denied s <|
  match Table.get s.zones zone with
  | none => refuse .noSuch s
  | some z =>
    let lv := level.getD z.level
    let st := fieldsApplied fields z.settings
    need (st.consistent lv) .badValue s <|
    let z1 := z.withSettings lv st
    let s1 := s.withZones (Table.set s.zones zone z1)
    let s2 := if z1.fill = z.fill then s1 else s1.markSigns zone
    serveOk (s2.zoneViewOf zone) s2

/-- R43: something still refers to the zone: a bay, a GAS or SENSOR node, a luminaire group, a fan
group or a sign. -/
def State.zoneInUse (s : State) (zone : Nat) : Bool :=
  Table.exists s.bays (fun _ b => decide (b.zone = zone)) ||
  Table.exists s.nodes (fun _ n =>
    decide (n.zone = some zone) && (decide (n.kind = .gas) || decide (n.kind = .sensor))) ||
  Table.exists s.lights (fun _ l => decide (l.zone = zone)) ||
  Table.exists s.fans (fun _ g => g.served.getLsbD zone) ||
  Table.exists s.signs (fun _ g => g.config.dependsOn zone)

/-- R43: the record and all it holds are discarded. R141: "When a zone is retired its number leaves the
fume set". -/
def serveRetireZone (c : Cls) (zone : Nat) (s : State) : Served :=
  need (within 0 31 zone) .badValue s <|
  need (serviceOnly c) .denied s <|
  need (Table.has s.zones zone) .noSuch s <|
  need (!s.fireActive) .fireLock s <|
  need (!s.zoneInUse zone) .inUse s <|
  serveOk (s.zoneViewOf zone)
    ((s.withZones (Table.erase s.zones zone)).withFumeSet (s.fumeSet &&& ~~~(zoneSingle zone)))

/-! ### The commands -/

/-- READ_ZONE (R44). -/
def execReadZone (h : Head) (zone : Nat) (s : State) : Outcome State Fault Refusal :=
  .next (s.arrive h (.readZone zone) (fun _ s => serveReadZone zone s))

/-- CLOSE_ZONE (R35). -/
def execCloseZone (h : Head) (zone : Nat) (s : State) : Outcome State Fault Refusal :=
  .next (s.arrive h (.closeZone zone) (fun c s => serveOperatorCause true c zone s))

/-- OPEN_ZONE (R36). -/
def execOpenZone (h : Head) (zone : Nat) (s : State) : Outcome State Fault Refusal :=
  .next (s.arrive h (.openZone zone) (fun c s => serveOperatorCause false c zone s))

/-- DEFINE_ZONE (R41). -/
def execDefineZone (h : Head) (zone level : Nat) (fields : ZoneFields) (s : State) :
    Outcome State Fault Refusal :=
  .next (s.arrive h (.defineZone zone level fields) (fun c s => serveDefineZone c zone level fields s))

/-- SET_ZONE (R42). -/
def execSetZone (h : Head) (zone : Nat) (level : Option Nat) (fields : ZoneFields) (s : State) :
    Outcome State Fault Refusal :=
  .next (s.arrive h (.setZone zone level fields) (fun c s => serveSetZone c zone level fields s))

/-- RETIRE_ZONE (R43). -/
def execRetireZone (h : Head) (zone : Nat) (s : State) : Outcome State Fault Refusal :=
  .next (s.arrive h (.retireZone zone) (fun c s => serveRetireZone c zone s))

end Sys2Proof.Machine
end

