-- ==== Sys2Proof/Machine/Fans.lean ====
section
/-! DEFINITION. The fan requests (spec/04 4.3, 4.7 to 4.9), the fan step (R86 to R89), and the expiries
of the start slot (R90), proof timers (R79), overrides (R84) and the air evaluation timer (R52). -/

namespace Sys2Proof.Machine

open Host

/-! ### READ_FAN, PUSH_OVERRIDE, POP_OVERRIDE -/

/-- R100. -/
def serveReadFan (group : Nat) (s : State) : Served :=
  need (within 0 23 group) .badValue s <|
  need (Table.has s.fans group) .noSuch s <|
  serveOk (s.fanViewOf group) s

/-- R82, R83: the top entry ranks higher than the class. -/
def Fan.outranks (g : Fan) (c : Cls) : Bool := g.top.any (fun e => decide (c.rank < e.cls.rank))

/-- R82. -/
def servePushOverride (c : Cls) (group level : Nat) (duration : Option Nat) (tag : Nat) (s : State) :
    Served :=
  need (within 0 23 group && within 0 100 level && optWithin 1 86400 duration && within 0 255 tag)
    .badValue s <|
  need (s.permits c (s.fanZones group)) .denied s <|
  match Table.get s.fans group with
  | none => refuse .noSuch s
  | some g =>
    need (!g.outranks c) .outranked s <|
    need (decide (g.stack.length < Config.stackDepth)) .stackFull s <|
    let e : Entry := { cls := c, level := level, expiry := duration.map s.expiryIn, tag := tag }
    let s1 := (s.changeFan group (fun g => { g with stack := g.stack ++ [e] })).retarget group
    serveOk (s1.fanViewOf group) s1

/-- R83. -/
def servePopOverride (c : Cls) (group : Nat) (s : State) : Served :=
  need (within 0 23 group) .badValue s <|
  need (s.permits c (s.fanZones group)) .denied s <|
  match Table.get s.fans group with
  | none => refuse .noSuch s
  | some g =>
    need (!g.stack.isEmpty) .stackEmpty s <|
    need (!(g.fireTop || g.outranks c)) .outranked s <|
    let s1 := (s.changeFan group (fun g => { g with stack := g.stack.dropLast })).retarget group
    serveOk (s1.fanViewOf group) s1

/-! ### FAN_CONTROL (R94 to R96) -/

/-- R94: the classes an action allows. -/
def FanAction.allows : FanAction → Cls → Bool
  | .isolate, c => serviceOnly c
  | .restore, c => operatorUp c
  | .clearFault, c => serviceOnly c

/-- R95, R96: the states in which an action changes a group. -/
def FanAction.changes : FanAction → FanState → Bool
  | .isolate, st => decide (st ≠ .isolated)
  | .restore, st => decide (st = .isolated)
  | .clearFault, st => decide (st = .fault)

/-- R95: ISOLATE on one group. -/
def State.isolate (group : Nat) (g : Fan) (s : State) : State :=
  let s1 := (s.changeFan group (fun g =>
    { g with state := .isolated, commanded := 0, proof := none, faultCause := none })).leaveQueue group
  if g.state.available then s1.availabilityNotice g.served else s1

/-- R96: RESTORE and CLEAR_FAULT return a group to STOPPED; its drives are judged, and an available
group is announced. -/
def State.returnToService (group : Nat) (g : Fan) (s : State) : State :=
  let s1 := (s.changeFan group (fun g => { g with state := .stopped, faultCause := none })).judgeDrives group
  if (Table.get s1.fans group).any (fun g => g.state.available) then s1.availabilityNotice g.served
  else s1

/-- R94 to R96: an action applied to one defined group. -/
def State.control (a : FanAction) (group : Nat) (s : State) : State :=
  match Table.get s.fans group with
  | none => s
  | some g =>
    if !a.changes g.state then s
    else
      match a with
      | .isolate => s.isolate group g
      | .restore => s.returnToService group g
      | .clearFault => s.returnToService group g

/-- R94, R197: the outcome of one group: its number, whether the action changed it, its state after. -/
def controlOutcome (a : FanAction) (before after : State) (group : Nat) : List Byte :=
  [byte group,
   flagByte ((Table.get before.fans group).any (fun g => a.changes g.state)),
   byte (((Table.get after.fans group).map (fun g => g.state.code)).getD 0)]

/-- R94. -/
def serveFanControl (c : Cls) (groups : BitVec 32) (action : Nat) (s : State) : Served :=
  match FanAction.ofCode action with
  | none => refuse .badValue s
  | some a =>
    need (decide (groups ≠ 0) && decide (groups.toNat < 16777216)) .badValue s <|
    need (a.allows c) .denied s <|
    need (s.permits c (s.fansZones groups)) .denied s <|
    let ns := s.fansIn groups
    need (!ns.isEmpty) .noSuch s <|
    need (!(decide (a = .isolate) && s.fireActive)) .fireLock s <|
    let s1 := State.forEach (State.control a) ns s
    serveOk (byte ns.length :: ns.flatMap (controlOutcome a s s1)) s1

/-! ### DEFINE_FAN, SET_FAN, RETIRE_FAN (R97 to R99) -/

/-- The defaults of 4.1 (R97). -/
def FanSettings.default : FanSettings :=
  { vmin := 25, su := 10, sd := 5, minRun := 120, fireIn := 100, fireOut := 50 }

/-- R97, R98: the settings with the given values put in the place of the base's. -/
def fanFieldsApplied (f : FanFields) (st : FanSettings) : FanSettings :=
  { vmin := f.vmin.getD st.vmin, su := f.su.getD st.su, sd := f.sd.getD st.sd
    minRun := f.minRun.getD st.minRun, fireIn := f.fireIn.getD st.fireIn
    fireOut := f.fireOut.getD st.fireOut }

/-- The ranges of 4.1. -/
def fanFieldsInRange (f : FanFields) : Bool :=
  optWithin 10 60 f.vmin && optWithin 1 100 f.su && optWithin 1 100 f.sd && optWithin 0 600 f.minRun &&
  optWithin 0 100 f.fireIn && optWithin 0 100 f.fireOut

/-- R97: a drive list of 1 to 4 node numbers. -/
def drivesInRange (l : List Nat) : Bool := within 1 4 l.length && l.all (within 0 255)

/-- R97, R98: a listed node is not of kind FAN, is listed twice, or is listed by another group. -/
def State.drivesClash (s : State) (group : Nat) (l : List Nat) : Bool :=
  l.any (fun n => decide (s.kindOf n ≠ some .fan)) || !decide l.Nodup ||
  l.any (fun n => Table.exists s.fans (fun k g =>
    decide (k ≠ group) && g.drives.any (fun d => decide (d.node = n))))

/-- R99: a group is retired: it leaves the queue and its entry becomes undefined. -/
def State.removeFan (group : Nat) (s : State) : State :=
  (s.leaveQueue group).withFans (Table.erase s.fans group)

/-- R97: the record of a new group. -/
def Fan.fresh (zones : ZoneSet) (drives : List Nat) (st : FanSettings) : Fan :=
  { served := zones, drives := drives.map (fun n => { node := n, report := none }), settings := st
    state := .stopped, target := 0, commanded := 0, stack := [], grantedAt := none, proof := none
    degraded := false, faultCause := none }

/-- R97: the new group in place: its FIRE entry while fire mode is active, its target, its drives
judged, and one availability notice for the old and new served zones (log 30). -/
def State.installFan (group : Nat) (g : Fan) (noticed : ZoneSet) (s : State) : State :=
  let s1 := (s.removeFan group).withFans (Table.set s.fans group g)
  let s2 := if s1.fireActive then s1.placeFire group else s1
  ((s2.retarget group).judgeDrives group).availabilityNotice noticed

def serveDefineFan (c : Cls) (group : Nat) (zones : ZoneSet) (drives : List Nat) (fields : FanFields)
    (s : State) : Served :=
  need (within 0 23 group && decide (zones ≠ 0) && drivesInRange drives && fanFieldsInRange fields)
    .badValue s <|
  need (serviceOnly c) .denied s <|
  need (!(Table.has s.fans group && s.fireActive)) .fireLock s <|
  need (s.zonesDefined zones && drives.all (Table.has s.nodes)) .noSuch s <|
  need (!s.drivesClash group drives) .conflict s <|
  let s1 := s.installFan group (Fan.fresh zones drives (fanFieldsApplied fields FanSettings.default))
    (s.fanZones group ||| zones)
  serveOk (s1.fanViewOf group) s1

/-- R98: a drive listed before and after keeps its report; a newly listed one has none. -/
def redrive (old : List Drive) (l : List Nat) : List Drive :=
  l.map (fun n => { node := n, report := (old.find? (fun d => decide (d.node = n))).bind (fun d => d.report) })

/-- R98: the record with its new fields; a RUNNING group's commanded is raised to a new Vmin. -/
def Fan.changed (zones : ZoneSet) (drives : List Nat) (st : FanSettings) (g : Fan) : Fan :=
  { g with
    served := zones
    drives := redrive g.drives drives
    settings := st
    commanded :=
      if g.state = .running ∧ g.settings.vmin ≠ st.vmin then max st.vmin g.commanded else g.commanded }

/-- R98: all the given values take effect together: the target on new served zones, the drives judged
on a new drive list, and one availability notice on new served zones (log 30). -/
def State.changeFanWhole (group : Nat) (g : Fan) (zones : ZoneSet) (drives : List Nat) (st : FanSettings)
    (s : State) : State :=
  let s1 := s.withFans (Table.set s.fans group (g.changed zones drives st))
  let s2 := if zones = g.served then s1 else s1.retarget group
  let s3 := if drives = g.drives.map (fun d => d.node) then s2 else s2.judgeDrives group
  if zones = g.served then s3 else s3.availabilityNotice (g.served ||| zones)

def serveSetFan (c : Cls) (group : Nat) (zones : Option ZoneSet) (drives : Option (List Nat))
    (fields : FanFields) (s : State) : Served :=
  need (within 0 23 group && zones.all (fun z => decide (z ≠ 0)) && drives.all drivesInRange &&
    fanFieldsInRange fields) .badValue s <|
  need (serviceOnly c) .denied s <|
  need (!s.fireActive) .fireLock s <|
  match Table.get s.fans group with
  | none => refuse .noSuch s
  | some g =>
    let zs := zones.getD g.served
    let ds := drives.getD (g.drives.map (fun d => d.node))
    need (zones.all s.zonesDefined && drives.all (fun l => l.all (Table.has s.nodes))) .noSuch s <|
    need (!drives.any (s.drivesClash group)) .conflict s <|
    let s1 := s.changeFanWhole group g zs ds (fanFieldsApplied fields g.settings)
    serveOk (s1.fanViewOf group) s1

def serveRetireFan (c : Cls) (group : Nat) (s : State) : Served :=
  need (within 0 23 group) .badValue s <|
  need (serviceOnly c) .denied s <|
  match Table.get s.fans group with
  | none => refuse .noSuch s
  | some g =>
    need (!s.fireActive) .fireLock s <|
    serveOk (s.fanViewOf group) ((s.removeFan group).availabilityNotice g.served)

/-! ### The fan step (R86 to R89) -/

/-- R88: the running goal. -/
def Fan.goal (g : Fan) : Nat := max g.target g.settings.vmin

/-- R88: commanded moved toward the goal. -/
def Fan.moved (g : Fan) : Fan :=
  { g with
    commanded :=
      if g.fireTop then g.goal
      else if g.commanded < g.goal then min g.goal (g.commanded + g.settings.su)
      else max g.goal (g.commanded - g.settings.sd) }

/-- A group stops: commanded 0, the proof timer dropped, granted at kept. -/
def Fan.stopped (g : Fan) : Fan := { g with state := .stopped, commanded := 0, proof := none }

/-- R89: a RUNNING group whose target is 0. -/
def Fan.windDown (now : Seconds) (g : Fan) : Fan :=
  if g.fireTop then g.stopped
  else if g.settings.vmin < g.commanded then
    { g with commanded := max g.settings.vmin (g.commanded - g.settings.sd) }
  else if g.grantedAt.all (fun t => decide (g.settings.minRun ≤ (now - t).toNat)) then g.stopped
  else g

/-- R87 to R89: the action of a fan step on a group whose target has been recomputed. -/
def State.stepAction (group : Nat) (g : Fan) (s : State) : State :=
  match g.state with
  | .isolated => s
  | .fault => s
  | .stopped => if 0 < g.target then s.joinQueue group else s
  | .waiting => if g.target = 0 then (s.leaveQueue group).changeFan group Fan.stopped else s
  | .running =>
    if 0 < g.target then (s.changeFan group Fan.moved).judgeDrives group
    else s.changeFan group (Fan.windDown s.seconds)

/-- R86: one group at a fan step, taken whole. -/
def State.stepGroup (group : Nat) (s : State) : State :=
  let s1 := s.retarget group
  match Table.get s1.fans group with
  | none => s1
  | some g => s1.stepAction group g

/-- R86: one expiry of the fan step timer; the next falls at this one's own second plus the period. -/
def State.fanStepAll (s : State) : State :=
  State.forEach State.stepGroup (Table.keys s.fans)
    (s.withFanNext (s.fanNext + BitVec.ofNat 32 s.settings.fanPeriod))

/-! ### Expiries -/

/-- R90: the slot's expiry: the head of the queue is granted and the slot stays busy for T more, or
the slot becomes idle. A head whose target has fallen to 0 since the last fan step is granted too (R87, R91).
DEDUCED (log 43): so is one whose FIRE entry has level 0, of which R107 says that it does not start; R108 sends
such a waiter to R87. -/
def State.slotExpires (s : State) : State :=
  if dueNow s.seconds s.slot then
    match s.queue with
    | [] => s.withSlot none
    | group :: _ => (s.grant group).takeSlot
  else s

/-- R79: the proof timer of a RUNNING group falls due. -/
def State.proofExpires (group : Nat) (s : State) : State :=
  match Table.get s.fans group with
  | none => s
  | some g =>
    match g.proof with
    | none => s
    | some p =>
      if decide (g.state = .running) && reached s.seconds p.expiry then
        s.enterFault group (if p.proven then .runLost else .startFail)
      else s

/-- R84: the entries of a group that are due are removed, and the target is recomputed. -/
def State.overridesExpire (group : Nat) (s : State) : State :=
  (s.changeFan group (fun g =>
    { g with stack := g.stack.filter (fun e => !dueNow s.seconds e.expiry) })).retarget group

/-- Whether some entry of a group's stack is due. -/
def State.overrideDue (s : State) (group : Nat) : Bool :=
  (Table.get s.fans group).any (fun g => g.stack.any (fun e => dueNow s.seconds e.expiry))

/-! ### The commands -/

/-- READ_FAN (R100). -/
def execReadFan (h : Head) (group : Nat) (s : State) : Outcome State Fault Refusal :=
  .next (s.arrive h (.readFan group) (fun _ s => serveReadFan group s))

/-- PUSH_OVERRIDE (R82). -/
def execPushOverride (h : Head) (group level : Nat) (duration : Option Nat) (tag : Nat) (s : State) :
    Outcome State Fault Refusal :=
  .next (s.arrive h (.pushOverride group level duration tag)
    (fun c s => servePushOverride c group level duration tag s))

/-- POP_OVERRIDE (R83). -/
def execPopOverride (h : Head) (group : Nat) (s : State) : Outcome State Fault Refusal :=
  .next (s.arrive h (.popOverride group) (fun c s => servePopOverride c group s))

/-- FAN_CONTROL with action ISOLATE (R94, R95). -/
def execFanControlIsolate (h : Head) (groups : BitVec 32) (s : State) : Outcome State Fault Refusal :=
  .next (s.arrive h (.fanControl groups 0) (fun c s => serveFanControl c groups 0 s))

/-- FAN_CONTROL with action RESTORE (R94, R96). -/
def execFanControlRestore (h : Head) (groups : BitVec 32) (s : State) : Outcome State Fault Refusal :=
  .next (s.arrive h (.fanControl groups 1) (fun c s => serveFanControl c groups 1 s))

/-- FAN_CONTROL with action CLEAR_FAULT (R94, R96). -/
def execFanControlClearFault (h : Head) (groups : BitVec 32) (s : State) :
    Outcome State Fault Refusal :=
  .next (s.arrive h (.fanControl groups 2) (fun c s => serveFanControl c groups 2 s))

/-- DEFINE_FAN (R97). -/
def execDefineFan (h : Head) (group : Nat) (zones : ZoneSet) (drives : List Nat) (fields : FanFields)
    (s : State) : Outcome State Fault Refusal :=
  .next (s.arrive h (.defineFan group zones drives fields)
    (fun c s => serveDefineFan c group zones drives fields s))

/-- SET_FAN (R98). -/
def execSetFan (h : Head) (group : Nat) (zones : Option ZoneSet) (drives : Option (List Nat))
    (fields : FanFields) (s : State) : Outcome State Fault Refusal :=
  .next (s.arrive h (.setFan group zones drives fields)
    (fun c s => serveSetFan c group zones drives fields s))

/-- RETIRE_FAN (R99). -/
def execRetireFan (h : Head) (group : Nat) (s : State) : Outcome State Fault Refusal :=
  .next (s.arrive h (.retireFan group) (fun c s => serveRetireFan c group s))

/-- AIR_EVALUATION_EXPIRY (R52 to R68). -/
def execAirEvaluationExpiry (s : State) : Outcome State Fault Refusal :=
  .next (if reached s.seconds s.airNext then s.evaluateAll else s)

/-- FAN_STEP (R86 to R89). -/
def execFanStep (s : State) : Outcome State Fault Refusal :=
  .next (if reached s.seconds s.fanNext then s.fanStepAll else s)

/-- START_SLOT_EXPIRY (R90). -/
def execStartSlotExpiry (s : State) : Outcome State Fault Refusal := .next s.slotExpires

/-- PROOF_TIMER_EXPIRY (R79). -/
def execProofTimerExpiry (group : Nat) (s : State) : Outcome State Fault Refusal :=
  .next (s.proofExpires group)

/-- OVERRIDE_EXPIRY (R84). -/
def execOverrideExpiry (group : Nat) (s : State) : Outcome State Fault Refusal :=
  .next (if s.overrideDue group then s.overridesExpire group else s)

end Sys2Proof.Machine
end

