-- ==== Sys2Proof/Machine/Signs.lean ====
section
/-! DEFINITION. The sign requests (spec/06 6.5 to 6.7): READ_SIGN, DEFINE_SIGN, SET_SIGN, RETIRE_SIGN. -/

namespace Sys2Proof.Machine

open Host

/-! ### Settings (R117, R129) -/

/-- The empty set of kinds. -/
def KindSet.isEmpty (k : KindSet) : Bool := decide (k.mask = 0)

/-- R117, R129: the kind rules of a set of sign settings whose values are each in range. -/
def SignDef.consistent (d : SignDef) : Bool :=
  match d.kind with
  | .count =>
    decide (d.termA = 0) && decide (d.termB = 0) && decide (d.countZones ≠ 0) && !d.countKinds.isEmpty
  | .arrow => decide (d.countZones = 0)
  | .both => decide (d.countZones ≠ 0) && !d.countKinds.isEmpty

/-- R130: the settings a DEFINE_SIGN names; none where a code or a number is out of its range (6.1,
R200). -/
def signDefOf (f : SignFields) : Option SignDef :=
  match SignKind.ofCode f.kind, KindSet.ofMask f.countKinds, Arrow.ofCode f.out0, Arrow.ofCode f.out1,
    Arrow.ofCode f.out2, Arrow.ofCode f.out3 with
  | some k, some ks, some o0, some o1, some o2, some o3 =>
    if within 0 255 f.node && within 0 99 f.fullAt then
      some { node := f.node, kind := k, countZones := f.countZones, countKinds := ks,
             fullAt := f.fullAt, termA := f.termA, termB := f.termB, out0 := o0, out1 := o1,
             out2 := o2, out3 := o3 }
    else none
  | _, _, _, _, _, _ => none

/-- The definition as the fields of a request, its absent values from `d`. -/
def signFieldsOver (c : SignChange) (d : SignDef) : SignFields :=
  { node := c.node.getD d.node
    kind := c.kind.getD d.kind.code
    countZones := c.countZones.getD d.countZones
    countKinds := c.countKinds.getD (byte d.countKinds.mask)
    fullAt := c.fullAt.getD d.fullAt
    termA := c.termA.getD d.termA
    termB := c.termB.getD d.termB
    out0 := c.out0.getD d.out0.code
    out1 := c.out1.getD d.out1.code
    out2 := c.out2.getD d.out2.code
    out3 := c.out3.getD d.out3.code }

/-- R131, R179 step 4: every given value of a SET_SIGN lies in its range. -/
def signChangeInRange (c : SignChange) : Bool :=
  optWithin 0 255 c.node && c.kind.all (fun k => (SignKind.ofCode k).isSome) &&
  c.countKinds.all (fun k => (KindSet.ofMask k).isSome) && optWithin 0 99 c.fullAt &&
  c.out0.all (fun a => (Arrow.ofCode a).isSome) && c.out1.all (fun a => (Arrow.ofCode a).isSome) &&
  c.out2.all (fun a => (Arrow.ofCode a).isSome) && c.out3.all (fun a => (Arrow.ofCode a).isSome)

/-- R130, R131: the node is not of kind SIGN, or another sign lists it. -/
def State.signNodeClash (s : State) (sign node : Nat) : Bool :=
  decide (s.kindOf node ≠ some .sign) ||
  Table.exists s.signs (fun k g => decide (k ≠ sign) && decide (g.config.node = node))

/-! ### The requests -/

/-- R133. -/
def serveReadSign (sign : Nat) (s : State) : Served :=
  need (within 0 63 sign) .badValue s <|
  need (Table.has s.signs sign) .noSuch s <|
  serveOk (s.signViewOf sign) s

/-- R130: the record of a new sign. -/
def State.freshSign (s : State) (d : SignDef) : Sign :=
  { config := d, content := s.contentOf d, accepted := none, sent := none, dirty := true
    unseen := s.unreachable d.node, displayFault := none }

def serveDefineSign (c : Cls) (sign : Nat) (fields : SignFields) (s : State) : Served :=
  match signDefOf fields with
  | none => refuse .badValue s
  | some d =>
    need (within 0 63 sign) .badValue s <|
    need (serviceOnly c) .denied s <|
    need (!Table.has s.signs sign) .alreadyDefined s <|
    need d.consistent .badValue s <|
    need (Table.has s.nodes d.node && s.zonesDefined (d.countZones ||| d.termA ||| d.termB)) .noSuch s <|
    need (!s.signNodeClash sign d.node) .conflict s <|
    let s1 := s.withSigns (Table.set s.signs sign (s.freshSign d))
    serveOk (s1.signViewOf sign) s1

/-- R131: the record with a new definition: recomputed, its sent content absent, and on a change of
node its accepted content and display fault absent and its unseen flag judged afresh. A definition
equal to the one held changes nothing. -/
def State.redefinedSign (s : State) (d : SignDef) (g : Sign) : Sign :=
  if d = g.config then g
  else
    let g1 := { g with config := d, content := s.contentOf d, sent := none }
    (if d.node = g.config.node then g1
     else { g1 with accepted := none, unseen := s.unreachable d.node, displayFault := none }).judged

/-- R131: a zone named in the request's own masks is undefined. -/
def State.changeZonesDefined (s : State) (c : SignChange) : Bool :=
  c.countZones.all s.zonesDefined && c.termA.all s.zonesDefined && c.termB.all s.zonesDefined

def serveSetSign (c : Cls) (sign : Nat) (change : SignChange) (s : State) : Served :=
  need (within 0 63 sign && signChangeInRange change) .badValue s <|
  need (serviceOnly c) .denied s <|
  match Table.get s.signs sign with
  | none => refuse .noSuch s
  | some g =>
    need (change.node.all (Table.has s.nodes) && s.changeZonesDefined change) .noSuch s <|
    match signDefOf (signFieldsOver change g.config) with
    | none => refuse .badValue s
    | some d =>
      need d.consistent .badValue s <|
      need (change.node.all (fun n => !s.signNodeClash sign n)) .conflict s <|
      let s1 := s.withSigns (Table.set s.signs sign (s.redefinedSign d g))
      serveOk (s1.signViewOf sign) s1

/-- R132. -/
def serveRetireSign (c : Cls) (sign : Nat) (s : State) : Served :=
  need (within 0 63 sign) .badValue s <|
  need (serviceOnly c) .denied s <|
  need (Table.has s.signs sign) .noSuch s <|
  need (!s.fireActive) .fireLock s <|
  serveOk (s.signViewOf sign) (s.withSigns (Table.erase s.signs sign))

/-! ### The commands -/

/-- READ_SIGN (R133). -/
def execReadSign (h : Head) (sign : Nat) (s : State) : Outcome State Fault Refusal :=
  .next (s.arrive h (.readSign sign) (fun _ s => serveReadSign sign s))

/-- DEFINE_SIGN (R130). -/
def execDefineSign (h : Head) (sign : Nat) (fields : SignFields) (s : State) :
    Outcome State Fault Refusal :=
  .next (s.arrive h (.defineSign sign fields) (fun c s => serveDefineSign c sign fields s))

/-- SET_SIGN (R131). -/
def execSetSign (h : Head) (sign : Nat) (change : SignChange) (s : State) :
    Outcome State Fault Refusal :=
  .next (s.arrive h (.setSign sign change) (fun c s => serveSetSign c sign change s))

/-- RETIRE_SIGN (R132). -/
def execRetireSign (h : Head) (sign : Nat) (s : State) : Outcome State Fault Refusal :=
  .next (s.arrive h (.retireSign sign) (fun c s => serveRetireSign c sign s))

end Sys2Proof.Machine
end

