-- ==== Sys2Proof/Machine/Lights.lean ====
section
/-! DEFINITION. The luminaire group requests (spec/07 7.5, 7.8, 7.9) and the three events of a group's
second: HOLD_EXPIRY, RAMP_STEP (R138) and LIGHT_OVERRIDE_EXPIRY (R143). -/

namespace Sys2Proof.Machine

open Host

/-! ### Settings (table of 7.1, R149) -/

/-- The defaults of 7.1 (R149). -/
def LightSettings.default : LightSettings := { economy := 20, active := 80, hold := 300, rampRate := 5 }

/-- R149, R150: the settings with the given values put in the place of the base's. -/
def lightFieldsApplied (f : LightFields) (st : LightSettings) : LightSettings :=
  { economy := f.economy.getD st.economy, active := f.active.getD st.active
    hold := f.hold.getD st.hold, rampRate := f.rampRate.getD st.rampRate }

/-- The ranges of 7.1. -/
def lightFieldsInRange (f : LightFields) : Bool :=
  optWithin 0 100 f.economy && optWithin 0 100 f.active && optWithin 10 1800 f.hold &&
  optWithin 1 100 f.rampRate

/-- R149: a consistent set of settings, its values each in range. -/
def LightSettings.consistent (st : LightSettings) : Bool := decide (st.economy ≤ st.active)

/-- R149, R150: the node is not of kind DIMMER, or another group lists it. -/
def State.lightNodeClash (s : State) (group node : Nat) : Bool :=
  decide (s.kindOf node ≠ some .dimmer) ||
  Table.exists s.lights (fun k l => decide (k ≠ group) && decide (l.node = node))

/-! ### READ_LIGHT and LIGHT_OVERRIDE -/

/-- R152. -/
def serveReadLight (group : Nat) (s : State) : Served :=
  need (within 0 47 group) .badValue s <|
  need (Table.has s.lights group) .noSuch s <|
  serveOk (s.lightViewOf group) s

/-- R142: the override set, replaced or removed. Without a level the duration has nothing to act on
(log 14). -/
def State.overrideLight (s : State) (level duration : Option Nat) (l : Light) : Light :=
  match level with
  | some v => { l with ovr := some { level := v, expiry := duration.map s.expiryIn } }.relevel
  | none => l.dropOverride s.seconds

def serveLightOverride (c : Cls) (group : Nat) (level duration : Option Nat) (s : State) : Served :=
  need (within 0 47 group && optWithin 0 100 level && optWithin 1 86400 duration) .badValue s <|
  need (s.permits c (s.lightZone group)) .denied s <|
  need (Table.has s.lights group) .noSuch s <|
  let s1 := s.withLights (Table.modify s.lights group (s.overrideLight level duration))
  serveOk (s1.lightViewOf group) s1

/-! ### DEFINE_LIGHT, SET_LIGHT, RETIRE_LIGHT -/

/-- R149: the record of a new group, before it enters FORCED or ACTIVE. -/
def Light.blank (zone node : Nat) (st : LightSettings) (unseen : Bool) : Light :=
  { zone := zone, node := node, settings := st, state := .active, policy := st.active
    holdExpiry := none, nextRamp := none, ovr := none, level := st.active, applied := none
    failedLamps := none, unseen := unseen }

/-- R149, R153: FORCED where due for forcing, otherwise ACTIVE with a fresh hold. -/
def Light.settled (due : Bool) (now : Seconds) (l : Light) : Light :=
  if due then l.enterForced else l.enterActive now

def serveDefineLight (c : Cls) (group zone node : Nat) (fields : LightFields) (s : State) : Served :=
  let st := lightFieldsApplied fields LightSettings.default
  need (within 0 47 group && within 0 31 zone && within 0 255 node && lightFieldsInRange fields)
    .badValue s <|
  need (serviceOnly c) .denied s <|
  need (!Table.has s.lights group) .alreadyDefined s <|
  need st.consistent .badValue s <|
  need (Table.has s.zones zone && Table.has s.nodes node) .noSuch s <|
  need (!s.lightNodeClash group node) .conflict s <|
  let l := (Light.blank zone node st (s.unreachable node)).settled (s.dueForForcing zone) s.seconds
  let s1 := s.withLights (Table.set s.lights group l)
  serveOk (s1.lightViewOf group) s1

/-- R150: the effect of a new active and a new economy level on the policy level. -/
def Light.relimited (st : LightSettings) (l : Light) : Light :=
  { l with
    settings := st
    policy :=
      match l.state with
      | .active => if st.active = l.settings.active then l.policy else st.active
      | .ramping => if st.active = l.settings.active then l.policy else min l.policy st.active
      | .economy => if st.economy = l.settings.economy then l.policy else st.economy
      | .forced => l.policy }

/-- R150: forcing judged against a new zone. -/
def Light.rezoned (due : Bool) (now : Seconds) (zone : Nat) (l : Light) : Light :=
  let l1 := { l with zone := zone }
  if due then (if l1.state = .forced then l1 else l1.enterForced) else l1.enterActive now

/-- R150: once all is applied, a RAMPING group at or below its economy level enters ECONOMY. -/
def Light.landed (l : Light) : Light :=
  if l.state = .ramping ∧ l.policy ≤ l.settings.economy then l.enterEconomy else l.relevel

/-- R150: a new node: its reports are absent and its unseen flag is judged. -/
def Light.renoded (node : Nat) (unseen : Bool) (l : Light) : Light :=
  { l with node := node, applied := none, failedLamps := none, unseen := unseen }

/-- R150: all the given values together; the fresh hold of a zone change uses the new settings
(log 37). -/
def State.changedLight (s : State) (zone node : Nat) (st : LightSettings) (l : Light) : Light :=
  let l1 := l.relimited st
  let l2 := if node = l.node then l1 else l1.renoded node (s.unreachable node)
  (if zone = l.zone then l2 else l2.rezoned (s.dueForForcing zone) s.seconds zone).landed

def serveSetLight (c : Cls) (group : Nat) (zone node : Option Nat) (fields : LightFields) (s : State) :
    Served :=
  need (within 0 47 group && optWithin 0 31 zone && optWithin 0 255 node && lightFieldsInRange fields)
    .badValue s <|
  need (serviceOnly c) .denied s <|
  match Table.get s.lights group with
  | none => refuse .noSuch s
  | some l =>
    let st := lightFieldsApplied fields l.settings
    need (zone.all (Table.has s.zones) && node.all (Table.has s.nodes)) .noSuch s <|
    need st.consistent .badValue s <|
    need (node.all (fun n => !s.lightNodeClash group n)) .conflict s <|
    let s1 := s.withLights (Table.set s.lights group (s.changedLight (zone.getD l.zone) (node.getD l.node) st l))
    serveOk (s1.lightViewOf group) s1

/-- R151. -/
def serveRetireLight (c : Cls) (group : Nat) (s : State) : Served :=
  need (within 0 47 group) .badValue s <|
  need (serviceOnly c) .denied s <|
  need (Table.has s.lights group) .noSuch s <|
  need (!s.fireActive) .fireLock s <|
  serveOk (s.lightViewOf group) (s.withLights (Table.erase s.lights group))

/-! ### The events of a group's second -/

/-- R138: an ACTIVE group whose hold expiry is due. -/
def Light.holdExpires (now : Seconds) (l : Light) : Light :=
  if l.state = .active ∧ dueNow now l.holdExpiry = true then l.holdEnds now else l

/-- R138: a RAMPING group whose next ramp step is due. -/
def Light.rampStep (now : Seconds) (l : Light) : Light :=
  match l.nextRamp with
  | none => l
  | some due => if l.state = .ramping ∧ reached now due = true then l.ramped due else l

/-- R143: a group whose override is due. -/
def Light.overrideExpires (now : Seconds) (l : Light) : Light :=
  if dueNow now (l.ovr.bind (fun o => o.expiry)) then l.dropOverride now else l

/-- Change a luminaire group's record, if it is defined. -/
def State.changeLight (group : Nat) (f : Light → Light) (s : State) : State :=
  s.withLights (Table.modify s.lights group f)

/-! ### The commands -/

/-- READ_LIGHT (R152). -/
def execReadLight (h : Head) (group : Nat) (s : State) : Outcome State Fault Refusal :=
  .next (s.arrive h (.readLight group) (fun _ s => serveReadLight group s))

/-- LIGHT_OVERRIDE (R142). -/
def execLightOverride (h : Head) (group : Nat) (level duration : Option Nat) (s : State) :
    Outcome State Fault Refusal :=
  .next (s.arrive h (.lightOverride group level duration)
    (fun c s => serveLightOverride c group level duration s))

/-- DEFINE_LIGHT (R149). -/
def execDefineLight (h : Head) (group zone node : Nat) (fields : LightFields) (s : State) :
    Outcome State Fault Refusal :=
  .next (s.arrive h (.defineLight group zone node fields)
    (fun c s => serveDefineLight c group zone node fields s))

/-- SET_LIGHT (R150). -/
def execSetLight (h : Head) (group : Nat) (zone node : Option Nat) (fields : LightFields) (s : State) :
    Outcome State Fault Refusal :=
  .next (s.arrive h (.setLight group zone node fields)
    (fun c s => serveSetLight c group zone node fields s))

/-- RETIRE_LIGHT (R151). -/
def execRetireLight (h : Head) (group : Nat) (s : State) : Outcome State Fault Refusal :=
  .next (s.arrive h (.retireLight group) (fun c s => serveRetireLight c group s))

/-- HOLD_EXPIRY (R138). -/
def execHoldExpiry (group : Nat) (s : State) : Outcome State Fault Refusal :=
  .next (s.changeLight group (Light.holdExpires s.seconds))

/-- RAMP_STEP (R138). -/
def execRampStep (group : Nat) (s : State) : Outcome State Fault Refusal :=
  .next (s.changeLight group (Light.rampStep s.seconds))

/-- LIGHT_OVERRIDE_EXPIRY (R143). -/
def execLightOverrideExpiry (group : Nat) (s : State) : Outcome State Fault Refusal :=
  .next (s.changeLight group (Light.overrideExpires s.seconds))

end Sys2Proof.Machine
end

