-- ==== Sys2Proof/Machine/Nodes.lean ====
section
/-! DEFINITION. The node requests (spec/08 8.6 to 8.8): READ_NODE, DEFINE_NODE in both its forms,
RETIRE_NODE, SUSPEND_NODE and RESUME_NODE. -/

namespace Sys2Proof.Machine

open Host

/-- R171. -/
def serveReadNode (node : Nat) (s : State) : Served :=
  need (within 0 255 node) .badValue s <|
  need (Table.has s.nodes node) .noSuch s <|
  serveOk (s.nodeViewOf node) s

/-! ### DEFINE_NODE (R168, R169) -/

/-- The kinds that have a zone field: SENSOR and GAS (table of 8.1). -/
def NodeKind.hasZone : NodeKind → Bool
  | .sensor => true
  | .gas => true
  | .dimmer => false
  | .fan => false
  | .sign => false

/-- R47: four GAS nodes other than this one are bound to the zone. -/
def State.headsFull (s : State) (node zone : Nat) : Bool :=
  decide (Config.headsPerZone ≤ Table.countOf s.nodes (fun k n => decide (k ≠ node) && n.isHeadOf zone))

/-- R168, R169: a GAS node would be the fifth head of its zone. -/
def State.bindsFifth (s : State) (node : Nat) (kind : NodeKind) (zone : Option Nat) : Bool :=
  decide (kind = .gas) && zone.any (s.headsFull node)

/-- R168: the record of a new node. -/
def Node.fresh (span : SpanId) (address : Nat) (kind : NodeKind) (zone : Option Nat) : Node :=
  { span := span, address := address, kind := kind, zone := zone, liveness := .unseen, missCount := 0
    lastError := none, roundsPassed := 0, due := false, suspendPending := false
    head := GasHead.start }

/-- R168: another defined node has the span and address, or the span is full. -/
def State.spanClash (s : State) (span : SpanId) (address : Nat) : Bool :=
  (s.nodeAt span address).isSome ||
  decide (Config.nodesPerSpan ≤ Table.countOf s.nodes (fun _ n => decide (n.span = span)))

/-- R169: keep the answer of a visit in flight to a node from the air evaluator. -/
def Span.rebind (node : Nat) (p : Span) : Span :=
  match p.visit with
  | none => p
  | some v => if v.isTo node then { p with visit := some { v with rebound := true } } else p

/-- R169: the zone of a defined node changes. -/
def State.rezoneNode (node : Nat) (n : Node) (zone : Option Nat) (s : State) : State :=
  if zone = n.zone then s
  else if n.kind = .gas then
    (s.changeNode node (fun n => { n with zone := zone, head := GasHead.start })).changeSpan n.span
      (Span.rebind node)
  else s.changeNode node (fun n => { n with zone := zone })

/-- R168, R169: the checks and effect behind DEFINE_NODE's range and class checks. -/
def placeNode (node : Nat) (span : SpanId) (address : Nat) (kind : NodeKind) (zone : Option Nat)
    (s : State) : Served :=
  need (zone.all (Table.has s.zones)) .noSuch s <|
  match Table.get s.nodes node with
  | none =>
    need (!(s.spanClash span address || s.bindsFifth node kind zone)) .conflict s <|
    let s1 := s.withNodes (Table.set s.nodes node (Node.fresh span address kind zone))
    serveOk (s1.nodeViewOf node) s1
  | some n =>
    need (decide (n.span = span) && decide (n.address = address) && decide (n.kind = kind) &&
      !s.bindsFifth node kind zone) .conflict s <|
    let s1 := s.rezoneNode node n zone
    serveOk (s1.nodeViewOf node) s1

def serveDefineNode (c : Cls) (node span address kind : Nat) (zone : Option Nat) (s : State) : Served :=
  match spanOfNumber span, NodeKind.ofCode kind with
  | some i, some k =>
    need (within 0 255 node && within 1 126 address && optWithin 0 31 zone &&
      decide (zone.isSome = k.hasZone)) .badValue s <|
    need (serviceOnly c) .denied s <|
    placeNode node i address k zone s
  | _, _ => refuse .badValue s

/-! ### RETIRE_NODE (R170) -/

/-- R170: a bay, fan group, luminaire group or sign refers to the node. -/
def State.nodeInUse (s : State) (node : Nat) : Bool :=
  Table.exists s.bays (fun _ b => decide (b.node = node)) ||
  (s.fanOf node).isSome || (s.lightOf node).isSome || (s.signOf node).isSome

/-- R170: the outcome of a visit in flight to the node will be discarded. -/
def Span.orphan (node : Nat) (p : Span) : Span :=
  match p.visit with
  | none => p
  | some v => if v.isTo node then { p with visit := some v.orphaned } else p

/-- R170: the node becomes undefined. Without a visit in flight, a round with no other node to visit is over
(R157). -/
def State.retireNode (node : Nat) (n : Node) (s : State) : State :=
  ((s.withNodes (Table.erase s.nodes node)).changeSpan n.span (Span.orphan node)).closeRound n.span

def serveRetireNode (c : Cls) (node : Nat) (s : State) : Served :=
  need (within 0 255 node) .badValue s <|
  need (serviceOnly c) .denied s <|
  match Table.get s.nodes node with
  | none => refuse .noSuch s
  | some n =>
    need (!s.fireActive) .fireLock s <|
    need (!s.nodeInUse node) .inUse s <|
    serveOk (s.nodeViewOf node) (s.retireNode node n)

/-! ### SUSPEND_NODE (R166), RESUME_NODE (R167) -/

/-- Whether a visit to a node is in flight on its span. -/
def State.visiting (s : State) (node : Nat) (n : Node) : Bool :=
  (s.span n.span).visit.any (fun v => v.isTo node)

/-- R166: the node is suspended at once, or at the end of the visit in flight. A round with no other node
to visit is over (R157). -/
def State.suspend (node : Nat) (n : Node) (s : State) : State :=
  if n.liveness = .suspended ∨ n.suspendPending = true then s
  else if s.visiting node n then s.changeNode node (fun n => { n with suspendPending := true })
  else (s.suspendNow node).closeRound n.span

def serveSuspendNode (c : Cls) (node : Nat) (s : State) : Served :=
  need (within 0 255 node) .badValue s <|
  need (serviceOnly c) .denied s <|
  match Table.get s.nodes node with
  | none => refuse .noSuch s
  | some n =>
    let s1 := s.suspend node n
    serveOk (s1.nodeViewOf node) s1

/-- R167: a SUSPENDED node returns to the rounds; a pending suspension is dropped. -/
def State.resume (node : Nat) (n : Node) (s : State) : State :=
  if n.liveness = .suspended then s.resumeNow node
  else s.changeNode node (fun n => { n with suspendPending := false })

def serveResumeNode (c : Cls) (node : Nat) (s : State) : Served :=
  need (within 0 255 node) .badValue s <|
  need (serviceOnly c) .denied s <|
  match Table.get s.nodes node with
  | none => refuse .noSuch s
  | some n =>
    let s1 := s.resume node n
    serveOk (s1.nodeViewOf node) s1

/-! ### The commands -/

/-- READ_NODE (R171). -/
def execReadNode (h : Head) (node : Nat) (s : State) : Outcome State Fault Refusal :=
  .next (s.arrive h (.readNode node) (fun _ s => serveReadNode node s))

/-- DEFINE_NODE (R168, R169). -/
def execDefineNode (h : Head) (node span address kind : Nat) (zone : Option Nat) (s : State) :
    Outcome State Fault Refusal :=
  .next (s.arrive h (.defineNode node span address kind zone)
    (fun c s => serveDefineNode c node span address kind zone s))

/-- RETIRE_NODE (R170). -/
def execRetireNode (h : Head) (node : Nat) (s : State) : Outcome State Fault Refusal :=
  .next (s.arrive h (.retireNode node) (fun c s => serveRetireNode c node s))

/-- SUSPEND_NODE (R166). -/
def execSuspendNode (h : Head) (node : Nat) (s : State) : Outcome State Fault Refusal :=
  .next (s.arrive h (.suspendNode node) (fun c s => serveSuspendNode c node s))

/-- RESUME_NODE (R167). -/
def execResumeNode (h : Head) (node : Nat) (s : State) : Outcome State Fault Refusal :=
  .next (s.arrive h (.resumeNode node) (fun c s => serveResumeNode c node s))

end Sys2Proof.Machine
end

