-- ==== Sys2Proof/Machine/Part.lean ====
section
/-! DEFINITION. The requests of the decoder (spec/09 9.4, 9.5) and of the attention unit (spec/10):
READ_STATUS, SET_PERMIT, SET_PART, READ_ATTENTION, CLEAR_ATTENTION, SET_ATTENTION_ENABLE, and the
taking of RESTART. -/

namespace Sys2Proof.Machine

open Host

/-! ### READ_STATUS, SET_PERMIT, SET_PART -/

/-- R184. A view taken while the slot is idle draws the free value of its expiry bytes (log 17). -/
def serveReadStatus (p : Port) (s : State) : Served :=
  serveOk (s.statusView p) (if s.slot.isSome then s else s.withFreeCount (s.freeCount + 1))

/-- R182: the map a mode gives. -/
def permitMap (m : Mode) (current given : ZoneSet) : ZoneSet :=
  match m with
  | .replace => given
  | .add => current ||| given
  | .remove => current &&& ~~~given

/-- R182. -/
def serveSetPermit (c : Cls) (cls mode : Nat) (zones : ZoneSet) (s : State) : Served :=
  match Cls.ofRank cls, Mode.ofCode mode with
  | some .facility, some m =>
    need (serviceOnly c) .denied s <|
    let v := permitMap m s.facilityMap zones
    serveOk (zoneSetBytes v) { s with facilityMap := v }
  | some .operator, some m =>
    need (serviceOnly c) .denied s <|
    let v := permitMap m s.operatorMap zones
    serveOk (zoneSetBytes v) { s with operatorMap := v }
  | _, _ => refuse .badValue s

/-- The answer limits: 4, 8, 12 or 16 ms (table of 9.5). -/
def limitInRange (o : Option Nat) : Bool :=
  o.all (fun n => decide (n = 4) || decide (n = 8) || decide (n = 12) || decide (n = 16))

/-- The ranges of 9.5. -/
def partFieldsInRange (f : PartFields) : Bool :=
  optWithin 2 60 f.airPeriod && optWithin 1 30 f.fanPeriod && optWithin 2 60 f.startInterval &&
  optWithin 1 8 f.arrivalConfirm && optWithin 1 8 f.departureConfirm && optWithin 5 60 f.proofTime &&
  optWithin 1 15 f.missLimit && limitInRange f.limit0 && limitInRange f.limit1 &&
  limitInRange f.limit2 && limitInRange f.limit3 && optWithin 2 16 f.revisit

/-- R183: the settings with the given values. -/
def partFieldsApplied (f : PartFields) (p : PartSettings) : PartSettings :=
  { airPeriod := f.airPeriod.getD p.airPeriod
    fanPeriod := f.fanPeriod.getD p.fanPeriod
    startInterval := f.startInterval.getD p.startInterval
    arrivalConfirm := f.arrivalConfirm.getD p.arrivalConfirm
    departureConfirm := f.departureConfirm.getD p.departureConfirm
    proofTime := f.proofTime.getD p.proofTime
    missLimit := f.missLimit.getD p.missLimit
    limit0 := f.limit0.getD p.limit0
    limit1 := f.limit1.getD p.limit1
    limit2 := f.limit2.getD p.limit2
    limit3 := f.limit3.getD p.limit3
    revisit := f.revisit.getD p.revisit }

/-- R183. -/
def serveSetPart (c : Cls) (fields : PartFields) (s : State) : Served :=
  need (partFieldsInRange fields) .badValue s <|
  need (serviceOnly c) .denied s <|
  let p := partFieldsApplied fields s.settings
  serveOk p.bytes (s.withSettings p)

/-! ### The attention requests -/

/-- R190, R197: the report of a class: its lowest object, that object's reason, and how many are
pending; 255 and zeros where no item is found. -/
def attReport (a : AttSet) (chosen : Option AttClass) : List Byte :=
  match chosen with
  | none => byte 255 :: zeros 5
  | some c =>
    match a.items c with
    | [] => byte 255 :: zeros 5
    | (object, reason) :: rest =>
      [byte c.code] ++ bytes2 object ++ [byte reason.code] ++ bytes2 (rest.length + 1)

/-- R190. -/
def serveReadAttention (p : Port) (cls : Option Nat) (s : State) : Served :=
  need (optWithin 0 5 cls) .badValue s <|
  let a := (s.port p).att
  serveOk (attReport a (a.chosen (cls.bind AttClass.ofCode))) s

/-- R191. -/
def serveClearAttention (p : Port) (cls object : Nat) (s : State) : Served :=
  match AttClass.ofCode cls with
  | none => refuse .badValue s
  | some c =>
    need (decide (object < c.objects)) .badValue s <|
    let a := (s.port p).att
    match Table.get (a.items c) object with
    | none => serveOk [byte 0, byte 0] s
    | some r => serveOk [byte 1, byte r.code] (s.withPort p ((s.port p).withAtt (a.clear c object)))

/-- R188. -/
def serveSetAttentionEnable (p : Port) (classes : Byte) (s : State) : Served :=
  need (decide (classes.toNat < 64)) .badValue s <|
  serveOk [classes] (s.withPort p ((s.port p).withAtt { (s.port p).att with enables := classes }))

/-! ### RESTART, as it is taken -/

/-- R185, R194: RESTART is answered OK when taken; it takes effect when its reply has been sent. -/
def serveRestart (c : Cls) (s : State) : Served :=
  need (serviceOnly c) .denied s <|
  serveOk [] s

/-! ### The commands -/

/-- READ_STATUS (R184). -/
def execReadStatus (h : Head) (s : State) : Outcome State Fault Refusal :=
  .next (s.arrive h .readStatus (fun _ s => serveReadStatus h.port s))

/-- SET_PERMIT (R182). -/
def execSetPermit (h : Head) (cls mode : Nat) (zones : ZoneSet) (s : State) :
    Outcome State Fault Refusal :=
  .next (s.arrive h (.setPermit cls mode zones) (fun c s => serveSetPermit c cls mode zones s))

/-- SET_PART (R183). -/
def execSetPart (h : Head) (fields : PartFields) (s : State) : Outcome State Fault Refusal :=
  .next (s.arrive h (.setPart fields) (fun c s => serveSetPart c fields s))

/-- READ_ATTENTION (R190). -/
def execReadAttention (h : Head) (cls : Option Nat) (s : State) : Outcome State Fault Refusal :=
  .next (s.arrive h (.readAttention cls) (fun _ s => serveReadAttention h.port cls s))

/-- CLEAR_ATTENTION (R191). -/
def execClearAttention (h : Head) (cls object : Nat) (s : State) : Outcome State Fault Refusal :=
  .next (s.arrive h (.clearAttention cls object) (fun _ s => serveClearAttention h.port cls object s))

/-- SET_ATTENTION_ENABLE (R188). -/
def execSetAttentionEnable (h : Head) (classes : Byte) (s : State) : Outcome State Fault Refusal :=
  .next (s.arrive h (.setAttentionEnable classes)
    (fun _ s => serveSetAttentionEnable h.port classes s))

/-- RESTART (R185, R194): it is taken and answered; REPLY_SENT brings its effect. -/
def execRestart (h : Head) (s : State) : Outcome State Fault Refusal :=
  .next (s.arrive h .restart (fun c s => serveRestart c s))

end Sys2Proof.Machine
end

