-- ==== Sys2Proof/Machine/Spans.lean ====
section
/-! DEFINITION. The events of the four spans (spec/08 8.2 to 8.5): rounds and visits begin, bytes
arrive, answers fail to come or break off, and lines stick and are freed. -/

namespace Sys2Proof.Machine

open Host

/-- R157: whether a round can begin: RUNNING, no visit in flight, the round before it ended. No round
begins while the span is STUCK (log 38). -/
def Span.roundOver (p : Span) : Bool := p.stuck.isNone && p.visit.isNone && !p.inRound

/-- R157: the next round begins 100 ms after the start of the one that ended, or at once where that
moment has passed. -/
def State.startRound (i : SpanId) (s : State) : State :=
  if (s.span i).roundOver then (s.atMs ((s.span i).roundStart + Config.roundMs)).beginRound i else s

/-- R157, R158: after 1 ms of idle line the next node is chosen (log 20) and its visit begins; with no
node left the round ends. -/
def State.startVisit (i : SpanId) (s : State) : State :=
  if (s.span i).choosing then
    let s1 := s.atMs ((s.span i).lineAt + Config.idleLineMs)
    match s1.nextNode i with
    | none => s1.closeRound i
    | some node => s1.beginVisit i node
  else s

/-- R159, NO_ANSWER: the answer limit has passed and no answer has begun. -/
def State.answerLimitPasses (i : SpanId) (s : State) : State :=
  match (s.span i).visit with
  | none => s
  | some v =>
    if v.answer.isEmpty then (s.atMs (v.waitFrom + v.limit)).endVisit i (.failed .noAnswer) else s

/-- R159, CUT: the answer has begun and has broken off. -/
def State.answerGapPasses (i : SpanId) (s : State) : State :=
  match (s.span i).visit with
  | none => s
  | some v =>
    if v.answer.isEmpty then s else (s.atMs (v.lastByte + Config.answerGapMs)).endVisit i (.failed .cut)

/-- R163: whether the span is receiving an answer; the wait for one to begin is not receiving. -/
def Span.receivingAnswer (p : Span) : Bool := p.visit.any (fun v => !v.answer.isEmpty)

/-- R163: the line has been busy for more than 20 ms: a waiting visit ends first (log 24), and the span
becomes STUCK once 20 ms have passed on the stuck watch (log 42). -/
def State.lineStuck (i : SpanId) (s : State) : State :=
  if (s.span i).stuck.isNone && !(s.span i).receivingAnswer then
    let s1 := s.answerLimitPasses i
    (s1.atMs ((s1.span i).watchFrom + Config.stuckWatchMs)).becomeStuck i
  else s

/-- R164: the span has been STUCK for 10,000 ms; its nodes are silenced once. -/
def State.silenceStuck (i : SpanId) (s : State) : State :=
  match (s.span i).stuck with
  | none => s
  | some k =>
    if k.silenced then s
    else
      ((s.atMs (k.since + Config.stuckSilenceMs)).changeSpan i
        (fun p => { p with stuck := some { k with silenced := true } })).silenceSpan i

/-- R165: a retry, with the line idle throughout the 20 ms before it or not. -/
def State.retryStuck (i : SpanId) (idle : Bool) (s : State) : State :=
  match (s.span i).stuck with
  | none => s
  | some k =>
    let s1 := s.atMs k.retry
    if idle then s1.freeSpan i
    else
      s1.changeSpan i
        (fun p => { p with stuck := some { k with retry := k.retry + Config.stuckRetryMs } })

/-! ### The commands -/

/-- ROUND_START (R157). -/
def execRoundStart (i : SpanId) (s : State) : Outcome State Fault Refusal := .next (s.startRound i)

/-- VISIT_START (R157, R158). -/
def execVisitStart (i : SpanId) (s : State) : Outcome State Fault Refusal := .next (s.startVisit i)

/-- SPAN_BYTE_RECEIVED (R155, R159 to R162). -/
def execSpanByteReceived (i : SpanId) (b : Byte) (stopOk : Bool) (s : State) :
    Outcome State Fault Refusal :=
  .next (s.spanByte i b stopOk)

/-- ANSWER_LIMIT_EXPIRY (R159, R161). -/
def execAnswerLimitExpiry (i : SpanId) (s : State) : Outcome State Fault Refusal :=
  .next (s.answerLimitPasses i)

/-- ANSWER_GAP_TIMEOUT (R159, R161). -/
def execAnswerGapTimeout (i : SpanId) (s : State) : Outcome State Fault Refusal :=
  .next (s.answerGapPasses i)

/-- SPAN_STUCK (R163). -/
def execSpanStuck (i : SpanId) (s : State) : Outcome State Fault Refusal := .next (s.lineStuck i)

/-- STUCK_SILENCING (R164). -/
def execStuckSilencing (i : SpanId) (s : State) : Outcome State Fault Refusal :=
  .next (s.silenceStuck i)

/-- STUCK_RETRY (R165). -/
def execStuckRetry (i : SpanId) (idle : Bool) (s : State) : Outcome State Fault Refusal :=
  .next (s.retryStuck i idle)

end Sys2Proof.Machine
end

