-- ==== Sys2Proof/Machine/FireMode.lean ====
section
/-! DEFINITION. The fire monitor (spec/05): the FIRE line filter (R103), the code-line filter (R105),
and fire mode entered (R106), its zone changed (R109) and left (R110). -/

namespace Sys2Proof.Machine

open Host

/-! ### The filters -/

/-- R103: an edge of the raw line: a level that differs from the taken one starts a pending change,
the taken level cancels it. A level the line already has is no edge (log 39). -/
def FireMonitor.edge (now : Millis) (level : Bool) (f : FireMonitor) : FireMonitor :=
  if level = f.line then f
  else
    { f with
      line := level
      change :=
        if level = f.taken then none
        else some (now + if level then Config.fireRiseMs else Config.fireFallMs) }

/-- R105: the value on the code lines changes; it is watched while fire mode is active. -/
def FireMonitor.codeChange (now : Millis) (value : BitVec 5) (f : FireMonitor) : FireMonitor :=
  if value = f.codes then f
  else
    { f with
      codes := value
      pendingZone :=
        if !f.taken then f.pendingZone
        else if f.zone = some value.toNat then none
        else some (value.toNat, now + Config.fireZoneMs) }

/-- R103, R104: a taken rise latches the zone the code lines hold. -/
def FireMonitor.rise (f : FireMonitor) : FireMonitor :=
  { f with taken := true, change := none, zone := some f.codes.toNat, pendingZone := none }

/-- R103, R110: a taken fall. -/
def FireMonitor.fall (f : FireMonitor) : FireMonitor :=
  { f with taken := false, change := none, zone := none, pendingZone := none }

/-! ### Fire mode -/

/-- R106, R110: the FIRE cause of every defined zone. -/
def State.fireCause (present : Bool) (s : State) : State :=
  State.forEach (fun z s => s.changeCauses z (fun c => { c with fire := present })) (Table.keys s.zones) s

/-- R106: fire mode is entered. -/
def State.enterFireMode (s : State) : State :=
  let s1 := s.withFire s.fire.rise
  let s2 := State.forEach State.placeFire (Table.keys s1.fans) s1
  ((s2.fireCause true).recomputeSigns.setFireFlag true).raise .fire 0 .asserted

/-- R110: fire mode is left. -/
def State.leaveFireMode (s : State) : State :=
  let s1 := s.withFire s.fire.fall
  let s2 := State.forEach State.removeFire (Table.keys s1.fans) s1
  ((s2.fireCause false).recomputeSigns.setFireFlag false).raise .fire 0 .released

/-- R109: the latched fire zone changes. -/
def State.moveFireZone (zone : Nat) (s : State) : State :=
  let s1 := s.withFire { s.fire with zone := some zone, pendingZone := none }
  (State.forEach State.relevelFire (Table.keys s1.fans) s1).raise .fire 0 .zoneChanged

/-- R103: the pending change falls due. -/
def State.filterDue (s : State) : State :=
  match s.fire.change with
  | none => s
  | some due => if s.fire.taken then (s.atMs due).leaveFireMode else (s.atMs due).enterFireMode

/-- R105, R109: the pending zone falls due. -/
def State.pendingZoneDue (s : State) : State :=
  match s.fire.pendingZone with
  | none => s
  | some p => if s.fire.taken then (s.atMs p.2).moveFireZone p.1 else s

/-! ### The commands -/

/-- FIRE_LINE_EDGE (R103). -/
def execFireLineEdge (level : Bool) (s : State) : Outcome State Fault Refusal :=
  .next (s.withFire (s.fire.edge s.ms level))

/-- FIRE_FILTER_DUE (R103, R106, R110). -/
def execFireFilterDue (s : State) : Outcome State Fault Refusal := .next s.filterDue

/-- FIRE_ZONE_CODE_CHANGE (R105). -/
def execFireZoneCodeChange (value : BitVec 5) (s : State) : Outcome State Fault Refusal :=
  .next (s.withFire (s.fire.codeChange s.ms value))

/-- PENDING_ZONE_DUE (R105, R109). -/
def execPendingZoneDue (s : State) : Outcome State Fault Refusal := .next s.pendingZoneDue

end Sys2Proof.Machine
end

