-- ==== Sys2Proof/Machine/Restart.lean ====
section
/-! DEFINITION. What RESTART does to each block as it takes effect (R194): one change, quiet but for
the FIRE item of a fire mode that stands. -/

namespace Sys2Proof.Machine

/-- R25. -/
def Bay.restarted (now : Seconds) (b : Bay) : Bay :=
  { b with state := .unknown, confirm := 0, reservation := none, since := now }

/-- R172, R73: a node after RESTART. -/
def Node.restarted (n : Node) : Node :=
  { n with
    liveness := if n.liveness = .suspended ∨ n.suspendPending = true then .suspended else .unseen
    missCount := 0, lastError := none, roundsPassed := 0, due := false, suspendPending := false
    head := GasHead.start }

/-- R46, R73: a zone with `bays` bays after RESTART; its air status follows from the fan groups. -/
def Zone.restarted (bays : Nat) (fire : Bool) (z : Zone) : Zone :=
  { z with
    tallies := { Tallies.none with unknown := bays }
    total := bays
    free := FreeCounts.none
    causes := { Causes.none with operator := z.causes.operator, fire := fire }
    air := AirState.start z.settings.minDemand }.judged

/-- R102: a fan group after RESTART, before its target and drives are judged. -/
def Fan.restarted (fire : Option FireMonitor) (g : Fan) : Fan :=
  { g with
    drives := g.drives.map (fun d => { d with report := none })
    state := if g.state = .isolated then .isolated else .stopped
    commanded := 0, grantedAt := none, proof := none, faultCause := none
    stack := match fire with | none => [] | some f => stackWithFire [] (g.fireLevel f.zone) }

/-- R102: the drives judged without the items and notices of R78 and R80, and the target. -/
def State.restartJudged (s : State) (g : Fan) : Fan :=
  let none := g.drives.all (fun d => !s.driveFailed d)
  let all := !none && g.drives.all s.driveFailed
  { g with
    target := s.targetOf g
    degraded := !none && !all
    state := if all && decide (g.state = .stopped) then .fault else g.state
    faultCause := if all && decide (g.state = .stopped) then some .allDrives else g.faultCause }

/-- Whether a node is SUSPENDED. -/
def State.suspended (s : State) (node : Nat) : Bool :=
  (Table.get s.nodes node).any (fun n => decide (n.liveness = .suspended))

/-- R153: a luminaire group after RESTART. -/
def State.restartedLight (s : State) (l : Light) : Light :=
  { l with ovr := none, applied := none, failedLamps := none, unseen := s.suspended l.node }.settled
    s.fireFlag s.seconds

/-- R134: a sign after RESTART. -/
def State.restartedSign (s : State) (g : Sign) : Sign :=
  { g with
    content := s.contentOf g.config, accepted := none, sent := none, dirty := true
    unseen := s.suspended g.config.node, displayFault := none }

/-- R172: a span after RESTART: RUNNING, and a new round at once, or at the end of the visit in
flight. A STUCK span's watch starts again: a line still held busy makes it STUCK 20 ms later. -/
def State.restartSpan (i : SpanId) (s : State) : State :=
  let s1 := s.changeSpan i (fun p =>
    { p with
      stuck := none, position := none, visit := p.visit.map Visit.restarted
      watchFrom := if p.stuck.isSome then s.ms else p.watchFrom })
  if (s1.span i).visit.isNone then s1.beginRound i else s1

/-- R185, R194: a port after RESTART. -/
def PortState.restarted (p : PortState) : PortState :=
  { p with waiting := none }.withAtt p.att.emptied

/-- R25, R172, R46: bays, nodes and zones. -/
def State.restartRecords (s : State) : State :=
  let s1 := s.withBays (Table.update (fun _ b => b.restarted s.seconds) s.bays)
  let s2 := s1.withNodes (Table.update (fun _ n => n.restarted) s1.nodes)
  s2.withZones (Table.update
    (fun k z => z.restarted (Table.countOf s2.bays (fun _ b => decide (b.zone = k))) s2.fireActive) s2.zones)

/-- R102: the fan controller, from the zones as RESTART leaves them. -/
def State.restartFans (s : State) : State :=
  let fire := if s.fireActive then some s.fire else none
  let s1 := ((s.withFans (Table.update (fun _ g => g.restarted fire) s.fans)).withQueue []).withSlot none
  let s2 := s1.withFans (Table.update (fun _ g => s1.restartJudged g) s1.fans)
  s2.withFanNext (s2.expiryIn s2.settings.fanPeriod)

/-- R73: the air status of every zone, from the fan groups as RESTART leaves them, and the timer. -/
def State.restartAir (s : State) : State :=
  (s.withZones (Table.update
    (fun k z => { z with air := { z.air with status := s.airStatusOf k } }) s.zones)).withAirNext
      (s.expiryIn s.settings.airPeriod)

/-- R153, R134: the lighting controller and the sign table. -/
def State.restartOutputs (s : State) : State :=
  let s1 := (s.withFireFlag s.fireActive).withFumeSet 0
  let s2 := s1.withLights (Table.update (fun _ l => s1.restartedLight l) s1.lights)
  s2.withSigns (Table.update (fun _ g => s2.restartedSign g) s2.signs)

/-- R185, R194, R115: the ports and the attention sets, and the FIRE item of a standing fire mode. -/
def State.restartPorts (s : State) : State :=
  let s1 := { s with main := s.main.restarted, panel := s.panel.restarted }
  if s1.fireActive then s1.raise .fire 0 .asserted else s1

/-- R194: RESTART takes effect, as one change. -/
def State.restartEffect (s : State) : State :=
  let s1 := s.restartRecords.restartFans.restartAir.restartOutputs.restartPorts
  (((s1.restartSpan .span0).restartSpan .span1).restartSpan .span2).restartSpan .span3

end Sys2Proof.Machine
end

