-- ==== Sys2Proof/WellFormed.lean ====
section
/-! DEFINITION. Which commands can occur on the wire at all: every number fits the bytes R196 and
R197 give it, a payload is at most 240 bytes, a list's count fits its count byte, and the code of
UNKNOWN_REQUEST is none of the part's own. A field out of its RANGE is still well-formed: the part
takes it and answers BAD_VALUE (R179). -/

namespace Sys2Proof

/-- A number sent in one byte. -/
def fits8 (n : Nat) : Bool := decide (n < 256)

/-- A number sent in two bytes. -/
def fits16 (n : Nat) : Bool := decide (n < 65536)

/-- A number sent in four bytes. -/
def fits32 (n : Nat) : Bool := decide (n < 4294967296)

def optFits8 (o : Option Nat) : Bool := o.all fits8
def optFits16 (o : Option Nat) : Bool := o.all fits16
def optFits32 (o : Option Nat) : Bool := o.all fits32

/-- A list of one-byte numbers behind a count byte (R195). -/
def listFits (l : List Nat) : Bool := decide (l.length < 256) && l.all fits8

def ZoneFields.wf (f : ZoneFields) : Bool :=
  optFits8 f.fullAt && optFits8 f.hysteresis && optFits8 f.coWeight && optFits8 f.no2Weight &&
  optFits16 f.coStart && optFits16 f.coFull && optFits8 f.no2Start && optFits8 f.no2Full &&
  optFits16 f.coWarn && optFits16 f.coAlarm && optFits16 f.coHyst && optFits8 f.no2Warn &&
  optFits8 f.no2Alarm && optFits8 f.no2Hyst && optFits8 f.alarmConfirm &&
  optFits8 f.clearConfirm && optFits8 f.blindLimit && optFits8 f.blindDemand &&
  optFits8 f.arrivalCredit && optFits8 f.departureCredit && optFits8 f.decay && optFits8 f.minDemand

def FanFields.wf (f : FanFields) : Bool :=
  optFits8 f.vmin && optFits8 f.su && optFits8 f.sd && optFits16 f.minRun && optFits8 f.fireIn &&
  optFits8 f.fireOut

def SignFields.wf (f : SignFields) : Bool :=
  fits8 f.node && fits8 f.kind && fits8 f.fullAt && fits8 f.out0 && fits8 f.out1 && fits8 f.out2 &&
  fits8 f.out3

def SignChange.wf (f : SignChange) : Bool :=
  optFits8 f.node && optFits8 f.kind && optFits8 f.fullAt && optFits8 f.out0 && optFits8 f.out1 &&
  optFits8 f.out2 && optFits8 f.out3

def LightFields.wf (f : LightFields) : Bool :=
  optFits8 f.economy && optFits8 f.active && optFits16 f.hold && optFits8 f.rampRate

def PartFields.wf (f : PartFields) : Bool :=
  optFits8 f.airPeriod && optFits8 f.fanPeriod && optFits8 f.startInterval &&
  optFits8 f.arrivalConfirm && optFits8 f.departureConfirm && optFits8 f.proofTime &&
  optFits8 f.missLimit && optFits8 f.limit0 && optFits8 f.limit1 && optFits8 f.limit2 &&
  optFits8 f.limit3 && optFits8 f.revisit

/-- A command that can occur: its operands fit the wire. Timer commands name a record number of
their table. -/
def Instr.wf : Instr → Bool
  | .readBays _ start count direction step =>
      fits16 start && fits8 count && fits8 direction && fits8 step
  | .findBays _ zone _ _ after maximum => fits8 zone && fits16 after && fits8 maximum
  | .changeBay _ bay mode _ => fits16 bay && fits8 mode
  | .reserveBay _ bay holder hold => fits16 bay && fits16 holder && fits8 hold
  | .releaseBay _ bay holder => fits16 bay && fits16 holder
  | .defineBay _ bay zone node channel kind =>
      fits16 bay && fits8 zone && fits8 node && fits8 channel && fits8 kind
  | .redefineBay _ bay zone node channel kind =>
      fits16 bay && fits8 zone && fits8 node && fits8 channel && fits8 kind
  | .retireBay _ bay => fits16 bay
  | .readZone _ zone => fits8 zone
  | .closeZone _ zone => fits8 zone
  | .openZone _ zone => fits8 zone
  | .defineZone _ zone level fields => fits8 zone && fits8 level && fields.wf
  | .setZone _ zone level fields => fits8 zone && optFits8 level && fields.wf
  | .retireZone _ zone => fits8 zone
  | .readFan _ group => fits8 group
  | .pushOverride _ group level duration tag =>
      fits8 group && fits8 level && optFits32 duration && fits8 tag
  | .popOverride _ group => fits8 group
  | .fanControlIsolate _ _ => true
  | .fanControlRestore _ _ => true
  | .fanControlClearFault _ _ => true
  | .defineFan _ group _ drives fields => fits8 group && listFits drives && fields.wf
  | .setFan _ group _ drives fields => fits8 group && drives.all listFits && fields.wf
  | .retireFan _ group => fits8 group
  | .readSign _ sign => fits8 sign
  | .defineSign _ sign fields => fits8 sign && fields.wf
  | .setSign _ sign change => fits8 sign && change.wf
  | .retireSign _ sign => fits8 sign
  | .readLight _ group => fits8 group
  | .lightOverride _ group level duration => fits8 group && optFits8 level && optFits32 duration
  | .defineLight _ group zone node fields =>
      fits8 group && fits8 zone && fits8 node && fields.wf
  | .setLight _ group zone node fields =>
      fits8 group && optFits8 zone && optFits8 node && fields.wf
  | .retireLight _ group => fits8 group
  | .readNode _ node => fits8 node
  | .defineNode _ node span address kind zone =>
      fits8 node && fits8 span && fits8 address && fits8 kind && optFits8 zone
  | .retireNode _ node => fits8 node
  | .suspendNode _ node => fits8 node
  | .resumeNode _ node => fits8 node
  | .readStatus _ => true
  | .setPermit _ cls mode _ => fits8 cls && fits8 mode
  | .setPart _ fields => fields.wf
  | .readAttention _ cls => optFits8 cls
  | .clearAttention _ cls object => fits8 cls && fits16 object
  | .setAttentionEnable _ _ => true
  | .restart _ => true
  | .badFrameAnswer _ _ => true
  | .linkByteReceived _ _ _ _ => true
  | .frameGapTimeout _ => true
  | .drainingEnd _ => true
  | .replySent _ _ => true
  | .fullReset _ => true
  | .secondsCountAdvance => true
  | .fireLineEdge _ => true
  | .fireFilterDue => true
  | .fireZoneCodeChange _ => true
  | .pendingZoneDue => true
  | .airEvaluationExpiry => true
  | .fanStep => true
  | .startSlotExpiry => true
  | .proofTimerExpiry group => decide (group < 24)
  | .overrideExpiry group => decide (group < 24)
  | .reservationExpiry bay => decide (bay < 2048)
  | .holdExpiry group => decide (group < 48)
  | .rampStep group => decide (group < 48)
  | .lightOverrideExpiry group => decide (group < 48)
  | .roundStart _ => true
  | .visitStart _ => true
  | .spanByteReceived _ _ _ => true
  | .answerLimitExpiry _ => true
  | .answerGapTimeout _ => true
  | .spanStuck _ => true
  | .stuckSilencing _ => true
  | .stuckRetry _ _ => true
  | .unknownRequest _ code payload =>
      fits8 code && (code == 0 || decide (42 < code)) && decide (payload.length ≤ 240)

end Sys2Proof
end

