-- ==== Sys2Proof/Machine/Frames.lean ====
section
/-! DEFINITION. Request payloads (R195, R196): the fields of each request code in order and in width,
a payload split into them (R179 step 3), and the request it spells. -/

namespace Sys2Proof.Machine

/-- R195: the shape of a payload field: a number of so many bytes, an optional one, a list of one-byte
entries, an optional list. -/
inductive Shape where
  | num (size : Nat)
  | opt (size : Nat)
  | list
  | optList
  deriving DecidableEq, Repr

/-- A field as it stands in a payload: its presence byte (1 where the shape has none) and its bytes,
a list's count left out. -/
structure Raw where
  present : Byte
  bytes   : List Byte
  deriving DecidableEq, Repr

/-- Take a number of bytes off the front. -/
def takeBytes (n : Nat) (l : List Byte) : Option (List Byte × List Byte) :=
  if l.length < n then none else some (l.take n, l.drop n)

/-- Take a count byte and that many entries off the front. -/
def takeList : List Byte → Option (List Byte × List Byte)
  | [] => none
  | c :: rest => takeBytes c.toNat rest

/-- Take one field off the front. An absent field still sends its value's bytes (R195), an absent list
its count byte (log 13). -/
def takeField : Shape → List Byte → Option (Raw × List Byte)
  | .num n, l => (takeBytes n l).map (fun r => ({ present := 1, bytes := r.1 }, r.2))
  | .list, l => (takeList l).map (fun r => ({ present := 1, bytes := r.1 }, r.2))
  | .opt _, [] => none
  | .opt n, p :: l => (takeBytes n l).map (fun r => ({ present := p, bytes := r.1 }, r.2))
  | .optList, [] => none
  | .optList, p :: l => (takeList l).map (fun r => ({ present := p, bytes := r.1 }, r.2))

/-- R179 step 3: split a payload into the fields of a layout, nothing missing and nothing over. -/
def splitFields : List Shape → List Byte → Option (List Raw)
  | [], l => if l.isEmpty then some [] else none
  | sh :: rest, l =>
    match takeField sh l with
    | none => none
    | some r => (splitFields rest r.2).map (fun rs => r.1 :: rs)

/-- R196: the fill and air settings, in the order of the zone view. -/
def zoneShapes : List Shape :=
  [.opt 1, .opt 1, .opt 1, .opt 1, .opt 2, .opt 2, .opt 1, .opt 1, .opt 2, .opt 2, .opt 2, .opt 1,
   .opt 1, .opt 1, .opt 1, .opt 1, .opt 1, .opt 1, .opt 1, .opt 1, .opt 1, .opt 1]

/-- R196: the fan settings, in the order of the fan group view. -/
def fanShapes : List Shape := [.opt 1, .opt 1, .opt 1, .opt 2, .opt 1, .opt 1]

/-- R196: the luminaire settings, in the order of the luminaire group view. -/
def lightShapes : List Shape := [.opt 1, .opt 1, .opt 2, .opt 1]

/-- R196: the payload layout of each request code 1-42; none for a code the part does not know. -/
def shapesOf : Nat → Option (List Shape)
  | 1 => some [.num 2, .num 1, .num 1, .num 1]
  | 2 => some [.num 1, .num 1, .num 1, .num 2, .num 1]
  | 3 => some [.num 2, .num 1, .num 1]
  | 4 => some [.num 2, .num 2, .num 1]
  | 5 => some [.num 2, .num 2]
  | 6 => some [.num 2, .num 1, .num 1, .num 1, .num 1]
  | 7 => some [.num 2, .num 1, .num 1, .num 1, .num 1]
  | 8 => some [.num 2]
  | 9 => some [.num 1]
  | 10 => some [.num 1]
  | 11 => some [.num 1]
  | 12 => some ([.num 1, .num 1] ++ zoneShapes)
  | 13 => some ([.num 1, .opt 1] ++ zoneShapes)
  | 14 => some [.num 1]
  | 15 => some [.num 1]
  | 16 => some [.num 1, .num 1, .opt 4, .num 1]
  | 17 => some [.num 1]
  | 18 => some [.num 4, .num 1]
  | 19 => some ([.num 1, .num 4, .list] ++ fanShapes)
  | 20 => some ([.num 1, .opt 4, .optList] ++ fanShapes)
  | 21 => some [.num 1]
  | 22 => some [.num 1]
  | 23 => some [.num 1, .num 1, .num 1, .num 4, .num 1, .num 1, .num 4, .num 4, .num 1, .num 1,
      .num 1, .num 1]
  | 24 => some [.num 1, .opt 1, .opt 1, .opt 4, .opt 4, .opt 4, .opt 1, .opt 1, .opt 1, .opt 1,
      .opt 1, .opt 1]
  | 25 => some [.num 1]
  | 26 => some [.num 1]
  | 27 => some [.num 1, .opt 1, .opt 4]
  | 28 => some ([.num 1, .num 1, .num 1] ++ lightShapes)
  | 29 => some ([.num 1, .opt 1, .opt 1] ++ lightShapes)
  | 30 => some [.num 1]
  | 31 => some [.num 1]
  | 32 => some [.num 1, .num 1, .num 1, .num 1, .opt 1]
  | 33 => some [.num 1]
  | 34 => some [.num 1]
  | 35 => some [.num 1]
  | 36 => some []
  | 37 => some [.num 1, .num 1, .num 4]
  | 38 => some (List.replicate 12 (.opt 1))
  | 39 => some [.opt 1]
  | 40 => some [.num 1, .num 2]
  | 41 => some [.num 1]
  | 42 => some []
  | _ => none

/-- A number of several bytes, most significant first (spec/11). -/
def numberOf (l : List Byte) : Nat := l.foldl (fun n b => n * 256 + b.toNat) 0

/-- The field at a place of a split payload. -/
def rawAt (r : List Raw) (i : Nat) : Raw := r.getD i { present := 1, bytes := [] }

/-- A plain number field. -/
def numAt (r : List Raw) (i : Nat) : Nat := numberOf (rawAt r i).bytes

/-- An optional number field. -/
def optAt (r : List Raw) (i : Nat) : Option Nat :=
  if (rawAt r i).present = 0 then none else some (numAt r i)

/-- A one-byte mask, a four-byte mask, and each where it is optional (R195). -/
def maskAt (r : List Raw) (i : Nat) : Byte := byte (numAt r i)
def setAt (r : List Raw) (i : Nat) : BitVec 32 := BitVec.ofNat 32 (numAt r i)
def optMaskAt (r : List Raw) (i : Nat) : Option Byte := (optAt r i).map byte
def optSetAt (r : List Raw) (i : Nat) : Option (BitVec 32) := (optAt r i).map (BitVec.ofNat 32)

/-- A list of one-byte numbers, and an optional one. -/
def listAt (r : List Raw) (i : Nat) : List Nat := (rawAt r i).bytes.map BitVec.toNat
def optListAt (r : List Raw) (i : Nat) : Option (List Nat) :=
  if (rawAt r i).present = 0 then none else some (listAt r i)

/-- The fill and air settings from place 2 on. -/
def zoneFieldsAt (r : List Raw) : ZoneFields :=
  { fullAt := optAt r 2, hysteresis := optAt r 3, coWeight := optAt r 4, no2Weight := optAt r 5
    coStart := optAt r 6, coFull := optAt r 7, no2Start := optAt r 8, no2Full := optAt r 9
    coWarn := optAt r 10, coAlarm := optAt r 11, coHyst := optAt r 12, no2Warn := optAt r 13
    no2Alarm := optAt r 14, no2Hyst := optAt r 15, alarmConfirm := optAt r 16
    clearConfirm := optAt r 17, blindLimit := optAt r 18, blindDemand := optAt r 19
    arrivalCredit := optAt r 20, departureCredit := optAt r 21, decay := optAt r 22
    minDemand := optAt r 23 }

/-- The fan settings from place 3 on. -/
def fanFieldsAt (r : List Raw) : FanFields :=
  { vmin := optAt r 3, su := optAt r 4, sd := optAt r 5, minRun := optAt r 6, fireIn := optAt r 7
    fireOut := optAt r 8 }

/-- The luminaire settings from place 3 on. -/
def lightFieldsAt (r : List Raw) : LightFields :=
  { economy := optAt r 3, active := optAt r 4, hold := optAt r 5, rampRate := optAt r 6 }

/-- R130, R196: the fields of DEFINE_SIGN. -/
def signFieldsAt (r : List Raw) : SignFields :=
  { node := numAt r 1, kind := numAt r 2, countZones := setAt r 3, countKinds := maskAt r 4
    fullAt := numAt r 5, termA := setAt r 6, termB := setAt r 7, out0 := numAt r 8
    out1 := numAt r 9, out2 := numAt r 10, out3 := numAt r 11 }

/-- R131, R196: the fields of SET_SIGN, in the order R131 lists them (log 12). -/
def signChangeAt (r : List Raw) : SignChange :=
  { node := optAt r 1, kind := optAt r 2, countZones := optSetAt r 3, termA := optSetAt r 4
    termB := optSetAt r 5, countKinds := optMaskAt r 6, fullAt := optAt r 7, out0 := optAt r 8
    out1 := optAt r 9, out2 := optAt r 10, out3 := optAt r 11 }

/-- R183, R197: the fields of SET_PART. -/
def partFieldsAt (r : List Raw) : PartFields :=
  { airPeriod := optAt r 0, fanPeriod := optAt r 1, startInterval := optAt r 2
    arrivalConfirm := optAt r 3, departureConfirm := optAt r 4, proofTime := optAt r 5
    missLimit := optAt r 6, limit0 := optAt r 7, limit1 := optAt r 8, limit2 := optAt r 9
    limit3 := optAt r 10, revisit := optAt r 11 }

/-- R196: the request of a known code, from the fields of its payload. -/
def requestOf (code : Nat) (r : List Raw) : Request :=
  match code with
  | 1 => .readBays (numAt r 0) (numAt r 1) (numAt r 2) (numAt r 3)
  | 2 => .findBays (numAt r 0) (maskAt r 1) (maskAt r 2) (numAt r 3) (numAt r 4)
  | 3 => .changeBay (numAt r 0) (numAt r 1) (maskAt r 2)
  | 4 => .reserveBay (numAt r 0) (numAt r 1) (numAt r 2)
  | 5 => .releaseBay (numAt r 0) (numAt r 1)
  | 6 => .defineBay (numAt r 0) (numAt r 1) (numAt r 2) (numAt r 3) (numAt r 4)
  | 7 => .redefineBay (numAt r 0) (numAt r 1) (numAt r 2) (numAt r 3) (numAt r 4)
  | 8 => .retireBay (numAt r 0)
  | 9 => .readZone (numAt r 0)
  | 10 => .closeZone (numAt r 0)
  | 11 => .openZone (numAt r 0)
  | 12 => .defineZone (numAt r 0) (numAt r 1) (zoneFieldsAt r)
  | 13 => .setZone (numAt r 0) (optAt r 1) (zoneFieldsAt r)
  | 14 => .retireZone (numAt r 0)
  | 15 => .readFan (numAt r 0)
  | 16 => .pushOverride (numAt r 0) (numAt r 1) (optAt r 2) (numAt r 3)
  | 17 => .popOverride (numAt r 0)
  | 18 => .fanControl (setAt r 0) (numAt r 1)
  | 19 => .defineFan (numAt r 0) (setAt r 1) (listAt r 2) (fanFieldsAt r)
  | 20 => .setFan (numAt r 0) (optSetAt r 1) (optListAt r 2) (fanFieldsAt r)
  | 21 => .retireFan (numAt r 0)
  | 22 => .readSign (numAt r 0)
  | 23 => .defineSign (numAt r 0) (signFieldsAt r)
  | 24 => .setSign (numAt r 0) (signChangeAt r)
  | 25 => .retireSign (numAt r 0)
  | 26 => .readLight (numAt r 0)
  | 27 => .lightOverride (numAt r 0) (optAt r 1) (optAt r 2)
  | 28 => .defineLight (numAt r 0) (numAt r 1) (numAt r 2) (lightFieldsAt r)
  | 29 => .setLight (numAt r 0) (optAt r 1) (optAt r 2) (lightFieldsAt r)
  | 30 => .retireLight (numAt r 0)
  | 31 => .readNode (numAt r 0)
  | 32 => .defineNode (numAt r 0) (numAt r 1) (numAt r 2) (numAt r 3) (optAt r 4)
  | 33 => .retireNode (numAt r 0)
  | 34 => .suspendNode (numAt r 0)
  | 35 => .resumeNode (numAt r 0)
  | 36 => .readStatus
  | 37 => .setPermit (numAt r 0) (numAt r 1) (setAt r 2)
  | 38 => .setPart (partFieldsAt r)
  | 39 => .readAttention (optAt r 0)
  | 40 => .clearAttention (numAt r 0) (numAt r 1)
  | 41 => .setAttentionEnable (maskAt r 0)
  | 42 => .restart
  | n => .unknown n

/-- R179 steps 2 and 3, R200: the request a code and a payload spell. -/
def parseRequest (code : Nat) (payload : List Byte) : Request :=
  match shapesOf code with
  | none => .unknown code
  | some shapes =>
    match splitFields shapes payload with
    | none => .badLength code
    | some r => if r.any (fun f => decide (1 < f.present.toNat)) then .badPresence code else requestOf code r

/-! ### The frame that spells a request (R195, R196) -/

/-- A number sent in so many bytes, most significant first. -/
def numBytes : Nat → Nat → List Byte
  | 0, _ => []
  | k + 1, n => numBytes k (n / 256) ++ [byte n]

/-- R195: an optional number: its presence byte, then its bytes, zeros when absent. -/
def optNumBytes (k : Nat) (o : Option Nat) : List Byte := optBytes k (numBytes k) o

/-- R195: a list of one-byte numbers behind its count. -/
def listBytes (l : List Nat) : List Byte := byte l.length :: l.map byte

/-- An optional list: an absent one still sends a count of 0 (log 13). -/
def optListBytes (o : Option (List Nat)) : List Byte := optBytes 1 listBytes o

/-- The fill and air settings, in the order of the zone view. -/
def zoneFieldBytes (f : ZoneFields) : List Byte :=
  optNumBytes 1 f.fullAt ++ optNumBytes 1 f.hysteresis ++ optNumBytes 1 f.coWeight ++
  optNumBytes 1 f.no2Weight ++ optNumBytes 2 f.coStart ++ optNumBytes 2 f.coFull ++
  optNumBytes 1 f.no2Start ++ optNumBytes 1 f.no2Full ++ optNumBytes 2 f.coWarn ++
  optNumBytes 2 f.coAlarm ++ optNumBytes 2 f.coHyst ++ optNumBytes 1 f.no2Warn ++
  optNumBytes 1 f.no2Alarm ++ optNumBytes 1 f.no2Hyst ++ optNumBytes 1 f.alarmConfirm ++
  optNumBytes 1 f.clearConfirm ++ optNumBytes 1 f.blindLimit ++ optNumBytes 1 f.blindDemand ++
  optNumBytes 1 f.arrivalCredit ++ optNumBytes 1 f.departureCredit ++ optNumBytes 1 f.decay ++
  optNumBytes 1 f.minDemand

/-- The fan settings, in the order of the fan group view. -/
def fanFieldBytes (f : FanFields) : List Byte :=
  optNumBytes 1 f.vmin ++ optNumBytes 1 f.su ++ optNumBytes 1 f.sd ++ optNumBytes 2 f.minRun ++
  optNumBytes 1 f.fireIn ++ optNumBytes 1 f.fireOut

/-- The luminaire settings, in the order of the luminaire group view. -/
def lightFieldBytes (f : LightFields) : List Byte :=
  optNumBytes 1 f.economy ++ optNumBytes 1 f.active ++ optNumBytes 2 f.hold ++ optNumBytes 1 f.rampRate

/-- The part-wide settings, in the order of the SET_PART view. -/
def partFieldBytes (f : PartFields) : List Byte :=
  optNumBytes 1 f.airPeriod ++ optNumBytes 1 f.fanPeriod ++ optNumBytes 1 f.startInterval ++
  optNumBytes 1 f.arrivalConfirm ++ optNumBytes 1 f.departureConfirm ++ optNumBytes 1 f.proofTime ++
  optNumBytes 1 f.missLimit ++ optNumBytes 1 f.limit0 ++ optNumBytes 1 f.limit1 ++
  optNumBytes 1 f.limit2 ++ optNumBytes 1 f.limit3 ++ optNumBytes 1 f.revisit

/-- The fields of DEFINE_SIGN (R130) after the sign's number. -/
def signFieldBytes (f : SignFields) : List Byte :=
  numBytes 1 f.node ++ numBytes 1 f.kind ++ zoneSetBytes f.countZones ++ [f.countKinds] ++
  numBytes 1 f.fullAt ++ zoneSetBytes f.termA ++ zoneSetBytes f.termB ++ numBytes 1 f.out0 ++
  numBytes 1 f.out1 ++ numBytes 1 f.out2 ++ numBytes 1 f.out3

/-- R195: an optional zone set and an optional one-byte mask. -/
def optSetBytes (o : Option (BitVec 32)) : List Byte := optBytes 4 zoneSetBytes o
def optMaskBytes (o : Option Byte) : List Byte := optBytes 1 (fun b => [b]) o

/-- The fields of SET_SIGN (R131; log 12) after the sign's number. -/
def signChangeBytes (c : SignChange) : List Byte :=
  optNumBytes 1 c.node ++ optNumBytes 1 c.kind ++ optSetBytes c.countZones ++ optSetBytes c.termA ++
  optSetBytes c.termB ++ optMaskBytes c.countKinds ++ optNumBytes 1 c.fullAt ++ optNumBytes 1 c.out0 ++
  optNumBytes 1 c.out1 ++ optNumBytes 1 c.out2 ++ optNumBytes 1 c.out3

/-- R196: the code and the payload of a request. A place's reading of a bad frame has none of its own:
its code stands alone. -/
def encodeRequest : Request → Nat × List Byte
  | .readBays start count direction step =>
    (1, numBytes 2 start ++ numBytes 1 count ++ numBytes 1 direction ++ numBytes 1 step)
  | .findBays zone kinds states after maximum =>
    (2, numBytes 1 zone ++ [kinds, states] ++ numBytes 2 after ++ numBytes 1 maximum)
  | .changeBay bay mode marks => (3, numBytes 2 bay ++ numBytes 1 mode ++ [marks])
  | .reserveBay bay holder hold => (4, numBytes 2 bay ++ numBytes 2 holder ++ numBytes 1 hold)
  | .releaseBay bay holder => (5, numBytes 2 bay ++ numBytes 2 holder)
  | .defineBay bay zone node channel kind =>
    (6, numBytes 2 bay ++ numBytes 1 zone ++ numBytes 1 node ++ numBytes 1 channel ++ numBytes 1 kind)
  | .redefineBay bay zone node channel kind =>
    (7, numBytes 2 bay ++ numBytes 1 zone ++ numBytes 1 node ++ numBytes 1 channel ++ numBytes 1 kind)
  | .retireBay bay => (8, numBytes 2 bay)
  | .readZone zone => (9, numBytes 1 zone)
  | .closeZone zone => (10, numBytes 1 zone)
  | .openZone zone => (11, numBytes 1 zone)
  | .defineZone zone level fields => (12, numBytes 1 zone ++ numBytes 1 level ++ zoneFieldBytes fields)
  | .setZone zone level fields => (13, numBytes 1 zone ++ optNumBytes 1 level ++ zoneFieldBytes fields)
  | .retireZone zone => (14, numBytes 1 zone)
  | .readFan group => (15, numBytes 1 group)
  | .pushOverride group level duration tag =>
    (16, numBytes 1 group ++ numBytes 1 level ++ optNumBytes 4 duration ++ numBytes 1 tag)
  | .popOverride group => (17, numBytes 1 group)
  | .fanControl groups action => (18, zoneSetBytes groups ++ numBytes 1 action)
  | .defineFan group zones drives fields =>
    (19, numBytes 1 group ++ zoneSetBytes zones ++ listBytes drives ++ fanFieldBytes fields)
  | .setFan group zones drives fields =>
    (20, numBytes 1 group ++ optSetBytes zones ++ optListBytes drives ++ fanFieldBytes fields)
  | .retireFan group => (21, numBytes 1 group)
  | .readSign sign => (22, numBytes 1 sign)
  | .defineSign sign fields => (23, numBytes 1 sign ++ signFieldBytes fields)
  | .setSign sign change => (24, numBytes 1 sign ++ signChangeBytes change)
  | .retireSign sign => (25, numBytes 1 sign)
  | .readLight group => (26, numBytes 1 group)
  | .lightOverride group level duration =>
    (27, numBytes 1 group ++ optNumBytes 1 level ++ optNumBytes 4 duration)
  | .defineLight group zone node fields =>
    (28, numBytes 1 group ++ numBytes 1 zone ++ numBytes 1 node ++ lightFieldBytes fields)
  | .setLight group zone node fields =>
    (29, numBytes 1 group ++ optNumBytes 1 zone ++ optNumBytes 1 node ++ lightFieldBytes fields)
  | .retireLight group => (30, numBytes 1 group)
  | .readNode node => (31, numBytes 1 node)
  | .defineNode node span address kind zone =>
    (32, numBytes 1 node ++ numBytes 1 span ++ numBytes 1 address ++ numBytes 1 kind ++ optNumBytes 1 zone)
  | .retireNode node => (33, numBytes 1 node)
  | .suspendNode node => (34, numBytes 1 node)
  | .resumeNode node => (35, numBytes 1 node)
  | .readStatus => (36, [])
  | .setPermit cls mode zones => (37, numBytes 1 cls ++ numBytes 1 mode ++ zoneSetBytes zones)
  | .setPart fields => (38, partFieldBytes fields)
  | .readAttention cls => (39, optNumBytes 1 cls)
  | .clearAttention cls object => (40, numBytes 1 cls ++ numBytes 2 object)
  | .setAttentionEnable classes => (41, [classes])
  | .restart => (42, [])
  | .unknown code => (code, [])
  | .badLength code => (code, [])
  | .badPresence code => (code, [])

/-- Whether a request is one the part knows and its values fit the widths R196 sends them in. -/
def requestFits : Request → Bool
  | .readBays start count direction step => fits16 start && fits8 count && fits8 direction && fits8 step
  | .findBays zone _ _ after maximum => fits8 zone && fits16 after && fits8 maximum
  | .changeBay bay mode _ => fits16 bay && fits8 mode
  | .reserveBay bay holder hold => fits16 bay && fits16 holder && fits8 hold
  | .releaseBay bay holder => fits16 bay && fits16 holder
  | .defineBay bay zone node channel kind =>
    fits16 bay && fits8 zone && fits8 node && fits8 channel && fits8 kind
  | .redefineBay bay zone node channel kind =>
    fits16 bay && fits8 zone && fits8 node && fits8 channel && fits8 kind
  | .retireBay bay => fits16 bay
  | .readZone zone => fits8 zone
  | .closeZone zone => fits8 zone
  | .openZone zone => fits8 zone
  | .defineZone zone level fields => fits8 zone && fits8 level && fields.wf
  | .setZone zone level fields => fits8 zone && optFits8 level && fields.wf
  | .retireZone zone => fits8 zone
  | .readFan group => fits8 group
  | .pushOverride group level duration tag => fits8 group && fits8 level && optFits32 duration && fits8 tag
  | .popOverride group => fits8 group
  | .fanControl _ action => fits8 action
  | .defineFan group _ drives fields => fits8 group && listFits drives && fields.wf
  | .setFan group _ drives fields => fits8 group && drives.all listFits && fields.wf
  | .retireFan group => fits8 group
  | .readSign sign => fits8 sign
  | .defineSign sign fields => fits8 sign && fields.wf
  | .setSign sign change => fits8 sign && change.wf
  | .retireSign sign => fits8 sign
  | .readLight group => fits8 group
  | .lightOverride group level duration => fits8 group && optFits8 level && optFits32 duration
  | .defineLight group zone node fields => fits8 group && fits8 zone && fits8 node && fields.wf
  | .setLight group zone node fields => fits8 group && optFits8 zone && optFits8 node && fields.wf
  | .retireLight group => fits8 group
  | .readNode node => fits8 node
  | .defineNode node span address kind zone =>
    fits8 node && fits8 span && fits8 address && fits8 kind && optFits8 zone
  | .retireNode node => fits8 node
  | .suspendNode node => fits8 node
  | .resumeNode node => fits8 node
  | .readStatus => true
  | .setPermit cls mode _ => fits8 cls && fits8 mode
  | .setPart fields => fields.wf
  | .readAttention cls => optFits8 cls
  | .clearAttention cls object => fits8 cls && fits16 object
  | .setAttentionEnable _ => true
  | .restart => true
  | .unknown _ => false
  | .badLength _ => false
  | .badPresence _ => false

/-- R196: the bytes of a request frame after its start byte: length, class, code, tag, payload and the
check byte. -/
def requestFrame (cls tag : Byte) (r : Request) : List Byte :=
  let e := encodeRequest r
  let body := [byte (e.2.length + 4), cls, byte e.1, tag] ++ e.2
  body ++ [checkByte body]

end Sys2Proof.Machine
end

