-- ==== Sys2Proof/Machine/Requests.lean ====
section
/-! DEFINITION. The request decoder (R179): every request a place can hold, served by its owner, and a
waiting request moved up and taken (R176, R177). -/

namespace Sys2Proof.Machine

/-- R179: serve a request from an admitted class on a port. -/
def serveRequest (p : Port) (body : Request) (c : Cls) (s : State) : Served :=
  match body with
  | .readBays start count direction step => serveReadBays start count direction step s
  | .findBays zone kinds states after maximum => serveFindBays zone kinds states after maximum s
  | .changeBay bay mode marks => serveChangeBay c bay mode marks s
  | .reserveBay bay holder hold => serveReserveBay c bay holder hold s
  | .releaseBay bay holder => serveReleaseBay c bay holder s
  | .defineBay bay zone node channel kind => serveDefineBay c bay zone node channel kind s
  | .redefineBay bay zone node channel kind => serveRedefineBay c bay zone node channel kind s
  | .retireBay bay => serveRetireBay c bay s
  | .readZone zone => serveReadZone zone s
  | .closeZone zone => serveOperatorCause true c zone s
  | .openZone zone => serveOperatorCause false c zone s
  | .defineZone zone level fields => serveDefineZone c zone level fields s
  | .setZone zone level fields => serveSetZone c zone level fields s
  | .retireZone zone => serveRetireZone c zone s
  | .readFan group => serveReadFan group s
  | .pushOverride group level duration tag => servePushOverride c group level duration tag s
  | .popOverride group => servePopOverride c group s
  | .fanControl groups action => serveFanControl c groups action s
  | .defineFan group zones drives fields => serveDefineFan c group zones drives fields s
  | .setFan group zones drives fields => serveSetFan c group zones drives fields s
  | .retireFan group => serveRetireFan c group s
  | .readSign sign => serveReadSign sign s
  | .defineSign sign fields => serveDefineSign c sign fields s
  | .setSign sign change => serveSetSign c sign change s
  | .retireSign sign => serveRetireSign c sign s
  | .readLight group => serveReadLight group s
  | .lightOverride group level duration => serveLightOverride c group level duration s
  | .defineLight group zone node fields => serveDefineLight c group zone node fields s
  | .setLight group zone node fields => serveSetLight c group zone node fields s
  | .retireLight group => serveRetireLight c group s
  | .readNode node => serveReadNode node s
  | .defineNode node span address kind zone => serveDefineNode c node span address kind zone s
  | .retireNode node => serveRetireNode c node s
  | .suspendNode node => serveSuspendNode c node s
  | .resumeNode node => serveResumeNode c node s
  | .readStatus => serveReadStatus p s
  | .setPermit cls mode zones => serveSetPermit c cls mode zones s
  | .setPart fields => serveSetPart c fields s
  | .readAttention cls => serveReadAttention p cls s
  | .clearAttention cls object => serveClearAttention p cls object s
  | .setAttentionEnable classes => serveSetAttentionEnable p classes s
  | .restart => serveRestart c s
  | .unknown _ => refuse .unknownRequest s
  | .badLength _ => refuse .badLength s
  | .badPresence _ => refuse .badValue s

/-- R177: what moved up from the waiting place is taken, with SERVICE KEY sampled now. -/
def State.takePlaced (p : Port) (item : Placed) (key : Bool) (s : State) : State :=
  match item with
  | .badFrame tag => s.takeBad p tag
  | .request cls tag body =>
    s.take { port := p, cls := cls, tag := tag, key := key } item (serveRequest p body)

/-- Whether a served item was a RESTART answered OK (R185). -/
def Service.isRestart (v : Service) : Bool :=
  match v.item with
  | .request _ _ .restart => decide (v.reply.result = .ok)
  | _ => false

/-- The head and the request of a command that is a request's arrival; none for the other commands. -/
def requestRow : Instr → Option (Head × Request)
  | .readBays h start count direction step => some (h, .readBays start count direction step)
  | .findBays h zone kinds states after maximum => some (h, .findBays zone kinds states after maximum)
  | .changeBay h bay mode marks => some (h, .changeBay bay mode marks)
  | .reserveBay h bay holder hold => some (h, .reserveBay bay holder hold)
  | .releaseBay h bay holder => some (h, .releaseBay bay holder)
  | .defineBay h bay zone node channel kind => some (h, .defineBay bay zone node channel kind)
  | .redefineBay h bay zone node channel kind => some (h, .redefineBay bay zone node channel kind)
  | .retireBay h bay => some (h, .retireBay bay)
  | .readZone h zone => some (h, .readZone zone)
  | .closeZone h zone => some (h, .closeZone zone)
  | .openZone h zone => some (h, .openZone zone)
  | .defineZone h zone level fields => some (h, .defineZone zone level fields)
  | .setZone h zone level fields => some (h, .setZone zone level fields)
  | .retireZone h zone => some (h, .retireZone zone)
  | .readFan h group => some (h, .readFan group)
  | .pushOverride h group level duration tag => some (h, .pushOverride group level duration tag)
  | .popOverride h group => some (h, .popOverride group)
  | .fanControlIsolate h groups => some (h, .fanControl groups 0)
  | .fanControlRestore h groups => some (h, .fanControl groups 1)
  | .fanControlClearFault h groups => some (h, .fanControl groups 2)
  | .defineFan h group zones drives fields => some (h, .defineFan group zones drives fields)
  | .setFan h group zones drives fields => some (h, .setFan group zones drives fields)
  | .retireFan h group => some (h, .retireFan group)
  | .readSign h sign => some (h, .readSign sign)
  | .defineSign h sign fields => some (h, .defineSign sign fields)
  | .setSign h sign change => some (h, .setSign sign change)
  | .retireSign h sign => some (h, .retireSign sign)
  | .readLight h group => some (h, .readLight group)
  | .lightOverride h group level duration => some (h, .lightOverride group level duration)
  | .defineLight h group zone node fields => some (h, .defineLight group zone node fields)
  | .setLight h group zone node fields => some (h, .setLight group zone node fields)
  | .retireLight h group => some (h, .retireLight group)
  | .readNode h node => some (h, .readNode node)
  | .defineNode h node span address kind zone => some (h, .defineNode node span address kind zone)
  | .retireNode h node => some (h, .retireNode node)
  | .suspendNode h node => some (h, .suspendNode node)
  | .resumeNode h node => some (h, .resumeNode node)
  | .readStatus h => some (h, .readStatus)
  | .setPermit h cls mode zones => some (h, .setPermit cls mode zones)
  | .setPart h fields => some (h, .setPart fields)
  | .readAttention h cls => some (h, .readAttention cls)
  | .clearAttention h cls object => some (h, .clearAttention cls object)
  | .setAttentionEnable h classes => some (h, .setAttentionEnable classes)
  | .restart h => some (h, .restart)
  | .badFrameAnswer _ _ => none
  | .linkByteReceived _ _ _ _ => none
  | .frameGapTimeout _ => none
  | .drainingEnd _ => none
  | .replySent _ _ => none
  | .fullReset _ => none
  | .secondsCountAdvance => none
  | .fireLineEdge _ => none
  | .fireFilterDue => none
  | .fireZoneCodeChange _ => none
  | .pendingZoneDue => none
  | .airEvaluationExpiry => none
  | .fanStep => none
  | .startSlotExpiry => none
  | .proofTimerExpiry _ => none
  | .overrideExpiry _ => none
  | .reservationExpiry _ => none
  | .holdExpiry _ => none
  | .rampStep _ => none
  | .lightOverrideExpiry _ => none
  | .roundStart _ => none
  | .visitStart _ => none
  | .spanByteReceived _ _ _ => none
  | .answerLimitExpiry _ => none
  | .answerGapTimeout _ => none
  | .spanStuck _ => none
  | .stuckSilencing _ => none
  | .stuckRetry _ _ => none
  | .unknownRequest h code payload => some (h, parseRequest code payload)

end Sys2Proof.Machine
end

