-- ==== Sys2Proof/Machine/Links.lean ====
section
/-! DEFINITION. The request links byte by byte (R174, R175), the end of a reply (R176, R185), raw
request codes (R179 step 2), and the two whole-part events: the second (R192) and a full reset (R193). -/

namespace Sys2Proof.Machine

open Host

/-! ### The receiver -/

/-- What a received byte makes of a frame in progress. -/
inductive Framed where
  | more (r : Receiver)
  | bad (r : Receiver) (tag : Byte)
  | good (cls code tag : Byte) (payload : List Byte)
  deriving DecidableEq, Repr

/-- R174, R175: the bytes of a frame after its start byte, judged as far as they have come. -/
def judgeFrame (bytes : List Byte) : Framed :=
  let len := (byteAt bytes 0).toNat
  if len < 4 then .more .hunting
  else if 244 < len then
    if 4 ≤ bytes.length then .bad .draining (byteAt bytes 3) else .more (.receiving bytes)
  else if bytes.length < len + 1 then .more (.receiving bytes)
  else if byteSum bytes = 0 then
    .good (byteAt bytes 1) (byteAt bytes 2) (byteAt bytes 3) ((bytes.drop 4).take (len - 4))
  else .bad .hunting (byteAt bytes 3)

/-- R174: one byte at a receiver. -/
def Receiver.step (r : Receiver) (b : Byte) (stopOk : Bool) : Framed :=
  match r with
  | .hunting => if stopOk && decide (b = Config.startByte) then .more (.receiving []) else .more .hunting
  | .receiving bytes => if stopOk then judgeFrame (bytes ++ [b]) else .more .hunting
  | .draining => .more .draining

/-- The receiver of a port, and the moment of its line's last byte. -/
def State.setReceiver (p : Port) (r : Receiver) (s : State) : State :=
  s.withPort p { s.port p with receiver := r, lastByte := s.ms }

/-- R174 to R176: a byte on a link. A frame it completes is placed. -/
def State.linkByte (p : Port) (b : Byte) (stopOk key : Bool) (s : State) : State :=
  match (s.port p).receiver.step b stopOk with
  | .more r => s.setReceiver p r
  | .bad r tag => (s.setReceiver p r).arriveBad p tag
  | .good cls code tag payload =>
    let body := parseRequest code.toNat payload
    (s.setReceiver p .hunting).arrive { port := p, cls := cls, tag := tag, key := key } body
      (serveRequest p body)

/-- R174: more than 20 ms after the last byte of a partial frame. DESIGN CHOICE (log 44): the gap has passed at
the millisecond 20 after the one at which that byte was received. -/
def State.frameGap (p : Port) (s : State) : State :=
  match (s.port p).receiver with
  | .hunting => s
  | .draining => s
  | .receiving _ =>
    let s1 := s.atMs ((s.port p).lastByte + Config.linkGapMs)
    s1.withPort p { s1.port p with receiver := .hunting }

/-- R175: the line has been idle for 20 ms while DRAINING. -/
def State.drained (p : Port) (s : State) : State :=
  match (s.port p).receiver with
  | .hunting => s
  | .receiving _ => s
  | .draining =>
    let s1 := s.atMs ((s.port p).lastByte + Config.linkGapMs)
    s1.withPort p { s1.port p with receiver := .hunting }

/-! ### The end of a reply -/

/-- R176, R185: the last byte of a reply has been sent: the service place is freed; a RESTART takes
effect, otherwise the waiting request moves up and is taken. -/
def State.replySent (p : Port) (key : Bool) (s : State) : State :=
  match (s.port p).service with
  | none => s
  | some v =>
    let s1 := s.withPort p { s.port p with service := none }
    if v.isRestart then s1.restartEffect
    else
      match (s.port p).waiting with
      | none => s1
      | some item => (s1.withPort p { s1.port p with waiting := none }).takePlaced p item key

/-! ### The second, the reset -/

/-- R192: 1,000 ms have passed since the running second began. -/
def State.secondPasses (s : State) : State := s.atMs (s.secondAt + Config.secondMs)

/-- R193: a full reset. The model's own fields stay: the commands that wait, and the count of free
values drawn (log 27). DESIGN CHOICE (log 41): the table has one row FULL_RESET, so the whole time for
which RESET is held is this one step, its pins are those at the release, and what arrives while RESET is
held is left out. -/
def State.fullReset (pins : Pins) (s : State) : State :=
  (State.fresh pins s.pending).withFreeCount s.freeCount

/-! ### The commands -/

/-- BAD_FRAME_ANSWER (R175, R177; log 11). -/
def execBadFrameAnswer (p : Port) (tag : Byte) (s : State) : Outcome State Fault Refusal :=
  .next (s.arriveBad p tag)

/-- LINK_BYTE_RECEIVED (R174, R175). -/
def execLinkByteReceived (p : Port) (b : Byte) (stopOk key : Bool) (s : State) :
    Outcome State Fault Refusal :=
  .next (s.linkByte p b stopOk key)

/-- FRAME_GAP_TIMEOUT (R174). -/
def execFrameGapTimeout (p : Port) (s : State) : Outcome State Fault Refusal := .next (s.frameGap p)

/-- DRAINING_END (R175). -/
def execDrainingEnd (p : Port) (s : State) : Outcome State Fault Refusal := .next (s.drained p)

/-- REPLY_SENT (R176, R177, R185, R194). -/
def execReplySent (p : Port) (key : Bool) (s : State) : Outcome State Fault Refusal :=
  .next (s.replySent p key)

/-- FULL_RESET (R193). -/
def execFullReset (pins : Pins) (s : State) : Outcome State Fault Refusal := .next (s.fullReset pins)

/-- SECONDS_COUNT_ADVANCE (R192). -/
def execSecondsCountAdvance (s : State) : Outcome State Fault Refusal := .next s.secondPasses

/-- UNKNOWN_REQUEST (R179 step 2; log 10). -/
def execUnknownRequest (h : Head) (code : Nat) (payload : List Byte) (s : State) :
    Outcome State Fault Refusal :=
  .next (s.arrive h (parseRequest code payload) (serveRequest h.port (parseRequest code payload)))

end Sys2Proof.Machine
end

