-- ==== Sys2Proof/Machine/Dispatch.lean ====
section
/-! DEFINITION. The table of meanings: one arm per command, one direct call each. -/

namespace Sys2Proof.Machine

open Host

/-- What a command does to everything but the queue. -/
def exec (i : Instr) (s : State) : Host.Outcome State Fault Refusal :=
  match i with
  | .readBays h start count direction step => Sys2Proof.Machine.execReadBays h start count direction step s
  | .findBays h zone kinds states after maximum => Sys2Proof.Machine.execFindBays h zone kinds states after maximum s
  | .changeBay h bay mode marks => Sys2Proof.Machine.execChangeBay h bay mode marks s
  | .reserveBay h bay holder hold => Sys2Proof.Machine.execReserveBay h bay holder hold s
  | .releaseBay h bay holder => Sys2Proof.Machine.execReleaseBay h bay holder s
  | .defineBay h bay zone node channel kind => Sys2Proof.Machine.execDefineBay h bay zone node channel kind s
  | .redefineBay h bay zone node channel kind => Sys2Proof.Machine.execRedefineBay h bay zone node channel kind s
  | .retireBay h bay => Sys2Proof.Machine.execRetireBay h bay s
  | .readZone h zone => Sys2Proof.Machine.execReadZone h zone s
  | .closeZone h zone => Sys2Proof.Machine.execCloseZone h zone s
  | .openZone h zone => Sys2Proof.Machine.execOpenZone h zone s
  | .defineZone h zone level fields => Sys2Proof.Machine.execDefineZone h zone level fields s
  | .setZone h zone level fields => Sys2Proof.Machine.execSetZone h zone level fields s
  | .retireZone h zone => Sys2Proof.Machine.execRetireZone h zone s
  | .readFan h group => Sys2Proof.Machine.execReadFan h group s
  | .pushOverride h group level duration tag => Sys2Proof.Machine.execPushOverride h group level duration tag s
  | .popOverride h group => Sys2Proof.Machine.execPopOverride h group s
  | .fanControlIsolate h groups => Sys2Proof.Machine.execFanControlIsolate h groups s
  | .fanControlRestore h groups => Sys2Proof.Machine.execFanControlRestore h groups s
  | .fanControlClearFault h groups => Sys2Proof.Machine.execFanControlClearFault h groups s
  | .defineFan h group zones drives fields => Sys2Proof.Machine.execDefineFan h group zones drives fields s
  | .setFan h group zones drives fields => Sys2Proof.Machine.execSetFan h group zones drives fields s
  | .retireFan h group => Sys2Proof.Machine.execRetireFan h group s
  | .readSign h sign => Sys2Proof.Machine.execReadSign h sign s
  | .defineSign h sign fields => Sys2Proof.Machine.execDefineSign h sign fields s
  | .setSign h sign change => Sys2Proof.Machine.execSetSign h sign change s
  | .retireSign h sign => Sys2Proof.Machine.execRetireSign h sign s
  | .readLight h group => Sys2Proof.Machine.execReadLight h group s
  | .lightOverride h group level duration => Sys2Proof.Machine.execLightOverride h group level duration s
  | .defineLight h group zone node fields => Sys2Proof.Machine.execDefineLight h group zone node fields s
  | .setLight h group zone node fields => Sys2Proof.Machine.execSetLight h group zone node fields s
  | .retireLight h group => Sys2Proof.Machine.execRetireLight h group s
  | .readNode h node => Sys2Proof.Machine.execReadNode h node s
  | .defineNode h node span address kind zone => Sys2Proof.Machine.execDefineNode h node span address kind zone s
  | .retireNode h node => Sys2Proof.Machine.execRetireNode h node s
  | .suspendNode h node => Sys2Proof.Machine.execSuspendNode h node s
  | .resumeNode h node => Sys2Proof.Machine.execResumeNode h node s
  | .readStatus h => Sys2Proof.Machine.execReadStatus h s
  | .setPermit h cls mode zones => Sys2Proof.Machine.execSetPermit h cls mode zones s
  | .setPart h fields => Sys2Proof.Machine.execSetPart h fields s
  | .readAttention h cls => Sys2Proof.Machine.execReadAttention h cls s
  | .clearAttention h cls object => Sys2Proof.Machine.execClearAttention h cls object s
  | .setAttentionEnable h classes => Sys2Proof.Machine.execSetAttentionEnable h classes s
  | .restart h => Sys2Proof.Machine.execRestart h s
  | .badFrameAnswer port tag => Sys2Proof.Machine.execBadFrameAnswer port tag s
  | .linkByteReceived port byte stopOk key => Sys2Proof.Machine.execLinkByteReceived port byte stopOk key s
  | .frameGapTimeout port => Sys2Proof.Machine.execFrameGapTimeout port s
  | .drainingEnd port => Sys2Proof.Machine.execDrainingEnd port s
  | .replySent port key => Sys2Proof.Machine.execReplySent port key s
  | .fullReset pins => Sys2Proof.Machine.execFullReset pins s
  | .secondsCountAdvance => Sys2Proof.Machine.execSecondsCountAdvance s
  | .fireLineEdge level => Sys2Proof.Machine.execFireLineEdge level s
  | .fireFilterDue => Sys2Proof.Machine.execFireFilterDue s
  | .fireZoneCodeChange value => Sys2Proof.Machine.execFireZoneCodeChange value s
  | .pendingZoneDue => Sys2Proof.Machine.execPendingZoneDue s
  | .airEvaluationExpiry => Sys2Proof.Machine.execAirEvaluationExpiry s
  | .fanStep => Sys2Proof.Machine.execFanStep s
  | .startSlotExpiry => Sys2Proof.Machine.execStartSlotExpiry s
  | .proofTimerExpiry group => Sys2Proof.Machine.execProofTimerExpiry group s
  | .overrideExpiry group => Sys2Proof.Machine.execOverrideExpiry group s
  | .reservationExpiry bay => Sys2Proof.Machine.execReservationExpiry bay s
  | .holdExpiry group => Sys2Proof.Machine.execHoldExpiry group s
  | .rampStep group => Sys2Proof.Machine.execRampStep group s
  | .lightOverrideExpiry group => Sys2Proof.Machine.execLightOverrideExpiry group s
  | .roundStart span => Sys2Proof.Machine.execRoundStart span s
  | .visitStart span => Sys2Proof.Machine.execVisitStart span s
  | .spanByteReceived span byte stopOk => Sys2Proof.Machine.execSpanByteReceived span byte stopOk s
  | .answerLimitExpiry span => Sys2Proof.Machine.execAnswerLimitExpiry span s
  | .answerGapTimeout span => Sys2Proof.Machine.execAnswerGapTimeout span s
  | .spanStuck span => Sys2Proof.Machine.execSpanStuck span s
  | .stuckSilencing span => Sys2Proof.Machine.execStuckSilencing span s
  | .stuckRetry span idle => Sys2Proof.Machine.execStuckRetry span idle s
  | .unknownRequest h code payload => Sys2Proof.Machine.execUnknownRequest h code payload s

end Sys2Proof.Machine
end

