-- ==== Sys2Proof/Machine/Step.lean ====
section
/-! DEFINITION. One step of the part: the command at the front of the queue, or a millisecond of the
time base, and how the host puts a word's command in front. -/

namespace Sys2Proof.Machine

/-- DESIGN CHOICE (log 2): with no command waiting, the part idles for one millisecond of the time
base, the seconds count following it (R192). -/
def State.idle (s : State) : State := s.atMs (s.ms + 1)

/-- One step: the command at the front of the queue is taken and run, the rest waiting. -/
def step (s : State) : Host.Outcome State Fault Refusal :=
  match s.pending with
  | [] => .next s.idle
  | c :: rest => exec c { s with pending := rest }

/-- The state with the command that a word spells at the front of the queue; unchanged where the word
spells none. -/
def State.withFetchWord (s : State) (nbits w : Nat) : State :=
  match Sys2Proof.decodeTableWord nbits w with
  | none => s
  | some c => { s with pending := c :: s.pending }

end Sys2Proof.Machine
end

