-- ==== Sys2Proof/Safety.lean ====
section
/-! DEFINITION. The terms claims use: the parts of the state one by one, what a command leaves as it was,
how a request is answered, and the invariants of a safe run. -/

namespace Sys2Proof.Machine

/-! ### Frames -/

/-- A part of the state: a field, a span, or a port's link receiver, request places, attention enables,
or attention items with the line that follows them. -/
inductive Field where
  | pending
  | seconds
  | ms
  | secondAt
  | rate
  | serviceKey
  | bays
  | zones
  | airNext
  | fans
  | queue
  | slot
  | fanNext
  | fire
  | signs
  | lights
  | fireFlag
  | fumeSet
  | nodes
  | facilityMap
  | operatorMap
  | settings
  | freeCount
  | span (i : SpanId)
  | link (p : Port)
  | places (p : Port)
  | enables (p : Port)
  | items (p : Port)
  deriving DecidableEq, Repr

/-- A port's link receiver and the moment of its last byte (R174). -/
def PortState.linkPart (p : PortState) : Receiver × Millis := (p.receiver, p.lastByte)

/-- A port's two request places (R176). -/
def PortState.placesPart (p : PortState) : Option Service × Option Placed := (p.service, p.waiting)

/-- A port's pending items and its attention line (R187, R189). -/
def PortState.itemsPart (p : PortState) : AttSet × Bool := ({ p.att with enables := 0 }, p.attn)

/-- Two states agree on a part. -/
def Field.same (s t : State) : Field → Prop
  | .pending => t.pending = s.pending
  | .seconds => t.seconds = s.seconds
  | .ms => t.ms = s.ms
  | .secondAt => t.secondAt = s.secondAt
  | .rate => t.rate = s.rate
  | .serviceKey => t.serviceKey = s.serviceKey
  | .bays => t.bays = s.bays
  | .zones => t.zones = s.zones
  | .airNext => t.airNext = s.airNext
  | .fans => t.fans = s.fans
  | .queue => t.queue = s.queue
  | .slot => t.slot = s.slot
  | .fanNext => t.fanNext = s.fanNext
  | .fire => t.fire = s.fire
  | .signs => t.signs = s.signs
  | .lights => t.lights = s.lights
  | .fireFlag => t.fireFlag = s.fireFlag
  | .fumeSet => t.fumeSet = s.fumeSet
  | .nodes => t.nodes = s.nodes
  | .facilityMap => t.facilityMap = s.facilityMap
  | .operatorMap => t.operatorMap = s.operatorMap
  | .settings => t.settings = s.settings
  | .freeCount => t.freeCount = s.freeCount
  | .span i => t.span i = s.span i
  | .link p => (t.port p).linkPart = (s.port p).linkPart
  | .places p => (t.port p).placesPart = (s.port p).placesPart
  | .enables p => (t.port p).att.enables = (s.port p).att.enables
  | .items p => (t.port p).itemsPart = (s.port p).itemsPart

/-- Every part but the named ones is as it was. -/
def State.keepsBut (s t : State) (touched : List Field) : Prop := ∀ f : Field, f ∉ touched → f.same s t

/-- The time base (R192): the millisecond, the running second's beginning and the seconds count. -/
abbrev clockParts : List Field := [.ms, .secondAt, .seconds]

/-- All parts of a port. -/
abbrev portParts (p : Port) : List Field := [.link p, .places p, .enables p, .items p]

/-- R192: the time base has gone on to a moment, or stands where it was past it (log 3): each 1,000 ms
since the running second began have advanced the seconds count by 1. -/
def State.movedTo (s t : State) (moment : Millis) : Prop :=
  let passed := (max s.ms moment - s.secondAt) / 1000
  t.ms = max s.ms moment ∧ t.secondAt = s.secondAt + 1000 * passed ∧
  t.seconds = s.seconds + BitVec.ofNat 32 passed

/-- R192: the seconds count is the whole seconds of the millisecond timing, modulo 2^32. -/
def State.timeSound (s : State) : Prop :=
  s.secondAt = 1000 * (s.ms / 1000) ∧ s.seconds = BitVec.ofNat 32 (s.ms / 1000)

/-! ### Requests -/

/-- The service place of the request's port is empty and its class is admitted there (R176, R178). -/
def State.accepts (s : State) (h : Head) (c : Cls) : Prop :=
  (s.port h.port).service = none ∧ admitted h.port h.key h.cls = some c

/-- What a port's service place holds once a request has been taken from it (R177, R181). -/
def answer (h : Head) (body : Request) (r : Result) (payload : List Byte) : Service :=
  { item := .request h.cls h.tag body, reply := { tag := h.tag, result := r, payload := payload } }

/-- The request was taken and answered: SERVICE KEY as sampled, and its port as it was but for the
service place. -/
def State.answers (s t : State) (h : Head) (body : Request) (r : Result) (payload : List Byte) : Prop :=
  t.serviceKey = h.key ∧
  t.port h.port = { s.port h.port with service := some (answer h body r payload) }

/-- R179, R181: the request is answered with a result other than OK: an empty payload, and nothing
changed but SERVICE KEY's sample and the port's place. -/
def State.refuses (s : State) (cmd : Instr) (h : Head) (body : Request) (r : Result) : Prop :=
  ∃ t, exec cmd s = .next t ∧ s.answers t h body r [] ∧ s.keepsBut t [.serviceKey, .places h.port]

/-! ### Tables -/

/-- Every table is in its canonical form: numbers strictly rising and below the table's size (R1, R27,
R75, R116, R135, R154). -/
def State.tablesSound (s : State) : Prop :=
  Table.wf Config.bays s.bays ∧ Table.wf Config.zones s.zones ∧ Table.wf Config.fans s.fans ∧
  Table.wf Config.signs s.signs ∧ Table.wf Config.lights s.lights ∧ Table.wf Config.nodes s.nodes

/-! ### Signs -/

/-- R39, R122: where a change is one that marks signs, every sign that depends on the zone has been
recomputed from the values then current; every other sign, and every sign after a change that marks
none, is as it was. -/
def State.signsMarked (s t : State) (zone : Nat) (changed : Bool) : Prop :=
  ∀ n, Table.get t.signs n = (Table.get s.signs n).map (fun g =>
    if changed && g.config.dependsOn zone then t.recomputed g else g)

/-! ### Fan groups -/

/-- R78: a group's record once its drives have been judged. -/
def State.drivesJudged (s : State) (g : Fan) : Fan :=
  if ∀ d ∈ g.drives, s.driveFailed d = false then { g with degraded := false }
  else if ∀ d ∈ g.drives, s.driveFailed d = true then
    if g.state = .isolated ∨ g.state = .fault then { g with degraded := false }
    else
      { g with
        degraded := false, state := .fault, faultCause := some .allDrives, commanded := 0, proof := none }
  else { g with degraded := true }

/-- R70, R71, R39: what an availability notice can move: of a zone its air status and its AIR cause,
of a sign its content and dirty flag. -/
def State.airOnly (s t : State) : Prop :=
  (∀ k, Table.get s.zones k = none → Table.get t.zones k = none) ∧
  (∀ k z, Table.get s.zones k = some z → ∃ z', Table.get t.zones k = some z' ∧
    z' = { z with
      causes := { z.causes with air := z'.causes.air }
      air := { z.air with status := z'.air.status } }) ∧
  (∀ n, Table.get s.signs n = none → Table.get t.signs n = none) ∧
  (∀ n g, Table.get s.signs n = some g → ∃ g', Table.get t.signs n = some g' ∧
    g' = { g with content := g'.content, dirty := g'.dirty })

/-! ### Bay changes -/

/-- What a bay change makes of the zone it touches and of the signs (R30, R31, R39): the zone's tallies,
total, free counts and fill state alone, and the content and dirty flag of the signs that depend on it
alone. -/
def State.recountsOnly (s t : State) (zone : Nat) : Prop :=
  (∀ k, k ≠ zone → Table.get t.zones k = Table.get s.zones k) ∧
  (∀ z, Table.get s.zones zone = some z → ∃ z', Table.get t.zones zone = some z' ∧
    z' = { z with tallies := z'.tallies, total := z'.total, free := z'.free, fill := z'.fill }) ∧
  (∀ n g, Table.get s.signs n = some g → ∃ g', Table.get t.signs n = some g' ∧
    g' = { g with content := g'.content, dirty := g'.dirty } ∧
    (g.config.dependsOn zone = false → g' = g))

/-- R20, R30: what a bay change between two zones can move: the counts and fill state of those two, and
the content and dirty flag of the signs that depend on one of them. -/
def State.recountsBoth (s t : State) (zone zone' : Nat) : Prop :=
  (∀ k, k ≠ zone → k ≠ zone' → Table.get t.zones k = Table.get s.zones k) ∧
  (∀ k z, Table.get s.zones k = some z → ∃ z', Table.get t.zones k = some z' ∧
    z' = { z with tallies := z'.tallies, total := z'.total, free := z'.free, fill := z'.fill }) ∧
  (∀ n g, Table.get s.signs n = some g → ∃ g', Table.get t.signs n = some g' ∧
    g' = { g with content := g'.content, dirty := g'.dirty } ∧
    (g.config.dependsOn zone = false → g.config.dependsOn zone' = false → g' = g))

/-- The item a bay change raises: WATCH_CHANGE on a new state of a bay that carries WATCH (R2). -/
def State.watched (s : State) (bay : Nat) (old b : Bay) : State :=
  if b.state ≠ old.state ∧ b.marks.watch = true then s.raise .bay bay .watchChange else s

/-- R28, R29: one zone's counts are those of its bays. -/
def Zone.countsSound (bays : Table Bay) (zone : Nat) (z : Zone) : Prop :=
  (∀ st : BayState, z.tallies.get st =
    Table.countOf bays (fun _ b => decide (b.zone = zone) && decide (b.state = st))) ∧
  (∀ k : Kind, z.free.get k =
    Table.countOf bays (fun _ b => decide (b.zone = zone) && decide (b.kind = k) && b.isFree)) ∧
  z.total = Table.countOf bays (fun _ b => decide (b.zone = zone)) ∧
  z.total = z.tallies.sum

/-- R119 to R123: a sign holds the content its definition has now, and is dirty exactly while its
accepted content is absent or differs. -/
def Sign.soundIn (s : State) (g : Sign) : Prop :=
  g.content = s.contentOf g.config ∧ (g.dirty = true ↔ g.accepted ≠ some g.content)

/-- R28 to R32, R39, R122: the counts and the signs have followed a bay change: a zone whose counts were
those of its bays has the counts of its bays now, its fill state judged where the guidance count is new,
and a sign that was current is current. -/
def State.recounted (s t : State) : Prop :=
  (∀ k z z', Table.get s.zones k = some z → Table.get t.zones k = some z' →
    (s.tablesSound → z.countsSound s.bays k → z'.countsSound t.bays k) ∧
    z'.fill = (if z'.free.guidance = z.free.guidance then z.fill
      else judgeFill z.fill z'.free.guidance z.settings.fullAt z.settings.hysteresis)) ∧
  (∀ n g g', Table.get s.signs n = some g → Table.get t.signs n = some g' →
    g.soundIn s → g'.soundIn t)

/-- R28, R29: every zone's counts. -/
def State.countsSound (s : State) : Prop := ∀ e ∈ s.zones, e.2.countsSound s.bays e.1

/-- R43: the zone of every bay is defined. -/
def State.baysPlaced (s : State) : Prop := ∀ e ∈ s.bays, Table.has s.zones e.2.zone = true

/-! ### Invariants -/

/-- R104, R105, R139: the latched fire zone is present exactly while fire mode is active, a zone is
pending only then, and the lighting controller's fire flag says the same. -/
def State.fireSound (s : State) : Prop :=
  s.fire.zone.isSome = s.fire.taken ∧ (s.fire.pendingZone.isSome = true → s.fire.taken = true) ∧
  s.fireFlag = s.fire.taken

/-- R103: a pending change exists exactly while the raw line differs from the taken level. -/
def State.filterSound (s : State) : Prop :=
  s.fire.change.isSome = decide (s.fire.line ≠ s.fire.taken)

/-- R189: each attention line is asserted exactly while its set holds an item of an enabled class. -/
def State.linesSound (s : State) : Prop := ∀ p : Port, (s.port p).attn = (s.port p).att.asserted

/-- R38, R67, R71: one zone carries FIRE exactly while fire mode is active, FUME exactly while its fume
state is FUME, and AIR exactly while it is AIR_LOST and in WARNING or FUME. -/
def Zone.causesSound (fire : Bool) (z : Zone) : Prop :=
  z.causes.fire = fire ∧ z.causes.fume = decide (z.air.fume = .fume) ∧
  z.causes.air = (decide (z.air.status = .lost) && !decide (z.air.fume = .clear))

/-- R38, R67, R71: every zone's closure causes, but OPERATOR, which requests alone move. -/
def State.causesSound (s : State) : Prop := ∀ e ∈ s.zones, e.2.causesSound s.fire.taken

/-- R139: the fume set holds the zones in FUME. -/
def State.fumeSetSound (s : State) : Prop :=
  ∀ k, s.fumeSet.getLsbD k = (Table.get s.zones k).any (fun z => decide (z.air.fume = .fume))

/-- R97, R98, R43: every zone that a fan group serves is defined. -/
def State.fansPlaced (s : State) : Prop := ∀ e ∈ s.fans, s.zonesDefined e.2.served = true

/-- R69: a zone is AIR_LOST exactly while some group serves it and none that does is STOPPED, WAITING or
RUNNING. -/
def State.airSound (s : State) : Prop :=
  ∀ e ∈ s.zones, (e.2.air.status = .lost ↔
    (∃ f ∈ s.fans, f.2.served.getLsbD e.1 = true) ∧
    ∀ f ∈ s.fans, f.2.served.getLsbD e.1 = true → f.2.state = .isolated ∨ f.2.state = .fault)

/-- R130, R131, R43: every zone in a sign's masks is defined. -/
def State.signsPlaced (s : State) : Prop :=
  ∀ e ∈ s.signs, s.zonesDefined (e.2.config.countZones ||| e.2.config.termA ||| e.2.config.termB) = true

/-- R119 to R123: every sign is current. -/
def State.signsSound (s : State) : Prop := ∀ e ∈ s.signs, e.2.soundIn s

/-- R136, R139 to R141: a group is FORCED exactly while it is due for forcing. -/
def State.forcingSound (s : State) : Prop :=
  ∀ e ∈ s.lights, (e.2.state = .forced ↔ s.dueForForcing e.2.zone = true)

/-- R136: a group's level as its state, override and policy level give it. -/
def Light.levelSound (l : Light) : Prop :=
  (l.state = .forced → l.level = 100) ∧
  (l.state ≠ .forced → l.level = ((l.ovr.map (fun o => o.level)).getD l.policy))

/-- R136: every group's level stands as its table gives it. -/
def State.levelsSound (s : State) : Prop := ∀ e ∈ s.lights, e.2.levelSound

/-- R81: one stack: at most 4 entries, classes never decreasing from bottom to top, and a FIRE entry,
without expiry, exactly while fire mode is active, at most one. -/
def stackSound (fire : Bool) (stack : List Entry) : Prop :=
  stack.length ≤ Config.stackDepth ∧ stack.Pairwise (fun a b => a.cls.rank ≤ b.cls.rank) ∧
  (stack.filter (fun e => decide (e.cls = .fire))).length = fire.toNat ∧
  ∀ e ∈ stack, e.cls = .fire → e.expiry = none

/-- R81: every override stack. -/
def State.stacksSound (s : State) : Prop := ∀ e ∈ s.fans, stackSound s.fire.taken e.2.stack

/-- R85: while a served zone is in FUME, and its top entry is not FIRE, a group's target is 100. -/
def State.targetsSound (s : State) : Prop :=
  ∀ e ∈ s.fans, (∀ x, e.2.stack.getLast? = some x → x.cls ≠ .fire) →
    (∃ k z, e.2.served.getLsbD k = true ∧ Table.get s.zones k = some z ∧ z.air.fume = .fume) → e.2.target = 100

/-- R59 to R62, R68: a zone's demands lie in 0-100. -/
def Zone.demandSound (z : Zone) : Prop :=
  z.settings.minDemand ≤ 100 ∧ z.settings.blindDemand ≤ 100 ∧ z.air.credit ≤ 100 ∧
  z.air.gasDemand ≤ 100 ∧ z.air.trafficDemand ≤ 100 ∧ z.air.zoneDemand ≤ 100

/-- R81, R85, R88: levels and target lie in 0-100, and commanded is 0 but while the group is RUNNING,
when it lies between Vmin and 100. -/
def Fan.speedSound (g : Fan) : Prop :=
  g.settings.vmin ≤ 60 ∧ g.settings.fireIn ≤ 100 ∧ g.settings.fireOut ≤ 100 ∧
  (∀ e ∈ g.stack, e.level ≤ 100) ∧ g.target ≤ 100 ∧
  (g.state ≠ .running → g.commanded = 0) ∧
  (g.state = .running → g.settings.vmin ≤ g.commanded ∧ g.commanded ≤ 100)

/-- R88: every group's commanded speed, with the demands it follows. -/
def State.speedsSound (s : State) : Prop :=
  (∀ e ∈ s.zones, e.2.demandSound) ∧ ∀ e ∈ s.fans, e.2.speedSound

/-- R92: in the start queue the waiters whose top entry is FIRE stand ahead of the others. -/
def State.queueOrdered (s : State) : Prop :=
  s.queue.Pairwise (fun a b => s.isFireWaiter b = true → s.isFireWaiter a = true)

/-- R92: the start queue holds exactly the WAITING groups, each once. -/
def State.queueSound (s : State) : Prop :=
  s.queue.Nodup ∧ ∀ n, n ∈ s.queue ↔ ∃ g, Table.get s.fans n = some g ∧ g.state = .waiting

/-- R14: a bay that is RESERVED holds a reservation, and a bay that holds one is RESERVED, ARRIVING or
UNKNOWN. -/
def State.reservationsSound (s : State) : Prop :=
  ∀ e ∈ s.bays, (e.2.state = .reserved → e.2.reservation.isSome = true) ∧
    (e.2.reservation.isSome = true →
      e.2.state = .reserved ∨ e.2.state = .arriving ∨ e.2.state = .unknown)

/-- R183, table of 9.5: every part-wide setting lies in its range. -/
def PartSettings.sound (p : PartSettings) : Prop :=
  (2 ≤ p.airPeriod ∧ p.airPeriod ≤ 60) ∧ (1 ≤ p.fanPeriod ∧ p.fanPeriod ≤ 30) ∧
  (2 ≤ p.startInterval ∧ p.startInterval ≤ 60) ∧ (1 ≤ p.arrivalConfirm ∧ p.arrivalConfirm ≤ 8) ∧
  (1 ≤ p.departureConfirm ∧ p.departureConfirm ≤ 8) ∧ (5 ≤ p.proofTime ∧ p.proofTime ≤ 60) ∧
  (1 ≤ p.missLimit ∧ p.missLimit ≤ 15) ∧ (2 ≤ p.revisit ∧ p.revisit ≤ 16) ∧
  ∀ i : SpanId, p.limit i ∈ [4, 8, 12, 16]

/-- R40: every zone's settings are a consistent set. -/
def State.levelsConsistent (s : State) : Prop := ∀ e ∈ s.zones, e.2.settings.consistent e.2.level = true

/-- R187: one attention set: in each class the pending numbers rise, each once, and are objects of the
class. -/
def AttSet.sound (a : AttSet) : Prop := ∀ k : AttClass, Table.wf k.objects (a.items k)

/-- R187: both attention sets. -/
def State.setsSound (s : State) : Prop := ∀ p : Port, (s.port p).att.sound

/-- R19, R130, R149, R97, R168: no two bays share a channel of a head, no two signs and no two luminaire
groups a node, no two drives a node, and no two nodes an address of a span; channels and addresses lie in
their ranges. -/
def State.placesSound (s : State) : Prop :=
  (∀ e ∈ s.bays, e.2.channel ≤ 15 ∧
    ∀ e' ∈ s.bays, e.2.node = e'.2.node → e.2.channel = e'.2.channel → e = e') ∧
  (∀ e ∈ s.signs, ∀ e' ∈ s.signs, e.2.config.node = e'.2.config.node → e = e') ∧
  (∀ e ∈ s.lights, ∀ e' ∈ s.lights, e.2.node = e'.2.node → e = e') ∧
  (∀ e ∈ s.fans, (e.2.drives.map (fun d => d.node)).Nodup ∧
    ∀ e' ∈ s.fans, ∀ d ∈ e.2.drives, ∀ d' ∈ e'.2.drives, d.node = d'.node → e = e') ∧
  (∀ e ∈ s.nodes, (1 ≤ e.2.address ∧ e.2.address ≤ 126) ∧
    ∀ e' ∈ s.nodes, e.2.span = e'.2.span → e.2.address = e'.2.address → e = e')

/-! ### The owners of the nodes (R162) -/

/-- The parts that news of a node of a kind can reach (R8, R49, R77, R127, R146). -/
def ownerParts : NodeKind → List Field
  | .sensor => [.bays, .zones, .signs, .items .main, .items .panel]
  | .gas => []
  | .dimmer => [.lights]
  | .fan => [.fans, .queue, .zones, .signs, .items .main, .items .panel]
  | .sign => [.signs]

/-- The pending items of some classes are as they were in both sets (R187). -/
def State.itemsStand (s t : State) (classes : List AttClass) : Prop :=
  ∀ p : Port, ∀ k ∈ classes, (t.port p).att.items k = (s.port p).att.items k

/-- What news of nodes makes of the zones: the counts follow the bays (R30), the air status the groups
that serve (R70), and the AIR cause the air status (R71); nothing else moves. -/
def State.zonesFollow (s t : State) : Prop :=
  ∀ k, (Table.get s.zones k = none → Table.get t.zones k = none) ∧
    ∀ z, Table.get s.zones k = some z → ∃ z', Table.get t.zones k = some z' ∧
      z' = { z with
        tallies := z'.tallies, total := z'.total, free := z'.free, fill := z'.fill
        causes := { z.causes with air := z'.causes.air }
        air := { z.air with status := z'.air.status } } ∧
      (z.countsSound s.bays k → z'.countsSound t.bays k) ∧
      (z.air.status = s.airStatusOf k → z'.air.status = t.airStatusOf k ∧
        (z.causesSound s.fire.taken → z'.causesSound s.fire.taken) ∧
        ∀ p : Port, Table.get (t.port p).att.air k =
          if z'.air.status = z.air.status then Table.get (s.port p).att.air k
          else if z'.air.status = .lost then some .airLost else some .airRestored)

/-- What news of nodes makes of the signs: a change of their records by `f`, and their content and dirty
flag current as before (R122, R123). -/
def State.signsFollow (s t : State) (f : Sign → Sign) : Prop :=
  ∀ n, (Table.get s.signs n = none → Table.get t.signs n = none) ∧
    ∀ g, Table.get s.signs n = some g → ∃ g', Table.get t.signs n = some g' ∧
      g' = { f g with content := g'.content, dirty := g'.dirty } ∧ (g.soundIn s → g'.soundIn t)

/-- R77, R78, R80, R93: the groups that `hit` picks take `f` and are judged by their drives; one that
enters FAULT leaves the queue and raises FAULT, one newly DEGRADED raises DEGRADED. The others stand. -/
def State.groupsJudged (s t : State) (hit : Fan → Bool) (f : Fan → Fan) : Prop :=
  let judged := fun g : Fan => if hit g then t.drivesJudged (f g) else g
  let fell := fun g : Fan => decide (g.state ≠ .fault) && decide ((judged g).state = .fault)
  (∀ n, Table.get t.fans n = (Table.get s.fans n).map judged) ∧
  t.queue = s.queue.filter (fun n => !(Table.get s.fans n).any fell) ∧
  (∀ n g, Table.get s.fans n = some g → ∀ p : Port,
    (fell g = true → Table.get (t.port p).att.fan n = some .fault) ∧
    (g.degraded = false → (judged g).degraded = true → Table.get (t.port p).att.fan n = some .degraded) ∧
    (hit g = false → Table.get (t.port p).att.fan n = Table.get (s.port p).att.fan n))

/-- R8, R77, R127, R146: the owners have been told that the nodes `lost` picks are SILENT or SUSPENDED:
their bays are UNKNOWN, their drives without report and failed, their signs and luminaire groups unseen;
every other record stands. -/
def State.ownersLost (s t : State) (lost : Nat → Bool) : Prop :=
  let down := fun (k : NodeKind) (n : Nat) => lost n && decide (s.kindOf n = some k)
  (∀ n, Table.get t.bays n = (Table.get s.bays n).map (fun b =>
    if down .sensor b.node then
      { b with state := .unknown, confirm := 0
               since := if b.state = .unknown then b.since else t.seconds }
    else b)) ∧
  (∀ n b, Table.get s.bays n = some b → ∀ p : Port, Table.get (t.port p).att.bay n =
    if down .sensor b.node = true ∧ b.state ≠ .unknown ∧ b.marks.watch = true then some .watchChange
    else Table.get (s.port p).att.bay n) ∧
  (∀ n, Table.get t.lights n = (Table.get s.lights n).map (fun l =>
    if down .dimmer l.node then { l with unseen := true } else l)) ∧
  s.signsFollow t (fun g => if down .sign g.config.node then { g with unseen := true, sent := none } else g) ∧
  s.groupsJudged t (fun g => g.drives.any (fun d => down .fan d.node)) (fun g =>
    { g with drives := g.drives.map (fun d => if down .fan d.node then { d with report := none } else d) }) ∧
  s.zonesFollow t ∧ s.itemsStand t [.fire, .link]

/-- R77, R127, R146: the owners of a node have been told that it is restored: its drive is judged again,
its sign is seen, dirty and without accepted content, its luminaire group is seen; every other record
stands. -/
def State.ownersRestored (s t : State) (node : Nat) : Prop :=
  let back := fun (k : NodeKind) (n : Nat) => decide (n = node) && decide (s.kindOf node = some k)
  (∀ n, Table.get t.lights n = (Table.get s.lights n).map (fun l =>
    if back .dimmer l.node then { l with unseen := false } else l)) ∧
  s.signsFollow t (fun g => if back .sign g.config.node
    then { g with unseen := false, accepted := none, dirty := true } else g) ∧
  (∀ n g, Table.get t.signs n = some g → back .sign g.config.node = true → g.dirty = true) ∧
  s.groupsJudged t (fun g => g.drives.any (fun d => back .fan d.node)) (fun g => g) ∧
  s.zonesFollow t ∧ t.bays = s.bays ∧ s.itemsStand t [.fire, .bay, .link]

/-! ### Visits -/

/-- R147: the lamp of a mapped channel, by the first row of the table that its bay meets. -/
def lampShown (b : Bay) (closed : Bool) (l : Lamp) : Prop :=
  (b.marks.lampTest = true → l = .whiteFlashing) ∧
  (b.marks.lampTest = false →
    (b.state = .unknown → l = .off) ∧
    (b.state ≠ .unknown →
      (b.marks.hold = true → l = .amberSteady) ∧
      (b.marks.hold = false →
        (closed = true → b.state = .free ∨ b.state = .reserved → l = .amberFlashing) ∧
        (closed = false → b.state = .reserved → l = .whiteSteady) ∧
        (b.state = .arriving ∨ b.state = .occupied ∨ b.state = .leaving → l = .redSteady) ∧
        (closed = false → b.state = .free →
          (b.kind = .accessible → l = .blueSteady) ∧ (b.kind = .charger → l = .greenFlashing) ∧
          (b.kind = .general ∨ b.kind = .family → l = .greenSteady)))))

/-- What the call to a node of a kind carries, by the owner's record as it stands (R158): sixteen lamp codes
(R147), nothing, a level (R144), run or stop with a speed (R76), or a sign's content (R124, R197). -/
def State.carries (s : State) (node : Nat) (kind : NodeKind) (c : List Byte) : Prop :=
  match kind with
  | .sensor => c.length = 16 ∧ ∀ ch : Nat, ch < 16 → ∃ l : Lamp, byteAt c ch = byte l.code ∧
      ((∀ e ∈ s.bays, ¬(e.2.node = node ∧ e.2.channel = ch)) → l = .off) ∧
      (∀ e ∈ s.bays, e.2.node = node → e.2.channel = ch →
        lampShown e.2 ((Table.get s.zones e.2.zone).any (fun z =>
          z.causes.operator || z.causes.fume || z.causes.air || z.causes.fire)) l)
  | .gas => c = []
  | .dimmer => ((∀ e ∈ s.lights, e.2.node ≠ node) → c = [byte 100]) ∧
      (∀ e ∈ s.lights, e.2.node = node → c = [byte e.2.level])
  | .fan => ((∀ e ∈ s.fans, ∀ d ∈ e.2.drives, d.node ≠ node) → c = [0, 0]) ∧
      (∀ e ∈ s.fans, ∀ d ∈ e.2.drives, d.node = node →
        c = if e.2.state = .running then [1, byte e.2.commanded] else [0, 0])
  | .sign => ((∀ e ∈ s.signs, e.2.config.node ≠ node) → c = [0, 15, 15, 15, 0]) ∧
      (∀ e ∈ s.signs, e.2.config.node = node →
        c = [byte e.2.content.word.code, byte (e.2.content.hundreds.getD 15), byte (e.2.content.tens.getD 15),
          byte (e.2.content.units.getD 15), byte e.2.content.arrow.code])

/-- R161: what a failed visit makes of its node's record: the miss counts, to 15 at most, and at the miss
limit a LIVE or UNSEEN node is SILENT. R166: a pending suspension makes it SUSPENDED. -/
def Node.missed (missLimit : Nat) (e : VisitError) (n : Node) : Node :=
  let misses := min 15 (n.missCount + 1)
  let n1 : Node :=
    if (n.liveness = .live ∨ n.liveness = .unseen) ∧ missLimit ≤ misses then
      { n with missCount := misses, lastError := some e, liveness := .silent, roundsPassed := 0, due := false }
    else { n with missCount := misses, lastError := some e }
  if n.suspendPending then { n1 with liveness := .suspended, due := false, suspendPending := false } else n1

/-- R157: the round of a span, at a position, has a node left to visit: a LIVE or UNSEEN one, or a SILENT one
that is due, at an address above the position. -/
def State.nodeLeft (s : State) (i : SpanId) (position : Option Nat) : Prop :=
  ∃ e ∈ s.nodes, e.2.span = i ∧
    (e.2.liveness = .live ∨ e.2.liveness = .unseen ∨ (e.2.liveness = .silent ∧ e.2.due = true)) ∧
    ∀ a, position = some a → a < e.2.address

/-- R157: while a node is left the round goes on from its position; when none is, it has ended and the
position is absent. -/
def State.roundSettled (t : State) (i : SpanId) (position : Option Nat) : Prop :=
  (t.nodeLeft i position → (t.span i).inRound = true ∧ (t.span i).position = position) ∧
  (¬t.nodeLeft i position → (t.span i).inRound = false ∧ (t.span i).position = none)

/-- R157, R163: what a span `p` has become once nodes of it may have left the rounds: nothing, but for a round
that has ended, on a RUNNING span with no visit in flight, because no node is left. -/
def State.roundFollows (t : State) (i : SpanId) (p : Span) : Prop :=
  if p.stuck = none ∧ p.visit = none ∧ p.inRound = true then
    t.span i = { p with inRound := (t.span i).inRound, position := (t.span i).position } ∧
    t.roundSettled i p.position
  else t.span i = p

/-- R156, R157: no visit is in flight on the span; its position is the visited node's address, or its round
has ended, the position absent, for want of a node left to visit. It is STUCK or RUNNING as before. -/
def State.visitOver (s t : State) (i : SpanId) (v : Visit) : Prop :=
  (t.span i).visit = none ∧
  ((t.span i).position = some v.address ∧ (t.span i).inRound = (s.span i).inRound ∨
    (t.span i).position = none ∧ (t.span i).inRound = false) ∧
  (s.tablesSound → s.placesSound → (s.span i).inRound = true → (s.span i).stuck = none →
    t.roundSettled i (some v.address)) ∧
  (t.span i).stuck = (s.span i).stuck ∧ (t.span i).roundStart = (s.span i).roundStart

/-- R161, R162, R166: a visit to node `v.node` of span `i`, whose record is `n`, has failed with `e`. Its
record is as missed, the head of a node newly lost UNREPORTED (R49); the visit is over; SILENT is raised
where the node falls, and the owners are told of a node that is now SILENT or SUSPENDED by this visit.
Beside the parts in `touched` nothing else moves. -/
def State.visitFails (s t : State) (i : SpanId) (v : Visit) (n : Node) (e : VisitError) (touched : List Field) :
    Prop :=
  let falls : Bool := decide ((n.liveness = .live ∨ n.liveness = .unseen) ∧
    s.settings.missLimit ≤ min 15 (n.missCount + 1))
  let told : Bool := falls || n.suspendPending
  let n' := n.missed s.settings.missLimit e
  Table.get t.nodes v.node = some { n' with
    head := if told = true ∧ n.kind = .gas then { n.head with status := .unreported } else n.head } ∧
  (∀ m, m ≠ v.node → Table.get t.nodes m = Table.get s.nodes m) ∧
  s.visitOver t i v ∧
  (∀ (p : Port) (m : Nat), Table.get (t.port p).att.node m =
    if falls = true ∧ m = v.node then some .silent else Table.get (s.port p).att.node m) ∧
  (told = true → s.tablesSound → s.placesSound → s.ownersLost t (fun m => decide (m = v.node))) ∧
  s.keepsBut t (touched ++ [.span i, .nodes] ++ (if told then ownerParts n.kind else []) ++
    if falls then [.items .main, .items .panel] else [])

/-- R170, R172: a visit whose outcome is discarded is over: no miss, no notice, no report and no answer. That
of a retired node ends as a visit does, and changes no record. That of a part restarted since ends with a new
round, its SILENT nodes judged against the revisit interval (R157); before it, a suspension asked for since the
RESTART is applied (log 21). Beside the parts in `touched` nothing else moves. -/
def State.visitDiscarded (s t : State) (i : SpanId) (v : Visit) (touched : List Field) : Prop :=
  (v.fate = .retired → s.visitOver t i v ∧ s.keepsBut t (touched ++ [.span i])) ∧
  (v.fate = .restarted ∨ v.fate = .restartedRetired →
    let pending := fun (m : Nat) (n : Node) =>
      decide (v.fate = .restarted) && decide (m = v.node) && n.suspendPending
    let leaving := (Table.get s.nodes v.node).filter (pending v.node)
    (∀ m, Table.get t.nodes m = (Table.get s.nodes m).map (fun n =>
      if pending m n then
        { n with
          liveness := .suspended, due := false, suspendPending := false
          head := if n.kind = .gas then { n.head with status := .unreported } else n.head }
      else if n.span = i ∧ n.liveness = .silent then
        (if s.settings.revisit - 1 ≤ n.roundsPassed then { n with due := true, roundsPassed := 0 }
         else { n with due := false, roundsPassed := n.roundsPassed + 1 })
      else n)) ∧
    (t.span i).visit = none ∧ (t.span i).roundStart = t.ms ∧ (t.span i).stuck = (s.span i).stuck ∧
    (s.tablesSound → s.placesSound → (s.span i).stuck = none → t.roundSettled i none) ∧
    (leaving.isSome = true → s.tablesSound → s.placesSound → s.ownersLost t (fun m => decide (m = v.node))) ∧
    s.itemsStand t [.node] ∧
    s.keepsBut t (touched ++ [.span i, .nodes] ++ (leaving.map (fun n => ownerParts n.kind)).getD []))

end Sys2Proof.Machine
end

