-- ==== Sys2Proof/Certificates/Slice0/Obligations.lean ====
section
/-! DEFINITION. The statements for the provers, from the spec's numbered rules. -/

open Sys2Proof Sys2Proof.Machine

/-! ### Bays (spec/01) -/

/-- R23: READ_BAYS going up and going down: the numbers visited, and each one's view. The walk goes on
while the next number lies in 0-2047 and fewer than `count` numbers have been visited. R24: FIND_BAYS lists
the matching bays above "after", lowest first, up to the maximum, with MORE when a further one matches; a bay
matches when it is defined, in the zone, of a kind in the kind set and in a state in the state set; an
undefined zone is answered NO_SUCH. Nothing but the port's place and SERVICE KEY's sample changes. -/
def Obligations.BaysAreRead : Prop :=
  (∀ (h : Head) (c : Cls) (s : State) (start count step : Nat), s.accepts h c → start ≤ 2047 →
     1 ≤ count → count ≤ 32 → 1 ≤ step → step ≤ 16 →
     (∃ t, exec (.readBays h start count 0 step) s = .next t ∧
       (let ns := ((List.range count).map (fun k => start + k * step)).filter (fun n => decide (n < 2048))
        s.answers t h (.readBays start count 0 step) .ok
         (byte ns.length :: ns.flatMap (fun n => bayView n (Table.get s.bays n)))) ∧
       s.keepsBut t [.serviceKey, .places h.port]) ∧
     (∃ t, exec (.readBays h start count 1 step) s = .next t ∧
       (let ns := ((List.range count).filter (fun k => decide (k * step ≤ start))).map (fun k => start - k * step)
        s.answers t h (.readBays start count 1 step) .ok
         (byte ns.length :: ns.flatMap (fun n => bayView n (Table.get s.bays n)))) ∧
       s.keepsBut t [.serviceKey, .places h.port])) ∧
  (∀ (h : Head) (c : Cls) (s : State) (zone after maximum : Nat) (kinds states : Byte), s.accepts h c →
     s.tablesSound → zone ≤ 31 → Table.has s.zones zone = true → kinds.toNat < 16 → states.toNat < 64 →
     (after ≤ 2047 ∨ after = 65535) → 1 ≤ maximum → maximum ≤ 32 →
     ∃ (t : State) (ns : List Nat), exec (.findBays h zone kinds states after maximum) s = .next t ∧
       ns.Pairwise (· < ·) ∧
       (∀ n, n ∈ ns ↔ ∃ b, Table.get s.bays n = some b ∧ b.zone = zone ∧
         kinds.getLsbD b.kind.code = true ∧ states.getLsbD b.state.code = true ∧
         (after = 65535 ∨ after < n)) ∧
       s.answers t h (.findBays zone kinds states after maximum) .ok
         ([byte (min maximum ns.length), flagByte (decide (maximum < ns.length))] ++
           (ns.take maximum).flatMap bytes2) ∧
       s.keepsBut t [.serviceKey, .places h.port]) ∧
  (∀ (h : Head) (c : Cls) (s : State) (zone after maximum : Nat) (kinds states : Byte), s.accepts h c →
    zone ≤ 31 → Table.has s.zones zone = false → kinds.toNat < 16 → states.toNat < 64 →
    (after ≤ 2047 ∨ after = 65535) → 1 ≤ maximum → maximum ≤ 32 →
    s.refuses (.findBays h zone kinds states after maximum) h (.findBays zone kinds states after maximum) .noSuch)

/-- R12, R13: CHANGE_BAY gives the marks its mode says; from FACILITY and OPERATOR, NOCOUNT and
LAMP_TEST keep their values, and the reply says OK_MASKED when the given set names one of them or a
REPLACE leaves one standing that it lacks. State and `since` stand, nothing is raised, and of the zones
and signs only the bay's zone's counts and its signs can move, and they follow the bays (R30 to R32, R39). -/
def Obligations.ChangeBayMarks : Prop :=
  ∀ (h : Head) (c : Cls) (s : State) (bay mode : Nat) (marks : Byte) (m : Mode) (given : Marks) (b : Bay),
    s.accepts h c → bay ≤ 2047 → Mode.ofCode mode = some m → Marks.ofMask marks = some given →
    Table.get s.bays bay = some b → s.permits c (zoneSingle b.zone) = true →
    (let wanted := fun (has gives : Bool) =>
        match m with
        | .replace => gives
        | .add => has || gives
        | .remove => has && !gives
     let new : Marks :=
        { hold := wanted b.marks.hold given.hold, watch := wanted b.marks.watch given.watch
          noCount := if c = .service then wanted b.marks.noCount given.noCount else b.marks.noCount
          lampTest := if c = .service then wanted b.marks.lampTest given.lampTest else b.marks.lampTest }
     let masked := c ≠ .service ∧ (given.noCount = true ∨ given.lampTest = true ∨
        (m = .replace ∧ ((b.marks.noCount = true ∧ given.noCount = false) ∨
          (b.marks.lampTest = true ∧ given.lampTest = false))))
     ∃ t r, exec (.changeBay h bay mode marks) s = .next t ∧
      Table.get t.bays bay = some { b with marks := new } ∧
      (∀ n, n ≠ bay → Table.get t.bays n = Table.get s.bays n) ∧
      (r = Result.okMasked ↔ masked) ∧ (r = Result.ok ↔ ¬masked) ∧
      s.answers t h (.changeBay bay mode marks) r (bayView bay (some { b with marks := new })) ∧
      s.recountsOnly t b.zone ∧ s.recounted t ∧ s.keepsBut t [.serviceKey, .places h.port, .bays, .zones, .signs])

/-- R15: RESERVE_BAY on a FREE bay without HOLD makes it RESERVED with the holder's tag and an expiry of
60 seconds for each minute of the hold; on any other bay it is answered NOT_FREE and changes nothing. R16:
RELEASE_BAY by the reservation's holder, or by SERVICE, removes the reservation; a RESERVED bay becomes FREE
and any other keeps its state. Another tag is answered NOT_HOLDER, a bay without a reservation NO_SUCH, and
nothing changes. The zone's counts and its signs follow the bays. -/
def Obligations.ReserveAndReleaseBay : Prop :=
  (∀ (h : Head) (c : Cls) (s : State) (bay holder hold : Nat) (b : Bay),
     s.accepts h c → bay ≤ 2047 → 1 ≤ holder → holder ≤ 65535 → 1 ≤ hold → hold ≤ 240 →
     Table.get s.bays bay = some b → s.permits c (zoneSingle b.zone) = true →
     (b.state = .free → b.marks.hold = false →
       let b' := { b with
         state := .reserved
         reservation := some { tag := holder, expiry := s.seconds + BitVec.ofNat 32 (60 * hold) }
         since := s.seconds }
       ∃ t, exec (.reserveBay h bay holder hold) s = .next t ∧
         Table.get t.bays bay = some b' ∧ (∀ n, n ≠ bay → Table.get t.bays n = Table.get s.bays n) ∧
         (s.watched bay b b').answers t h (.reserveBay bay holder hold) .ok (bayView bay (some b')) ∧
         s.recountsOnly t b.zone ∧ s.recounted t ∧
         (s.watched bay b b').keepsBut t [.serviceKey, .places h.port, .bays, .zones, .signs]) ∧
     ((b.state ≠ .free ∨ b.marks.hold = true) →
       ∃ t, exec (.reserveBay h bay holder hold) s = .next t ∧
         s.answers t h (.reserveBay bay holder hold) .notFree [] ∧
         s.keepsBut t [.serviceKey, .places h.port])) ∧
  (∀ (h : Head) (c : Cls) (s : State) (bay holder : Nat) (b : Bay),
     s.accepts h c → bay ≤ 2047 → 1 ≤ holder → holder ≤ 65535 →
     Table.get s.bays bay = some b → s.permits c (zoneSingle b.zone) = true →
     (∀ r, b.reservation = some r → (r.tag = holder ∨ c = .service) →
       let b' := { b with
         state := if b.state = .reserved then .free else b.state
         reservation := none
         since := if b.state = .reserved then s.seconds else b.since }
       ∃ t, exec (.releaseBay h bay holder) s = .next t ∧
         Table.get t.bays bay = some b' ∧ (∀ n, n ≠ bay → Table.get t.bays n = Table.get s.bays n) ∧
         (s.watched bay b b').answers t h (.releaseBay bay holder) .ok (bayView bay (some b')) ∧
         s.recountsOnly t b.zone ∧ s.recounted t ∧
         (s.watched bay b b').keepsBut t [.serviceKey, .places h.port, .bays, .zones, .signs]) ∧
     (∀ r, b.reservation = some r → r.tag ≠ holder → c ≠ .service →
       ∃ t, exec (.releaseBay h bay holder) s = .next t ∧
         s.answers t h (.releaseBay bay holder) .notHolder [] ∧ s.keepsBut t [.serviceKey, .places h.port]) ∧
     (b.reservation = none →
       ∃ t, exec (.releaseBay h bay holder) s = .next t ∧
         s.answers t h (.releaseBay bay holder) .noSuch [] ∧ s.keepsBut t [.serviceKey, .places h.port]))

/-- R19, R21, R113: DEFINE_BAY from SERVICE gives an undefined number an UNKNOWN bay with empty marks, no
reservation and the current second. RETIRE_BAY is answered FIRE_LOCK in fire mode and outside it IN_USE while
the bay holds a reservation; otherwise it makes the bay undefined, and its reply shows it as it stood. The
other bays stand, and of the zones and signs only the bay's zone's counts and its signs can move, and they
follow the bays. -/
def Obligations.DefineAndRetireBay : Prop :=
  (∀ (h : Head) (s : State) (bay zone node channel kind : Nat) (k : Kind),
    s.accepts h .service → bay ≤ 2047 → zone ≤ 31 → node ≤ 255 → channel ≤ 15 → Kind.ofCode kind = some k →
    Table.get s.bays bay = none → Table.has s.zones zone = true → s.kindOf node = some .sensor →
    (∀ n b, (n, b) ∈ s.bays → ¬(b.node = node ∧ b.channel = channel)) →
    let b : Bay :=
      { zone := zone, node := node, channel := channel, kind := k
        marks := { hold := false, watch := false, noCount := false, lampTest := false }
        state := .unknown, confirm := 0, reservation := none, since := s.seconds }
    ∃ t, exec (.defineBay h bay zone node channel kind) s = .next t ∧
      Table.get t.bays bay = some b ∧ (∀ n, n ≠ bay → Table.get t.bays n = Table.get s.bays n) ∧
      s.answers t h (.defineBay bay zone node channel kind) .ok (bayView bay (some b)) ∧
      s.recountsOnly t zone ∧ s.recounted t ∧ s.keepsBut t [.serviceKey, .places h.port, .bays, .zones, .signs]) ∧
  (∀ (h : Head) (s : State) (bay : Nat) (b : Bay),
    s.accepts h .service → bay ≤ 2047 → s.tablesSound → Table.get s.bays bay = some b →
    (s.fire.taken = true → s.refuses (.retireBay h bay) h (.retireBay bay) .fireLock) ∧
    (s.fire.taken = false → b.reservation.isSome = true →
      s.refuses (.retireBay h bay) h (.retireBay bay) .inUse) ∧
    (s.fire.taken = false → b.reservation = none →
      ∃ t, exec (.retireBay h bay) s = .next t ∧
        Table.get t.bays bay = none ∧ (∀ n, n ≠ bay → Table.get t.bays n = Table.get s.bays n) ∧
        s.answers t h (.retireBay bay) .ok (bayView bay (some b)) ∧
        s.recountsOnly t b.zone ∧ s.recounted t ∧ s.keepsBut t [.serviceKey, .places h.port, .bays, .zones, .signs]))

/-- R20, R30 to R32: REDEFINE_BAY from SERVICE puts the given zone, node, channel and kind in place, the
marks and any reservation kept; a new node or channel takes the bay to UNKNOWN with confirm 0. The other bays
stand. The bay is counted out of its old zone and into the new: of the zones only those two change, in their
counts and fill state, which follow their bays; of the signs only those that depend on one of the two, in
their content and dirty flag, which follow the zones. -/
def Obligations.RedefineBayMoves : Prop :=
  ∀ (h : Head) (s : State) (bay zone node channel kind : Nat) (k : Kind) (b : Bay),
    s.accepts h .service → bay ≤ 2047 → zone ≤ 31 → node ≤ 255 → channel ≤ 15 → Kind.ofCode kind = some k →
    Table.get s.bays bay = some b → Table.has s.zones zone = true → s.kindOf node = some .sensor →
    (∀ n b', (n, b') ∈ s.bays → n ≠ bay → ¬(b'.node = node ∧ b'.channel = channel)) →
    let moved := ¬(node = b.node ∧ channel = b.channel)
    let b' := { b with
      zone := zone, node := node, channel := channel, kind := k
      state := if moved then .unknown else b.state
      confirm := if moved then 0 else b.confirm
      since := if moved ∧ b.state ≠ .unknown then s.seconds else b.since }
    ∃ t, exec (.redefineBay h bay zone node channel kind) s = .next t ∧
      Table.get t.bays bay = some b' ∧ (∀ n, n ≠ bay → Table.get t.bays n = Table.get s.bays n) ∧
      s.recountsBoth t b.zone zone ∧ s.recounted t ∧
      (s.watched bay b b').answers t h (.redefineBay bay zone node channel kind) .ok (bayView bay (some b')) ∧
      (s.watched bay b b').keepsBut t [.serviceKey, .places h.port, .bays, .zones, .signs]

/-- R17: at the expiry of a bay's reservation it is removed, a RESERVED bay becomes FREE, and
RESERVATION_EXPIRED is raised in both sets, after any WATCH_CHANGE. The zone's counts and its signs follow
the bays. An expiry that finds no reservation has no effect. -/
def Obligations.ReservationExpires : Prop :=
  ∀ (s : State) (bay : Nat) (b : Bay) (r : Reservation), Table.get s.bays bay = some b →
    (b.reservation = some r → r.expiry = s.seconds →
      let b' := { b with
        state := if b.state = .reserved then .free else b.state
        reservation := none
        since := if b.state = .reserved then s.seconds else b.since }
      ∃ t, exec (.reservationExpiry bay) s = .next t ∧
        Table.get t.bays bay = some b' ∧ (∀ n, n ≠ bay → Table.get t.bays n = Table.get s.bays n) ∧
        (∀ p, Table.get (t.port p).att.bay bay = some .reservationExpired ∧
          ∀ n, n ≠ bay → Table.get (t.port p).att.bay n = Table.get (s.port p).att.bay n) ∧
        s.recountsOnly t b.zone ∧ s.recounted t ∧
        ((s.watched bay b b').raise .bay bay .reservationExpired).keepsBut t [.bays, .zones, .signs]) ∧
    (b.reservation = none → exec (.reservationExpiry bay) s = .next s)

/-- R3 to R7, R9, R61, R137: what a reading of its channel makes of a bay: arriving, confirmed, back to
vacant, leaving, confirmed gone, or UNKNOWN with its count lost and its reservation kept. A confirmed arrival
consumes the reservation. It and a confirmed departure are movements: the zone's credit grows, to 100 at most,
and each luminaire group of the zone that is not FORCED is ACTIVE at its active level with a fresh hold; no
other reading does this. A new state of a bay that carries WATCH raises its item. The zone's counts and its
signs follow the bays; the other bays, zones, groups and signs, and everything else, stand. -/
def Obligations.ReadingsMoveTheBay : Prop :=
  ∀ (s : State) (bay : Nat) (b : Bay) (z : Zone), s.tablesSound →
    Table.get s.bays bay = some b → Table.get s.zones b.zone = some z →
    (∀ e ∈ s.bays, e.1 ≠ bay → ¬(e.2.node = b.node ∧ e.2.channel = b.channel)) →
    let na := s.settings.arrivalConfirm
    let nd := s.settings.departureConfirm
    let becomes := fun (r : Reading) (b' : Bay) (movement : Option Nat) =>
      let t := s.applyReading b.node b.channel r
      let credit : Nat := match movement with
        | none => z.air.credit
        | some c => min 100 (z.air.credit + c)
      let credited := s.withZones (Table.set s.zones b.zone { z with air := { z.air with credit := credit } })
      Table.get t.bays bay = some { b' with since := if b'.state = b.state then b.since else s.seconds } ∧
      (∀ n, n ≠ bay → Table.get t.bays n = Table.get s.bays n) ∧
      credited.recountsOnly t b.zone ∧ credited.recounted t ∧
      (∀ k, Table.get t.lights k = (Table.get s.lights k).map (fun l =>
        if movement.isSome = true ∧ l.zone = b.zone ∧ l.state ≠ .forced then
          { l with
            state := .active, policy := l.settings.active, nextRamp := none
            holdExpiry := some (s.seconds + BitVec.ofNat 32 l.settings.hold)
            level := (l.ovr.map (fun o => o.level)).getD l.settings.active }
        else l)) ∧
      (s.watched bay b b').keepsBut t [.bays, .zones, .signs, .lights]
    let occupied : Bay := { b with state := .occupied, confirm := 0, reservation := none }
    let arrival := some z.settings.arrivalCredit
    let departure := some z.settings.departureCredit
    (b.state = .free ∨ b.state = .reserved ∨ b.state = .unknown →
      (na ≤ 1 → becomes .present occupied arrival) ∧
      (1 < na → becomes .present { b with state := .arriving, confirm := 1 } none)) ∧
    (b.state = .arriving →
      (na ≤ b.confirm + 1 → becomes .present occupied arrival) ∧
      (b.confirm + 1 < na → becomes .present { b with confirm := b.confirm + 1 } none)) ∧
    (b.state = .arriving ∨ b.state = .unknown →
      becomes .vacant { b with
        state := if b.reservation.isSome then .reserved else .free, confirm := 0 } none) ∧
    (b.state = .free ∨ b.state = .reserved → becomes .vacant b none) ∧
    (b.state = .occupied → becomes .present b none ∧
      (nd ≤ 1 → becomes .vacant { b with state := .free, confirm := 0 } departure) ∧
      (1 < nd → becomes .vacant { b with state := .leaving, confirm := 1 } none)) ∧
    (b.state = .leaving → becomes .present { b with state := .occupied, confirm := 0 } none ∧
      (nd ≤ b.confirm + 1 → becomes .vacant { b with state := .free, confirm := 0 } departure) ∧
      (b.confirm + 1 < nd → becomes .vacant { b with confirm := b.confirm + 1 } none)) ∧
    (∀ r, r = .fault ∨ r = .unused → becomes r { b with state := .unknown, confirm := 0 } none)

/-! ### Zones (spec/02) -/

/-- R35, R36: CLOSE_ZONE adds the OPERATOR cause and OPEN_ZONE removes it, from SERVICE or from a
permitted OPERATOR; a changed set marks the zone's signs, an unchanged one marks none. FACILITY is
answered DENIED, and a permitted class naming an undefined zone NO_SUCH; nothing changes then. -/
def Obligations.CloseAndOpenZone : Prop :=
  ∀ (h : Head) (c : Cls) (s : State) (zone : Nat) (cmd : Instr) (body : Request) (closed : Bool),
    s.accepts h c → zone ≤ 31 →
    (cmd = .closeZone h zone ∧ body = .closeZone zone ∧ closed = true ∨
      cmd = .openZone h zone ∧ body = .openZone zone ∧ closed = false) →
    (c = .facility → s.refuses cmd h body .denied) ∧
    (c = .operator → s.operatorMap.getLsbD zone = false → s.refuses cmd h body .denied) ∧
    (c = .service ∨ (c = .operator ∧ s.operatorMap.getLsbD zone = true) →
      (Table.get s.zones zone = none → s.refuses cmd h body .noSuch) ∧
      ∀ z, Table.get s.zones zone = some z →
        let z' := { z with causes := { z.causes with operator := closed } }
        ∃ t, exec cmd s = .next t ∧ Table.get t.zones zone = some z' ∧
          (∀ k, k ≠ zone → Table.get t.zones k = Table.get s.zones k) ∧
          s.signsMarked t zone (decide (z.causes.operator ≠ closed)) ∧
          s.answers t h body .ok (zoneView zone z' (s.headCount zone)) ∧
          s.keepsBut t [.serviceKey, .places h.port, .zones, .signs])

/-- R41, R43: DEFINE_ZONE from SERVICE makes an undefined zone with its counts 0, FULL, closed by FIRE
exactly while fire mode is active, and its air state at the start values; a set of settings that is
not consistent is answered BAD_VALUE, a defined zone EXISTS. RETIRE_ZONE makes a zone to which nothing
refers undefined outside fire mode, its number leaving the fume set (R141), and is answered FIRE_LOCK
within it. -/
def Obligations.DefineAndRetireZone : Prop :=
  (∀ (h : Head) (s : State) (zone level : Nat) (fields : ZoneFields),
    s.accepts h .service → zone ≤ 31 → 1 ≤ level → level ≤ 8 → fieldsInRange fields = true →
    (Table.has s.zones zone = true →
      s.refuses (.defineZone h zone level fields) h (.defineZone zone level fields) .alreadyDefined) ∧
    (Table.has s.zones zone = false →
      (fieldsApplied fields ZoneSettings.default).consistent level = false →
      s.refuses (.defineZone h zone level fields) h (.defineZone zone level fields) .badValue) ∧
    (Table.has s.zones zone = false →
      (fieldsApplied fields ZoneSettings.default).consistent level = true →
      let z : Zone :=
        { level := level
          tallies := { unknown := 0, free := 0, reserved := 0, arriving := 0, occupied := 0, leaving := 0 }
          total := 0
          free := { general := 0, family := 0, accessible := 0, charger := 0 }
          fill := .full
          causes := { operator := false, fume := false, air := false, fire := s.fire.taken }
          settings := fieldsApplied fields ZoneSettings.default
          air := AirState.start (fieldsApplied fields ZoneSettings.default).minDemand }
      ∃ t, exec (.defineZone h zone level fields) s = .next t ∧ Table.get t.zones zone = some z ∧
        (∀ k, k ≠ zone → Table.get t.zones k = Table.get s.zones k) ∧
        s.answers t h (.defineZone zone level fields) .ok (zoneView zone z (s.headCount zone)) ∧
        s.keepsBut t [.serviceKey, .places h.port, .zones])) ∧
  (∀ (h : Head) (s : State) (zone : Nat) (z : Zone),
    s.accepts h .service → zone ≤ 31 → s.tablesSound → Table.get s.zones zone = some z →
    (s.fire.taken = true → s.refuses (.retireZone h zone) h (.retireZone zone) .fireLock) ∧
    (s.fire.taken = false →
      (∀ e ∈ s.bays, e.2.zone ≠ zone) → (∀ e ∈ s.nodes, e.2.zone ≠ some zone) →
      (∀ e ∈ s.lights, e.2.zone ≠ zone) → (∀ e ∈ s.fans, e.2.served.getLsbD zone = false) →
      (∀ e ∈ s.signs, e.2.config.dependsOn zone = false) →
      ∃ t, exec (.retireZone h zone) s = .next t ∧ Table.get t.zones zone = none ∧
        (∀ k, k ≠ zone → Table.get t.zones k = Table.get s.zones k) ∧
        t.fumeSet = s.fumeSet &&& ~~~(zoneSingle zone) ∧
        s.answers t h (.retireZone zone) .ok (zoneView zone z (s.headCount zone)) ∧
        s.keepsBut t [.serviceKey, .places h.port, .zones, .fumeSet]))

/-- R42, R72: SET_ZONE from SERVICE puts the given values in place together: a changed weight makes that
gas's average absent, a changed full-at or hysteresis judges the fill state at once, and a changed fill
state marks the zone's signs. A resulting set that is not consistent is answered BAD_VALUE. -/
def Obligations.SetZoneApplies : Prop :=
  ∀ (h : Head) (s : State) (zone : Nat) (level : Option Nat) (fields : ZoneFields) (z : Zone),
    s.accepts h .service → zone ≤ 31 → (∀ v, level = some v → 1 ≤ v ∧ v ≤ 8) → fieldsInRange fields = true →
    Table.get s.zones zone = some z →
    let st := fieldsApplied fields z.settings
    let lv := level.getD z.level
    (st.consistent lv = false → s.refuses (.setZone h zone level fields) h (.setZone zone level fields) .badValue) ∧
    (st.consistent lv = true →
      let z' := { z with
        level := lv
        settings := st
        air := { z.air with
          coAvg := if st.co.weight ≠ z.settings.co.weight then none else z.air.coAvg
          no2Avg := if st.no2.weight ≠ z.settings.no2.weight then none else z.air.no2Avg }
        fill := if st.fullAt ≠ z.settings.fullAt ∨ st.hysteresis ≠ z.settings.hysteresis
          then judgeFill z.fill z.free.guidance st.fullAt st.hysteresis else z.fill }
      ∃ t, exec (.setZone h zone level fields) s = .next t ∧ Table.get t.zones zone = some z' ∧
        (∀ k, k ≠ zone → Table.get t.zones k = Table.get s.zones k) ∧
        s.signsMarked t zone (decide (z'.fill ≠ z.fill)) ∧
        s.answers t h (.setZone zone level fields) .ok (zoneView zone z' (s.headCount zone)) ∧
        s.keepsBut t [.serviceKey, .places h.port, .zones, .signs])

/-! ### Reads (spec/02, 04, 06, 07, 08, 09) -/

/-- R44, R100, R133, R152, R171: each record read answers a defined record's view of this moment and an
undefined number NO_SUCH, and changes nothing. R184: READ_STATUS gives the status view in the order of
R197; the slot expiry of an idle slot is a free value (log 17), and nothing in the statement rests on it. -/
def Obligations.ReadsReport : Prop :=
  ∀ (h : Head) (c : Cls) (s : State), s.accepts h c →
    (∀ n, n ≤ 31 → (Table.get s.zones n = none → s.refuses (.readZone h n) h (.readZone n) .noSuch) ∧
      ∀ z, Table.get s.zones n = some z → ∃ t, exec (.readZone h n) s = .next t ∧
        s.answers t h (.readZone n) .ok (zoneView n z (s.headCount n)) ∧
        s.keepsBut t [.serviceKey, .places h.port]) ∧
    (∀ n, n ≤ 23 → (Table.get s.fans n = none → s.refuses (.readFan h n) h (.readFan n) .noSuch) ∧
      ∀ g, Table.get s.fans n = some g → ∃ t, exec (.readFan h n) s = .next t ∧
        s.answers t h (.readFan n) .ok (s.fanView n g) ∧ s.keepsBut t [.serviceKey, .places h.port]) ∧
    (∀ n, n ≤ 63 → (Table.get s.signs n = none → s.refuses (.readSign h n) h (.readSign n) .noSuch) ∧
      ∀ g, Table.get s.signs n = some g → ∃ t, exec (.readSign h n) s = .next t ∧
        s.answers t h (.readSign n) .ok (signView n g) ∧ s.keepsBut t [.serviceKey, .places h.port]) ∧
    (∀ n, n ≤ 47 → (Table.get s.lights n = none → s.refuses (.readLight h n) h (.readLight n) .noSuch) ∧
      ∀ l, Table.get s.lights n = some l → ∃ t, exec (.readLight h n) s = .next t ∧
        s.answers t h (.readLight n) .ok (lightView n l) ∧ s.keepsBut t [.serviceKey, .places h.port]) ∧
    (∀ n, n ≤ 255 → (Table.get s.nodes n = none → s.refuses (.readNode h n) h (.readNode n) .noSuch) ∧
      ∀ d, Table.get s.nodes n = some d → ∃ t, exec (.readNode h n) s = .next t ∧
        s.answers t h (.readNode n) .ok (nodeView n d (s.span d.span).stuck.isSome) ∧
        s.keepsBut t [.serviceKey, .places h.port]) ∧
    ∃ (t : State) (e : Seconds), exec (.readStatus h) s = .next t ∧ (∀ v, s.slot = some v → e = v) ∧
      s.answers t h .readStatus .ok
        (secondsBytes s.seconds ++ [flagByte h.key, byte s.rate.toNat, flagByte s.fire.taken,
          flagByte s.fire.taken, flagByte s.fire.change.isSome] ++ optByte s.fire.zone ++
          optByte (s.fire.pendingZone.map (fun z => z.1)) ++
          [flagByte s.span0.stuck.isSome, flagByte s.span1.stuck.isSome, flagByte s.span2.stuck.isSome,
            flagByte s.span3.stuck.isSome, flagByte s.slot.isSome] ++ secondsBytes e ++
          [byte s.queue.length] ++ bytes2 s.bays.length ++ [byte s.zones.length] ++ bytes2 s.nodes.length ++
          [byte s.fans.length, byte s.lights.length, byte s.signs.length] ++
          zoneSetBytes s.facilityMap ++ zoneSetBytes s.operatorMap ++ s.settings.bytes ++
          [flagByte (s.port h.port).waiting.isSome]) ∧
      s.keepsBut t ([.serviceKey, .places h.port] ++ if s.slot = none then [.freeCount] else [])

/-! ### Fan groups (spec/04) -/

/-- R82, R83: PUSH_OVERRIDE places an entry on top and POP_OVERRIDE takes the top entry off, each with
the target of R85 at once; a top entry of higher rank is answered OUTRANKED, a stack of 4 STACK_FULL, an
empty one STACK_EMPTY, and nothing changes then. R85: the target is the level of a FIRE entry on top; else
100 where a served zone is in FUME; else the level of the top entry; else the greatest demand of the served
zones. -/
def Obligations.OverridesPushAndPop : Prop :=
  (∀ (h : Head) (c : Cls) (s : State) (group level tag : Nat) (duration : Option Nat) (g : Fan),
     s.accepts h c → group ≤ 23 → level ≤ 100 → (∀ d, duration = some d → 1 ≤ d ∧ d ≤ 86400) → tag ≤ 255 →
     Table.get s.fans group = some g → s.permits c g.served = true →
     (let body : Request := .pushOverride group level duration tag
      let stack := g.stack ++ [{ cls := c, level := level, tag := tag
                                 expiry := duration.map (fun d => s.seconds + BitVec.ofNat 32 d) }]
      let g' := { g with stack := stack, target := s.targetOf { g with stack := stack } }
      (∀ e, g.stack.getLast? = some e → c.rank < e.cls.rank →
        s.refuses (.pushOverride h group level duration tag) h body .outranked) ∧
      ((∀ e, g.stack.getLast? = some e → e.cls.rank ≤ c.rank) → 4 ≤ g.stack.length →
        s.refuses (.pushOverride h group level duration tag) h body .stackFull) ∧
      ((∀ e, g.stack.getLast? = some e → e.cls.rank ≤ c.rank) → g.stack.length < 4 →
        ∃ t, exec (.pushOverride h group level duration tag) s = .next t ∧
          Table.get t.fans group = some g' ∧ (∀ n, n ≠ group → Table.get t.fans n = Table.get s.fans n) ∧
          s.answers t h body .ok (s.fanView group g') ∧ s.keepsBut t [.serviceKey, .places h.port, .fans])) ∧
     (let body : Request := .popOverride group
      let g' := { g with stack := g.stack.dropLast, target := s.targetOf { g with stack := g.stack.dropLast } }
      (g.stack = [] → s.refuses (.popOverride h group) h body .stackEmpty) ∧
      ∀ e, g.stack.getLast? = some e →
        (e.cls = .fire ∨ c.rank < e.cls.rank → s.refuses (.popOverride h group) h body .outranked) ∧
        (e.cls ≠ .fire → e.cls.rank ≤ c.rank → ∃ t, exec (.popOverride h group) s = .next t ∧
          Table.get t.fans group = some g' ∧ (∀ n, n ≠ group → Table.get t.fans n = Table.get s.fans n) ∧
          s.answers t h body .ok (s.fanView group g') ∧ s.keepsBut t [.serviceKey, .places h.port, .fans]))) ∧
  (∀ (s : State) (g : Fan),
     (∀ e, g.stack.getLast? = some e → e.cls = .fire → s.targetOf g = e.level) ∧
     ((∀ e, g.stack.getLast? = some e → e.cls ≠ .fire) →
       ((∃ k z, g.served.getLsbD k = true ∧ Table.get s.zones k = some z ∧ z.air.fume = .fume) →
         s.targetOf g = 100) ∧
       ((∀ k z, g.served.getLsbD k = true → Table.get s.zones k = some z → z.air.fume ≠ .fume) →
         (∀ e, g.stack.getLast? = some e → s.targetOf g = e.level) ∧
         (g.stack = [] →
           (∀ k z, g.served.getLsbD k = true → Table.get s.zones k = some z → z.air.zoneDemand ≤ s.targetOf g) ∧
           (s.targetOf g = 0 ∨
             ∃ k z, g.served.getLsbD k = true ∧ Table.get s.zones k = some z ∧ z.air.zoneDemand = s.targetOf g)))))

/-- R94, R95: ISOLATE from SERVICE outside fire mode makes every defined group of the mask ISOLATED,
the others left as they were; the groups isolated leave the queue. The reply lists, for each defined group
of the mask in rising order, its number, whether it changed and its state. Beside the groups, the queue, the
request's place and SERVICE KEY's sample, only air statuses, AIR causes, signs' contents and dirty flags, and
the pending items with their lines can move (R70): receivers, waiting places, enables and the other port's
places stand. -/
def Obligations.IsolateTakesOut : Prop :=
  ∀ (h : Head) (s : State) (groups : BitVec 32),
    s.accepts h .service → groups.toNat < 16777216 →
    let named := fun n => groups.getLsbD n && (Table.get s.fans n).isSome
    let body : Request := .fanControl groups 0
    ((∀ n, named n = false) → groups ≠ 0 → s.refuses (.fanControlIsolate h groups) h body .noSuch) ∧
    ((∃ n, named n = true) → s.fire.taken = true →
      s.refuses (.fanControlIsolate h groups) h body .fireLock) ∧
    ((∃ n, named n = true) → s.fire.taken = false →
      let ns := (List.range 24).filter named
      ∃ t, exec (.fanControlIsolate h groups) s = .next t ∧
        (∀ n, Table.get t.fans n = (Table.get s.fans n).map (fun g =>
          if groups.getLsbD n && decide (g.state ≠ .isolated)
          then { g with state := .isolated, commanded := 0, proof := none, faultCause := none } else g)) ∧
        t.queue = s.queue.filter (fun n =>
          !(groups.getLsbD n && (Table.get s.fans n).any (fun g => decide (g.state ≠ .isolated)))) ∧
        (t.port h.port).service = some (answer h body .ok (byte ns.length :: ns.flatMap (fun n =>
          [byte n, flagByte ((Table.get s.fans n).any (fun g => decide (g.state ≠ .isolated))),
           byte FanState.isolated.code]))) ∧
        t.serviceKey = h.key ∧ (t.port h.port).waiting = (s.port h.port).waiting ∧ s.airOnly t ∧
        s.keepsBut t [.serviceKey, .places h.port, .fans, .queue, .zones, .signs, .items .main, .items .panel])

/-- R94, R96: RESTORE returns the ISOLATED groups of the mask, and CLEAR_FAULT those in FAULT, to STOPPED;
their drives are judged, and a group whose drives are all failed is in FAULT with ALL_DRIVES. Groups in
any other state stand. -/
def Obligations.RestoreAndClearReturn : Prop :=
  ∀ (h : Head) (c : Cls) (s : State) (groups : BitVec 32) (cmd : Instr) (action : Nat) (out : FanState),
    s.accepts h c → groups.toNat < 16777216 →
    (cmd = .fanControlRestore h groups ∧ action = 1 ∧ out = .isolated ∧
        (c = .service ∨ c = .operator ∧
          ∀ n g, groups.getLsbD n = true → Table.get s.fans n = some g → s.permits .operator g.served = true) ∨
      cmd = .fanControlClearFault h groups ∧ action = 2 ∧ out = .fault ∧ c = .service) →
    let named := fun n => groups.getLsbD n && (Table.get s.fans n).isSome
    let body : Request := .fanControl groups action
    ((∀ n, named n = false) → groups ≠ 0 → s.refuses cmd h body .noSuch) ∧
    ((∃ n, named n = true) →
      let ns := (List.range 24).filter named
      let returned := fun g : Fan =>
        if g.state = out then s.drivesJudged { g with state := .stopped, faultCause := none } else g
      ∃ t, exec cmd s = .next t ∧
        (∀ n, Table.get t.fans n =
          (Table.get s.fans n).map (fun g => if groups.getLsbD n then returned g else g)) ∧
        (∀ n, n ∈ t.queue → n ∈ s.queue) ∧
        (t.port h.port).service = some (answer h body .ok (byte ns.length :: ns.flatMap (fun n =>
          [byte n, flagByte ((Table.get s.fans n).any (fun g => decide (g.state = out))),
           byte (((Table.get s.fans n).map (fun g => (returned g).state.code)).getD 0)]))) ∧
        t.serviceKey = h.key ∧ (t.port h.port).waiting = (s.port h.port).waiting ∧ s.airOnly t ∧
        s.keepsBut t [.serviceKey, .places h.port, .fans, .queue, .zones, .signs, .items .main, .items .panel])

/-- R97, R99: DEFINE_FAN from SERVICE makes a STOPPED group, its stack empty or its FIRE entry alone while
fire mode is active, its target computed and its drives judged; a defined group of the number is replaced
whole. RETIRE_FAN outside fire mode makes a group undefined. Either way the number has left the queue. -/
def Obligations.DefineAndRetireFan : Prop :=
  (∀ (h : Head) (s : State) (group : Nat) (zones : ZoneSet) (drives : List Nat) (fields : FanFields),
    s.accepts h .service → group ≤ 23 → zones ≠ 0 → 1 ≤ drives.length → drives.length ≤ 4 →
    fanFieldsInRange fields = true → s.zonesDefined zones = true →
    (∀ n ∈ drives, n ≤ 255 ∧ s.kindOf n = some .fan) → drives.Nodup →
    (∀ e ∈ s.fans, e.1 ≠ group → ∀ d ∈ e.2.drives, d.node ∉ drives) →
    (Table.has s.fans group = true → s.fire.taken = true →
      s.refuses (.defineFan h group zones drives fields) h (.defineFan group zones drives fields) .fireLock) ∧
    (Table.has s.fans group = false ∨ s.fire.taken = false →
      let st := fanFieldsApplied fields FanSettings.default
      let g : Fan :=
        { served := zones, drives := drives.map (fun n => { node := n, report := none }), settings := st
          state := .stopped, target := 0, commanded := 0, grantedAt := none, proof := none
          degraded := false, faultCause := none
          stack := if s.fire.taken
            then [{ cls := .fire, expiry := none, tag := 0
                    level := if s.fire.zone.any (fun z => zones.getLsbD z) then st.fireIn else st.fireOut }]
            else [] }
      let g' := s.drivesJudged { g with target := s.targetOf g }
      ∃ t, exec (.defineFan h group zones drives fields) s = .next t ∧
        Table.get t.fans group = some g' ∧ (∀ n, n ≠ group → Table.get t.fans n = Table.get s.fans n) ∧
        t.queue = s.queue.filter (fun n => decide (n ≠ group)) ∧
        (t.port h.port).service =
          some (answer h (.defineFan group zones drives fields) .ok (t.fanView group g')) ∧
        t.serviceKey = h.key ∧ (t.port h.port).waiting = (s.port h.port).waiting ∧ s.airOnly t ∧
        s.keepsBut t [.serviceKey, .places h.port, .fans, .queue, .zones, .signs, .items .main, .items .panel])) ∧
  (∀ (h : Head) (s : State) (group : Nat) (g : Fan),
    s.accepts h .service → s.tablesSound → group ≤ 23 → Table.get s.fans group = some g →
    (s.fire.taken = true → s.refuses (.retireFan h group) h (.retireFan group) .fireLock) ∧
    (s.fire.taken = false →
      ∃ t, exec (.retireFan h group) s = .next t ∧
        Table.get t.fans group = none ∧ (∀ n, n ≠ group → Table.get t.fans n = Table.get s.fans n) ∧
        t.queue = s.queue.filter (fun n => decide (n ≠ group)) ∧
        (t.port h.port).service = some (answer h (.retireFan group) .ok (s.fanView group g)) ∧
        t.serviceKey = h.key ∧ (t.port h.port).waiting = (s.port h.port).waiting ∧ s.airOnly t ∧
        s.keepsBut t [.serviceKey, .places h.port, .fans, .queue, .zones, .signs, .items .main, .items .panel]))

/-- R98: SET_FAN from SERVICE outside fire mode puts the given values in place together: a RUNNING group
below a new Vmin is raised to it, new served zones recompute the target, and a new drive list keeps the
reports of the drives that stay and judges the drives. In fire mode it is answered FIRE_LOCK. -/
def Obligations.SetFanApplies : Prop :=
  ∀ (h : Head) (s : State) (group : Nat) (zones : Option ZoneSet) (drives : Option (List Nat))
    (fields : FanFields) (g : Fan),
    s.accepts h .service → group ≤ 23 → fanFieldsInRange fields = true →
    (∀ z, zones = some z → z ≠ 0 ∧ s.zonesDefined z = true) →
    (∀ l, drives = some l → 1 ≤ l.length ∧ l.length ≤ 4 ∧ l.Nodup ∧
      (∀ n ∈ l, n ≤ 255 ∧ s.kindOf n = some .fan) ∧
      ∀ e ∈ s.fans, e.1 ≠ group → ∀ d ∈ e.2.drives, d.node ∉ l) →
    Table.get s.fans group = some g →
    let body : Request := .setFan group zones drives fields
    let zs := zones.getD g.served
    let ds := drives.getD (g.drives.map (fun d => d.node))
    let st := fanFieldsApplied fields g.settings
    let g1 := { g with
      served := zs
      settings := st
      drives := ds.map (fun n =>
        { node := n, report := (g.drives.find? (fun d => decide (d.node = n))).bind (fun d => d.report) })
      commanded := if g.state = .running ∧ st.vmin ≠ g.settings.vmin ∧ g.commanded < st.vmin
        then st.vmin else g.commanded }
    let g2 := if zs = g.served then g1 else { g1 with target := s.targetOf g1 }
    let g3 := if ds = g.drives.map (fun d => d.node) then g2 else s.drivesJudged g2
    (s.fire.taken = true → s.refuses (.setFan h group zones drives fields) h body .fireLock) ∧
    (s.fire.taken = false → ∃ t, exec (.setFan h group zones drives fields) s = .next t ∧
      Table.get t.fans group = some g3 ∧ (∀ n, n ≠ group → Table.get t.fans n = Table.get s.fans n) ∧
      (t.port h.port).service = some (answer h body .ok (t.fanView group g3)) ∧
      t.serviceKey = h.key ∧ (t.port h.port).waiting = (s.port h.port).waiting ∧ s.airOnly t ∧
      s.keepsBut t [.serviceKey, .places h.port, .fans, .queue, .zones, .signs, .items .main, .items .panel])

/-- R86 to R89, R91, R92: what a fan step does to one group, its target recomputed first: a STOPPED group with
a target joins, behind the last waiter whose top entry is FIRE when its own is FIRE and else at the tail, and
an idle slot grants it at once; a WAITING one without a target leaves the queue; a RUNNING one moves toward its
goal, or winds down and stops. The other groups stand. -/
def Obligations.FanStepMovesOneGroup : Prop :=
  ∀ (s : State) (group : Nat) (g0 : Fan), Table.get s.fans group = some g0 →
    let g : Fan := { g0 with target := s.targetOf g0 }
    let t := s.stepGroup group
    let goal : Nat := max g.target g.settings.vmin
    let fire : Bool := g.stack.getLast?.any (fun e => decide (e.cls = .fire))
    (∀ n, n ≠ group → Table.get t.fans n = Table.get s.fans n) ∧
    (g.state = .isolated ∨ g.state = .fault → t = s.changeFan group (fun _ => g)) ∧
    (g.state = .stopped → g.target = 0 → t = s.changeFan group (fun _ => g)) ∧
    (g.state = .stopped → 0 < g.target → s.slot = none →
      Table.get t.fans group = some { g with
        state := .running
        grantedAt := some s.seconds
        proof := some { expiry := s.seconds + BitVec.ofNat 32 s.settings.proofTime, proven := false }
        commanded := if fire then goal else g.settings.vmin } ∧
      t.slot = some (s.seconds + BitVec.ofNat 32 s.settings.startInterval) ∧
      t.queue = s.queue.filter (fun n => decide (n ≠ group)) ∧ s.keepsBut t [.fans, .queue, .slot]) ∧
    (g.state = .stopped → 0 < g.target → s.slot ≠ none →
      Table.get t.fans group = some { g with state := .waiting } ∧
      (fire = false → t.queue = s.queue ++ [group]) ∧
      (fire = true → ∃ ahead behind, s.queue = ahead ++ behind ∧ t.queue = ahead ++ group :: behind ∧
        (∀ n ∈ behind, s.isFireWaiter n = false) ∧ (∀ n, ahead.getLast? = some n → s.isFireWaiter n = true)) ∧
      s.keepsBut t [.fans, .queue]) ∧
    (g.state = .waiting → 0 < g.target → t = s.changeFan group (fun _ => g)) ∧
    (g.state = .waiting → g.target = 0 →
      Table.get t.fans group = some { g with state := .stopped, commanded := 0, proof := none } ∧
      t.queue = s.queue.filter (fun n => decide (n ≠ group)) ∧ s.keepsBut t [.fans, .queue]) ∧
    (g.state = .running → 0 < g.target →
      Table.get t.fans group = some (s.drivesJudged { g with
        commanded :=
          if fire then goal
          else if g.commanded < goal then min goal (g.commanded + g.settings.su)
          else max goal (g.commanded - g.settings.sd) }) ∧ s.keepsBut t [.fans, .queue, .zones, .signs, .items .main, .items .panel]) ∧
    (g.state = .running → g.target = 0 →
      let stops : Prop := fire = true ∨ (g.commanded ≤ g.settings.vmin ∧
        ∀ v, g.grantedAt = some v → g.settings.minRun ≤ (s.seconds - v).toNat)
      (stops → Table.get t.fans group = some { g with state := .stopped, commanded := 0, proof := none }) ∧
      (¬stops → Table.get t.fans group = some { g with
        commanded := if g.settings.vmin < g.commanded then max g.settings.vmin (g.commanded - g.settings.sd)
          else g.commanded }) ∧
      s.keepsBut t [.fans])

/-- R86, R90, R91: FAN_STEP at its expiry sets the next one a period on and takes every defined group in
rising order; START_SLOT_EXPIRY grants the head of the queue and keeps the slot busy for one start interval,
or idles the slot when the queue is empty. A head whose target has fallen to 0 is granted like any other (R87,
R91), by the model's reading also where a FIRE entry of level 0 made it fall (log 43, R107 beside R108). On a
slot that is idle already the command has no effect (the model's choice, log 1). -/
def Obligations.FanStepAndStartSlot : Prop :=
  ∀ (s : State),
    (s.fanNext = s.seconds → ∃ t, exec .fanStep s = .next t ∧
      t = (s.fans.map (fun e => e.1)).foldl (fun u n => u.stepGroup n)
        { s with fanNext := s.seconds + BitVec.ofNat 32 s.settings.fanPeriod } ∧
      t.fanNext = s.seconds + BitVec.ofNat 32 s.settings.fanPeriod ∧
      s.keepsBut t [.fanNext, .fans, .queue, .slot, .zones, .signs, .items .main, .items .panel]) ∧
    (s.slot = some s.seconds → s.queue = [] → exec .startSlotExpiry s = .next { s with slot := none }) ∧
    (∀ group rest g, s.slot = some s.seconds → s.queue = group :: rest → group ∉ rest →
      Table.get s.fans group = some g →
      ∃ t, exec .startSlotExpiry s = .next t ∧
        Table.get t.fans group = some { g with
          state := .running
          grantedAt := some s.seconds
          proof := some { expiry := s.seconds + BitVec.ofNat 32 s.settings.proofTime, proven := false }
          commanded := if g.stack.getLast?.any (fun e => decide (e.cls = .fire))
            then max g.settings.vmin g.target else g.settings.vmin } ∧
        (∀ n, n ≠ group → Table.get t.fans n = Table.get s.fans n) ∧ t.queue = rest ∧
        t.slot = some (s.seconds + BitVec.ofNat 32 s.settings.startInterval) ∧
        s.keepsBut t [.fans, .queue, .slot]) ∧
    (s.slot = none → exec .startSlotExpiry s = .next s)

/-- R79, R80: at the expiry of a RUNNING group's proof timer the group enters FAULT, RUN_LOST if it was
proven and START_FAIL if not, leaves the queue, and a FAN item FAULT stands in both sets; without a proof
timer nothing happens. R84, R85: at the expiry of override entries those of them that are due at this
second leave the stack, the others keep their order, and the target follows. -/
def Obligations.ProofAndOverrideExpire : Prop :=
  ∀ (s : State) (group : Nat) (g : Fan), Table.get s.fans group = some g →
    (∀ p, g.state = .running → g.proof = some p → p.expiry = s.seconds →
      ∃ t, exec (.proofTimerExpiry group) s = .next t ∧
        Table.get t.fans group = some { g with
          state := .fault, commanded := 0, proof := none
          faultCause := some (if p.proven then .runLost else .startFail) } ∧
        (∀ n, n ≠ group → Table.get t.fans n = Table.get s.fans n) ∧
        t.queue = s.queue.filter (fun n => decide (n ≠ group)) ∧
        (∀ q, Table.get (t.port q).att.fan group = some .fault) ∧ s.airOnly t ∧
        s.keepsBut t [.fans, .queue, .zones, .signs, .items .main, .items .panel]) ∧
    (g.proof = none → exec (.proofTimerExpiry group) s = .next s) ∧
    ((∃ e ∈ g.stack, e.expiry = some s.seconds) →
      (∀ e ∈ g.stack, ∀ v, e.expiry = some v → v = s.seconds ∨ reached s.seconds v = false) →
      let stack := g.stack.filter (fun e => decide (e.expiry ≠ some s.seconds))
      ∃ t, exec (.overrideExpiry group) s = .next t ∧
        Table.get t.fans group =
          some { g with stack := stack, target := s.targetOf { g with stack := stack } } ∧
        (∀ n, n ≠ group → Table.get t.fans n = Table.get s.fans n) ∧ s.keepsBut t [.fans]) ∧
    ((∀ e ∈ g.stack, e.expiry = none) → exec (.overrideExpiry group) s = .next s)

/-! ### Air (spec/03) -/

/-- R56: one average updated from its zone sample s with weight w, d = 16 x s - A: it takes the sample
when it was absent, moves by d / 2^w with the fraction dropped, by 1 where that is 0 and d is not, never
passes 16 x s, and under a steady sample comes to 16 x s. Both gases of an evaluation of a zone with heads
are updated so. -/
def Obligations.AverageFollowsSample : Prop :=
  (∀ (w : Nat) (p : Peak) (a : Option Nat), updateAvg w none a = a ∧ updateAvg w (some p) none = some (16 * p.value)) ∧
  (∀ (w a : Nat) (p : Peak), w ≤ 5 →
    let d : Int := 16 * (p.value : Int) - (a : Int)
    let step : Int := if d ≠ 0 ∧ d.tdiv (2 ^ w) = 0 then d.sign else d.tdiv (2 ^ w)
    (∃ b : Nat, updateAvg w (some p) (some a) = some b ∧ (b : Int) = a + step ∧
      min a (16 * p.value) ≤ b ∧ b ≤ max a (16 * p.value)) ∧
    ∃ n, (updateAvg w (some p))^[n] (some a) = some (16 * p.value)) ∧
  ∀ (st : ZoneSettings) (co no2 : Option Peak) (a : AirState),
    (evaluateAir st true co no2 a).air.coAvg = updateAvg st.co.weight co a.coAvg ∧
    (evaluateAir st true co no2 a).air.no2Avg = updateAvg st.no2.weight no2 a.no2Avg

/-- R63 to R66: when the fume state moves, and when it stands. Without heads it is CLEAR; while BLIND, or with
both averages absent, state and counts are held. Else, by the present averages: CLEAR warns at the warning
level, and passes on to FUME with an average at the alarm level and an alarm confirm of 1; WARNING counts
evaluations at the alarm level and enters FUME at the confirm, enters CLEAR with every average below the
warning level less the hysteresis, and else starts its count again; FUME counts evaluations with every average
below the alarm level less the hysteresis and enters WARNING at the clear confirm. So a zone enters FUME only
from an average at its alarm level that completes the alarm confirm, and leaves it only to WARNING or for
want of heads. -/
def Obligations.FumeStateMoves : Prop :=
  ∀ (st : ZoneSettings) (hasHeads blind : Bool) (co no2 : Option Nat) (f : FumeCounts), 1 ≤ st.alarmConfirm →
    let g := judgeFume st hasHeads blind co no2 f
    let some' := fun (c n : Nat) => (∃ a, co = some a ∧ c ≤ a) ∨ (∃ a, no2 = some a ∧ n ≤ a)
    let every := fun (c n : Nat) => (∀ a, co = some a → a < c) ∧ (∀ a, no2 = some a → a < n)
    let atWarn := some' (16 * st.co.warn) (16 * st.no2.warn)
    let atAlarm := some' (16 * st.co.alarm) (16 * st.no2.alarm)
    let belowWarn := every (16 * (st.co.warn - st.co.hyst)) (16 * (st.no2.warn - st.no2.hyst))
    let belowAlarm := every (16 * (st.co.alarm - st.co.hyst)) (16 * (st.no2.alarm - st.no2.hyst))
    let clear : FumeCounts := { fume := .clear, alarm := 0, clear := 0 }
    let warning : FumeCounts := { fume := .warning, alarm := 0, clear := 0 }
    let fume : FumeCounts := { fume := .fume, alarm := 0, clear := 0 }
    (hasHeads = false → g = clear) ∧
    (hasHeads = true → (blind = true ∨ (co = none ∧ no2 = none)) → g = f) ∧
    (hasHeads = true → blind = false → (co.isSome = true ∨ no2.isSome = true) →
      (f.fume = .clear →
        (¬atWarn → g = clear) ∧
        (atWarn → ¬atAlarm → g = warning) ∧
        (atWarn → atAlarm → 1 < st.alarmConfirm → g = { warning with alarm := 1 }) ∧
        (atWarn → atAlarm → st.alarmConfirm = 1 → g = fume)) ∧
      (f.fume = .warning →
        (atAlarm → st.alarmConfirm ≤ f.alarm + 1 → g = fume) ∧
        (atAlarm → f.alarm + 1 < st.alarmConfirm → g = { f with alarm := f.alarm + 1 }) ∧
        (¬atAlarm → belowWarn → g = clear) ∧
        (¬atAlarm → ¬belowWarn → g = { f with alarm := 0 })) ∧
      (f.fume = .fume →
        (belowAlarm → st.clearConfirm ≤ f.clear + 1 → g = warning) ∧
        (belowAlarm → f.clear + 1 < st.clearConfirm → g = { f with clear := f.clear + 1 }) ∧
        (¬belowAlarm → g = { f with clear := 0 }))) ∧
    (f.fume ≠ .fume → g.fume = .fume → hasHeads = true ∧ blind = false ∧ atAlarm ∧
      ((f.fume = .warning ∧ st.alarmConfirm ≤ f.alarm + 1) ∨ (f.fume = .clear ∧ st.alarmConfirm = 1))) ∧
    (f.fume = .fume → g.fume ≠ .fume → hasHeads = false ∨
      (blind = false ∧ belowAlarm ∧ st.clearConfirm ≤ f.clear + 1 ∧ g.fume = .warning))

/-- R52, R53: AIR_EVALUATION_EXPIRY at its expiry sets the next one E on and evaluates every defined zone
once, in an order that is a free value (log 16). Before its expiry it has no effect (the model's choice,
log 1). R54: a gas's zone sample is the greatest of the present peaks, marked where one of them is. R53, R55,
R57 to R60, R62, R63, R67, R68, R71, R85: one zone's evaluation, by stages: the averages and over-range flags
from the samples, BLIND and its count, each gas's demand 0 up to the start level, 100 from the full level, in a
straight line between, and the blind demand of a BLIND zone or an absent average; the gas demand the greater
of the two; the fume state as judged from the averages (FumeStateMoves); the zone demand 100 in FUME and else
the greatest of its parts. Its heads' peaks are cleared; FUME and AIR follow a change of the fume state, the groups that serve the zone have their targets
recomputed at a change to or from FUME, and the items BLIND, FUME_ENTERED and FUME_LEFT
stand in both sets. Other zones and groups, and the nodes that are not its heads, stand. -/
def Obligations.AirEvaluationRuns : Prop :=
  (∀ (s : State),
     (s.airNext = s.seconds → ∃ (t : State) (order : List Nat), exec .airEvaluationExpiry s = .next t ∧
       order.Perm (s.zones.map (fun e => e.1)) ∧
       t = order.foldl (fun u z => u.evaluateZone z)
         { s with airNext := s.seconds + BitVec.ofNat 32 s.settings.airPeriod, freeCount := s.freeCount + 1 } ∧
       t.airNext = s.seconds + BitVec.ofNat 32 s.settings.airPeriod ∧
       s.keepsBut t [.airNext, .freeCount, .zones, .nodes, .signs, .lights, .fumeSet, .fans, .items .main,
         .items .panel]) ∧
     (reached s.seconds s.airNext = false → exec .airEvaluationExpiry s = .next s)) ∧
  (∀ peaks : List (Option Peak),
     (sampleOf peaks = none ↔ ∀ p ∈ peaks, p = none) ∧
     ∀ r, sampleOf peaks = some r →
       (∃ p ∈ peaks, ∃ q, p = some q ∧ q.value = r.value) ∧ (∀ p ∈ peaks, ∀ q, p = some q → q.value ≤ r.value) ∧
       (r.overRange = true ↔ ∃ p ∈ peaks, ∃ q, p = some q ∧ q.overRange = true)) ∧
  (∀ (s : State) (zone : Nat) (z : Zone), Table.get s.zones zone = some z →
     let heads := (s.nodes.filter (fun e => decide (e.2.kind = .gas) && decide (e.2.zone = some zone))).map (fun e => e.2.head)
     let co := sampleOf (heads.map (fun h => h.coPeak))
     let no2 := sampleOf (heads.map (fun h => h.no2Peak))
     let a := (evaluateAir z.settings (decide (heads ≠ [])) co no2 z.air).air
     let t := s.evaluateZone zone
     Table.get t.zones zone = some { z with
       air := a
       causes := { z.causes with
         fume := if a.fume = z.air.fume then z.causes.fume
           else if a.fume = .fume then true else if z.air.fume = .fume then false else z.causes.fume
         air := if a.fume = z.air.fume then z.causes.air
           else decide (z.air.status = .lost) && decide (a.fume ≠ .clear) } } ∧
     (∀ k, k ≠ zone → Table.get t.zones k = Table.get s.zones k) ∧
     (∀ n, Table.get t.nodes n = (Table.get s.nodes n).map (fun d =>
       if d.kind = .gas ∧ d.zone = some zone then { d with head := { d.head with coPeak := none, no2Peak := none } }
       else d)) ∧
     a.trafficDemand = z.air.credit ∧ a.credit = z.air.credit - z.settings.decay ∧ a.status = z.air.status ∧
     (heads = [] → a.coAvg = none ∧ a.no2Avg = none ∧ a.blind = false ∧ a.blindCount = 0 ∧ a.gasDemand = 0) ∧
     a.coOver = co.any (fun p => p.overRange) ∧ a.no2Over = no2.any (fun p => p.overRange) ∧
     (heads ≠ [] → a.coAvg = updateAvg z.settings.co.weight co z.air.coAvg ∧
       a.no2Avg = updateAvg z.settings.no2.weight no2 z.air.no2Avg) ∧
     (heads ≠ [] → co = none → no2 = none → a.blindCount = min 255 (z.air.blindCount + 1) ∧
       (a.blind = true ↔ z.air.blind = true ∨ z.settings.blindLimit ≤ a.blindCount)) ∧
     (co ≠ none ∨ no2 ≠ none → a.blind = false ∧ a.blindCount = 0) ∧
     (let demand := fun (g : GasSettings) (average : Option Nat) =>
        if a.blind = true then z.settings.blindDemand
        else match average with
          | none => z.settings.blindDemand
          | some x =>
            if x ≤ 16 * g.start then 0 else if 16 * g.full ≤ x then 100
            else (x - 16 * g.start) * 100 / (16 * (g.full - g.start))
      heads ≠ [] → a.gasDemand = max (demand z.settings.co a.coAvg) (demand z.settings.no2 a.no2Avg)) ∧
     ({ fume := a.fume, alarm := a.alarmCount, clear := a.clearCount } : FumeCounts) =
       judgeFume z.settings (decide (heads ≠ [])) a.blind a.coAvg a.no2Avg
         { fume := z.air.fume, alarm := z.air.alarmCount, clear := z.air.clearCount } ∧
     (a.fume = .fume → a.zoneDemand = 100) ∧
     (a.fume ≠ .fume → a.zoneDemand = max (max a.gasDemand a.trafficDemand) z.settings.minDemand) ∧
     (∀ k, Table.get t.fans k = (Table.get s.fans k).map (fun g =>
       if decide (a.fume = .fume) ≠ decide (z.air.fume = .fume) ∧ g.served.getLsbD zone = true
       then { g with target := t.targetOf g } else g)) ∧
     (∀ p : Port, a.fume = .fume → z.air.fume ≠ .fume → Table.get (t.port p).att.air zone = some .fumeEntered) ∧
     (∀ p : Port, a.fume ≠ .fume → z.air.fume = .fume → Table.get (t.port p).att.air zone = some .fumeLeft) ∧
     (∀ p : Port, a.fume = z.air.fume → a.blind = true → z.air.blind = false →
       Table.get (t.port p).att.air zone = some .blind) ∧
     s.keepsBut t [.zones, .nodes, .signs, .lights, .fumeSet, .fans, .items .main, .items .panel])

/-! ### Signs (spec/06) -/

/-- R119 to R121: what a sign shows. In fire mode its fire content. Otherwise the count part is CLOSED when
every count zone is closed, FULL when the counted free bays of the zones that are not are at or below
full-at, and else their number, 999 at most, without leading zeros; the arrow is the outcome for the two
terms, a term being true when some zone of its mask is OPEN with an empty closure set. -/
def Obligations.SignShowsItsZones : Prop :=
  ∀ (s : State) (d : SignDef),
    let count : Bool := decide (d.kind ≠ .arrow)
    let arrow : Bool := decide (d.kind ≠ .count)
    let openZone := fun (k : Nat) (z : Zone) (m : ZoneSet) => m.getLsbD k = true ∧ Table.get s.zones k = some z ∧
      z.causes = { operator := false, fume := false, air := false, fire := false }
    let free := fun z : Zone =>
      (if d.countKinds.general then z.free.general else 0) + (if d.countKinds.family then z.free.family else 0) +
      (if d.countKinds.accessible then z.free.accessible else 0) + (if d.countKinds.charger then z.free.charger else 0)
    let n := ((List.range 32).map (fun k =>
      match Table.get s.zones k with
      | some z => if d.countZones.getLsbD k = true ∧
          z.causes = { operator := false, fume := false, air := false, fire := false } then free z else 0
      | none => 0)).sum
    let term := fun m : ZoneSet => ∃ k z, openZone k z m ∧ z.fill = .hasRoom
    let c := s.contentOf d
    (s.fire.taken = true →
      c = { word := if count then .closed else .dark, hundreds := none, tens := none, units := none
            arrow := if arrow then .cross else .dark }) ∧
    (s.fire.taken = false →
      (arrow = false → c.arrow = .dark) ∧
      (arrow = true → (term d.termA → term d.termB → c.arrow = d.out3) ∧
        (term d.termA → ¬term d.termB → c.arrow = d.out2) ∧ (¬term d.termA → term d.termB → c.arrow = d.out1) ∧
        (¬term d.termA → ¬term d.termB → c.arrow = d.out0)) ∧
      (count = false → c.word = .dark ∧ c.hundreds = none ∧ c.tens = none ∧ c.units = none) ∧
      (count = true →
        ((¬∃ k z, openZone k z d.countZones) →
          c.word = .closed ∧ c.hundreds = none ∧ c.tens = none ∧ c.units = none) ∧
        ((∃ k z, openZone k z d.countZones) → n ≤ d.fullAt →
          c.word = .full ∧ c.hundreds = none ∧ c.tens = none ∧ c.units = none) ∧
        ((∃ k z, openZone k z d.countZones) → d.fullAt < n → c.word = .dark ∧
          (999 < n → c.hundreds = some 9 ∧ c.tens = some 9 ∧ c.units = some 9) ∧
          (100 ≤ n → n ≤ 999 → ∃ a b u, c.hundreds = some a ∧ c.tens = some b ∧ c.units = some u ∧
            n = 100 * a + 10 * b + u ∧ 1 ≤ a ∧ a ≤ 9 ∧ b ≤ 9 ∧ u ≤ 9) ∧
          (10 ≤ n → n ≤ 99 → ∃ b u, c.hundreds = none ∧ c.tens = some b ∧ c.units = some u ∧
            n = 10 * b + u ∧ 1 ≤ b ∧ b ≤ 9 ∧ u ≤ 9) ∧
          (n ≤ 9 → c.hundreds = none ∧ c.tens = none ∧ c.units = some n))))

/-- R130, R132: DEFINE_SIGN from SERVICE makes a sign with its content computed, dirty, nothing accepted or
sent, unseen where its node is SILENT or SUSPENDED; an inconsistent definition is answered BAD_VALUE.
RETIRE_SIGN outside fire mode makes a sign undefined. -/
def Obligations.DefineAndRetireSign : Prop :=
  (∀ (h : Head) (s : State) (sign : Nat) (fields : SignFields) (d : SignDef),
    s.accepts h .service → sign ≤ 63 → signDefOf fields = some d → Table.get s.signs sign = none →
    (d.consistent = false → s.refuses (.defineSign h sign fields) h (.defineSign sign fields) .badValue) ∧
    (d.consistent = true → s.kindOf d.node = some .sign →
      s.zonesDefined (d.countZones ||| d.termA ||| d.termB) = true →
      ((∃ e ∈ s.signs, e.2.config.node = d.node) →
        s.refuses (.defineSign h sign fields) h (.defineSign sign fields) .conflict) ∧
      ((∀ e ∈ s.signs, e.2.config.node ≠ d.node) →
        let g : Sign :=
          { config := d, content := s.contentOf d, accepted := none, sent := none, dirty := true
            unseen := s.unreachable d.node, displayFault := none }
        ∃ t, exec (.defineSign h sign fields) s = .next t ∧ Table.get t.signs sign = some g ∧
          (∀ n, n ≠ sign → Table.get t.signs n = Table.get s.signs n) ∧
          s.answers t h (.defineSign sign fields) .ok (signView sign g) ∧
          s.keepsBut t [.serviceKey, .places h.port, .signs]))) ∧
  (∀ (h : Head) (s : State) (sign : Nat) (g : Sign),
    s.accepts h .service → sign ≤ 63 → s.tablesSound → Table.get s.signs sign = some g →
    (s.fire.taken = true → s.refuses (.retireSign h sign) h (.retireSign sign) .fireLock) ∧
    (s.fire.taken = false → ∃ t, exec (.retireSign h sign) s = .next t ∧ Table.get t.signs sign = none ∧
      (∀ n, n ≠ sign → Table.get t.signs n = Table.get s.signs n) ∧
      s.answers t h (.retireSign sign) .ok (signView sign g) ∧
      s.keepsBut t [.serviceKey, .places h.port, .signs]))

/-- R131: SET_SIGN from SERVICE puts the given values in place together: the content is computed, the sent
content is absent, a new node makes the accepted content and display fault absent and judges unseen, and
dirty is judged. A definition equal to the one held changes nothing, an inconsistent one is BAD_VALUE. -/
def Obligations.SetSignApplies : Prop :=
  ∀ (h : Head) (s : State) (sign : Nat) (change : SignChange) (d : SignDef) (g : Sign),
    s.accepts h .service → sign ≤ 63 → signChangeInRange change = true → Table.get s.signs sign = some g →
    signDefOf (signFieldsOver change g.config) = some d →
    (∀ n, change.node = some n → s.kindOf n = some .sign ∧ ∀ e ∈ s.signs, e.1 ≠ sign → e.2.config.node ≠ n) →
    (∀ m, change.countZones = some m ∨ change.termA = some m ∨ change.termB = some m → s.zonesDefined m = true) →
    (d.consistent = false → s.refuses (.setSign h sign change) h (.setSign sign change) .badValue) ∧
    (d.consistent = true →
      let moved : Bool := decide (d.node ≠ g.config.node)
      let accepted := if moved then none else g.accepted
      let g' : Sign := if d = g.config then g else
        { config := d, content := s.contentOf d, accepted := accepted, sent := none
          dirty := decide (accepted ≠ some (s.contentOf d))
          unseen := if moved then s.unreachable d.node else g.unseen
          displayFault := if moved then none else g.displayFault }
      ∃ t, exec (.setSign h sign change) s = .next t ∧ Table.get t.signs sign = some g' ∧
        (∀ n, n ≠ sign → Table.get t.signs n = Table.get s.signs n) ∧
        s.answers t h (.setSign sign change) .ok (signView sign g') ∧
        s.keepsBut t [.serviceKey, .places h.port, .signs])

/-! ### Luminaire groups (spec/07) -/

/-- R142, R143: LIGHT_OVERRIDE with a level sets or replaces the override, without one removes it, and the
expiry of the override removes it too; on removal a group that is not FORCED enters ACTIVE at its active
level with a fresh hold. A FORCED group keeps 100. Without an override both leave the group as it is. That a duration beside no
level acts on nothing is the model's choice (log 14). -/
def Obligations.LightOverrideComesAndGoes : Prop :=
  ∀ (h : Head) (c : Cls) (s : State) (group : Nat) (l : Light), Table.get s.lights group = some l →
    let dropped : Light := match l.ovr with
      | none => l
      | some _ =>
        if l.state = .forced then { l with ovr := none, level := 100 }
        else { l with
          ovr := none, state := .active, policy := l.settings.active, level := l.settings.active
          holdExpiry := some (s.seconds + BitVec.ofNat 32 l.settings.hold), nextRamp := none }
    (s.accepts h c → group ≤ 47 → s.permits c (zoneSingle l.zone) = true →
      (∀ (level : Nat) (duration : Option Nat), level ≤ 100 → (∀ d, duration = some d → 1 ≤ d ∧ d ≤ 86400) →
        let l' : Light := { l with
          ovr := some { level := level, expiry := duration.map (fun d => s.seconds + BitVec.ofNat 32 d) }
          level := if l.state = .forced then 100 else level }
        ∃ t, exec (.lightOverride h group (some level) duration) s = .next t ∧
          Table.get t.lights group = some l' ∧ (∀ n, n ≠ group → Table.get t.lights n = Table.get s.lights n) ∧
          s.answers t h (.lightOverride group (some level) duration) .ok (lightView group l') ∧
          s.keepsBut t [.serviceKey, .places h.port, .lights]) ∧
      (∀ duration : Option Nat, (∀ d, duration = some d → 1 ≤ d ∧ d ≤ 86400) →
        ∃ t, exec (.lightOverride h group none duration) s = .next t ∧ Table.get t.lights group = some dropped ∧
          (∀ n, n ≠ group → Table.get t.lights n = Table.get s.lights n) ∧
          s.answers t h (.lightOverride group none duration) .ok (lightView group dropped) ∧
          s.keepsBut t [.serviceKey, .places h.port, .lights])) ∧
    ((∃ o, l.ovr = some o ∧ o.expiry = some s.seconds) →
      ∃ t, exec (.lightOverrideExpiry group) s = .next t ∧ Table.get t.lights group = some dropped ∧
        (∀ n, n ≠ group → Table.get t.lights n = Table.get s.lights n) ∧ s.keepsBut t [.lights]) ∧
    (l.ovr = none → ∃ t, exec (.lightOverrideExpiry group) s = .next t ∧ s.keepsBut t [.lights] ∧
      ∀ n, Table.get t.lights n = Table.get s.lights n)

/-- R138: at its hold expiry an ACTIVE group enters RAMPING at its policy level, or ECONOMY where the two
levels are equal; at each later second a RAMPING group's policy level falls by the ramp rate, not below the
economy level, where it enters ECONOMY. The level follows the override, then the policy level (R136). In
any other state both commands leave the group as it is. -/
def Obligations.HoldEndsAndRampFalls : Prop :=
  ∀ (s : State) (group : Nat) (l : Light), Table.get s.lights group = some l →
    let shown := fun p : Nat => (l.ovr.map (fun o => o.level)).getD p
    let economy : Light := { l with
      state := .economy, policy := l.settings.economy, level := shown l.settings.economy
      holdExpiry := none, nextRamp := none }
    let p := max l.settings.economy (l.policy - l.settings.rampRate)
    let only := fun (t : State) (l' : Light) => Table.get t.lights group = some l' ∧
      (∀ n, n ≠ group → Table.get t.lights n = Table.get s.lights n) ∧ s.keepsBut t [.lights]
    (l.state = .active → l.holdExpiry = some s.seconds →
      ∃ t, exec (.holdExpiry group) s = .next t ∧ only t
        (if l.settings.economy < l.settings.active then
          { l with state := .ramping, holdExpiry := none, nextRamp := some (s.seconds + 1), level := shown l.policy }
        else economy)) ∧
    (l.state ≠ .active → ∃ t, exec (.holdExpiry group) s = .next t ∧ only t l) ∧
    (l.state = .ramping → l.nextRamp = some s.seconds →
      ∃ t, exec (.rampStep group) s = .next t ∧ only t
        (if p = l.settings.economy then economy
         else { l with policy := p, nextRamp := some (s.seconds + 1), level := shown p })) ∧
    (l.state ≠ .ramping → ∃ t, exec (.rampStep group) s = .next t ∧ only t l)

/-- R149, R151: DEFINE_LIGHT from SERVICE makes a group FORCED at 100 where it is due for forcing and ACTIVE
at its active level with a fresh hold elsewhere; an economy level above the active level is BAD_VALUE.
RETIRE_LIGHT outside fire mode makes a group undefined. -/
def Obligations.DefineAndRetireLight : Prop :=
  (∀ (h : Head) (s : State) (group zone node : Nat) (fields : LightFields),
    s.accepts h .service → group ≤ 47 → zone ≤ 31 → node ≤ 255 → lightFieldsInRange fields = true →
    Table.get s.lights group = none →
    let st := lightFieldsApplied fields LightSettings.default
    let cmd : Instr := .defineLight h group zone node fields
    let body : Request := .defineLight group zone node fields
    (st.active < st.economy → s.refuses cmd h body .badValue) ∧
    (st.economy ≤ st.active → Table.has s.zones zone = true → s.kindOf node = some .dimmer →
      ((∃ e ∈ s.lights, e.2.node = node) → s.refuses cmd h body .conflict) ∧
      ((∀ e ∈ s.lights, e.2.node ≠ node) →
        let forced : Bool := s.fireFlag || s.fumeSet.getLsbD zone
        let l : Light :=
          { zone := zone, node := node, settings := st, state := if forced then .forced else .active
            policy := if forced then 100 else st.active, level := if forced then 100 else st.active
            holdExpiry := if forced then none else some (s.seconds + BitVec.ofNat 32 st.hold)
            nextRamp := none, ovr := none, applied := none, failedLamps := none
            unseen := s.unreachable node }
        ∃ t, exec cmd s = .next t ∧ Table.get t.lights group = some l ∧
          (∀ n, n ≠ group → Table.get t.lights n = Table.get s.lights n) ∧
          s.answers t h body .ok (lightView group l) ∧ s.keepsBut t [.serviceKey, .places h.port, .lights]))) ∧
  (∀ (h : Head) (s : State) (group : Nat) (l : Light),
    s.accepts h .service → group ≤ 47 → s.tablesSound → Table.get s.lights group = some l →
    (s.fire.taken = true → s.refuses (.retireLight h group) h (.retireLight group) .fireLock) ∧
    (s.fire.taken = false → ∃ t, exec (.retireLight h group) s = .next t ∧ Table.get t.lights group = none ∧
      (∀ n, n ≠ group → Table.get t.lights n = Table.get s.lights n) ∧
      s.answers t h (.retireLight group) .ok (lightView group l) ∧
      s.keepsBut t [.serviceKey, .places h.port, .lights]))

/-- R150: SET_LIGHT from SERVICE puts the given values in place together: a new active or economy level
moves the policy level, a new node clears the reports, a new zone judges forcing afresh or gives a fresh
hold (of the new settings, log 37), and a RAMPING group at or below its economy level lands in ECONOMY; the
level follows (R136). -/
def Obligations.SetLightApplies : Prop :=
  ∀ (h : Head) (s : State) (group : Nat) (zone node : Option Nat) (fields : LightFields) (l : Light),
    s.accepts h .service → group ≤ 47 → lightFieldsInRange fields = true →
    (∀ z, zone = some z → z ≤ 31 ∧ Table.has s.zones z = true) →
    (∀ n, node = some n → n ≤ 255 ∧ s.kindOf n = some .dimmer ∧ ∀ e ∈ s.lights, e.1 ≠ group → e.2.node ≠ n) →
    Table.get s.lights group = some l →
    let cmd : Instr := .setLight h group zone node fields
    let body : Request := .setLight group zone node fields
    let st := lightFieldsApplied fields l.settings
    let z := zone.getD l.zone
    let n := node.getD l.node
    let l1 : Light := { l with
      zone := z, node := n, settings := st
      applied := if n = l.node then l.applied else none
      failedLamps := if n = l.node then l.failedLamps else none
      unseen := if n = l.node then l.unseen else s.unreachable n
      policy :=
        if l.state = .active ∧ st.active ≠ l.settings.active then st.active
        else if l.state = .ramping ∧ st.active ≠ l.settings.active then min l.policy st.active
        else if l.state = .economy ∧ st.economy ≠ l.settings.economy then st.economy
        else l.policy }
    let l2 : Light :=
      if z = l.zone then l1
      else if s.fireFlag || s.fumeSet.getLsbD z then
        (if l.state = .forced then l1
         else { l1 with state := .forced, policy := 100, holdExpiry := none, nextRamp := none })
      else { l1 with
        state := .active, policy := st.active, nextRamp := none
        holdExpiry := some (s.seconds + BitVec.ofNat 32 st.hold) }
    let l3 : Light :=
      if l2.state = .ramping ∧ l2.policy ≤ st.economy then
        { l2 with state := .economy, policy := st.economy, holdExpiry := none, nextRamp := none }
      else l2
    let l' : Light := { l3 with
      level := if l3.state = .forced then 100 else (l3.ovr.map (fun o => o.level)).getD l3.policy }
    (st.active < st.economy → s.refuses cmd h body .badValue) ∧
    (st.economy ≤ st.active → ∃ t, exec cmd s = .next t ∧ Table.get t.lights group = some l' ∧
      (∀ k, k ≠ group → Table.get t.lights k = Table.get s.lights k) ∧
      s.answers t h body .ok (lightView group l') ∧ s.keepsBut t [.serviceKey, .places h.port, .lights])

/-! ### Nodes (spec/08) -/

/-- R168, R169: DEFINE_NODE from SERVICE makes an undefined node UNSEEN at a free address of a span of fewer
than 96 nodes, and gives a defined one its new zone; a GAS node rebound starts again without peaks and
status, and the visit in flight to it keeps its readings from the evaluator, the span being otherwise as it
was. A taken address, a span that carries 96 nodes, a fifth head, or another span, address or kind is answered
CONFLICT. -/
def Obligations.DefineNodePlaces : Prop :=
  ∀ (h : Head) (s : State) (node span address kind : Nat) (zone : Option Nat) (i : SpanId) (k : NodeKind),
    s.accepts h .service → node ≤ 255 → 1 ≤ address → address ≤ 126 → spanOfNumber span = some i →
    NodeKind.ofCode kind = some k → zone.isSome = decide (k = .sensor ∨ k = .gas) →
    (∀ z, zone = some z → z ≤ 31 ∧ Table.has s.zones z = true) →
    let cmd : Instr := .defineNode h node span address kind zone
    let body : Request := .defineNode node span address kind zone
    let heads := (s.nodes.filter (fun e =>
      decide (e.1 ≠ node) && decide (e.2.kind = .gas) && decide (e.2.zone = zone))).length
    let fifth : Prop := k = .gas ∧ 4 ≤ heads
    (Table.get s.nodes node = none →
      ((∃ e ∈ s.nodes, e.2.span = i ∧ e.2.address = address) ∨ fifth ∨
        96 ≤ (s.nodes.filter (fun e => decide (e.2.span = i))).length → s.refuses cmd h body .conflict) ∧
      ((∀ e ∈ s.nodes, ¬(e.2.span = i ∧ e.2.address = address)) → ¬fifth →
        (s.nodes.filter (fun e => decide (e.2.span = i))).length < 96 →
        let n : Node :=
          { span := i, address := address, kind := k, zone := zone, liveness := .unseen, missCount := 0
            lastError := none, roundsPassed := 0, due := false, suspendPending := false
            head := { coPeak := none, no2Peak := none, status := .unreported } }
        ∃ t, exec cmd s = .next t ∧ Table.get t.nodes node = some n ∧
          (∀ m, m ≠ node → Table.get t.nodes m = Table.get s.nodes m) ∧
          s.answers t h body .ok (nodeView node n (s.span i).stuck.isSome) ∧
          s.keepsBut t [.serviceKey, .places h.port, .nodes])) ∧
    (∀ n, Table.get s.nodes node = some n →
      (¬(n.span = i ∧ n.address = address ∧ n.kind = k) ∨ fifth → s.refuses cmd h body .conflict) ∧
      (n.span = i → n.address = address → n.kind = k → ¬fifth →
        let moved : Bool := decide (zone ≠ n.zone ∧ k = .gas)
        let n' : Node := { n with
          zone := zone
          head := if moved then { coPeak := none, no2Peak := none, status := .unreported } else n.head }
        ∃ t, exec cmd s = .next t ∧ Table.get t.nodes node = some n' ∧
          (∀ m, m ≠ node → Table.get t.nodes m = Table.get s.nodes m) ∧
          t.span i = { s.span i with visit := (s.span i).visit.map (fun v =>
            if moved = true ∧ v.node = node ∧ (v.fate = .counted ∨ v.fate = .restarted)
            then { v with rebound := true } else v) } ∧
          s.answers t h body .ok (nodeView node n' (s.span i).stuck.isSome) ∧
          s.keepsBut t ([.serviceKey, .places h.port, .nodes] ++ if moved then [.span i] else [])))

/-- R170, R166, R167: RETIRE_NODE from SERVICE outside fire mode makes a node to which nothing refers
undefined, the outcome of a visit in flight to it to be discarded. R157: without a visit in flight, the round
of a RUNNING span ends with the last node left in it. SUSPEND_NODE suspends a node at once, or
marks it pending while a visit to it is in flight, one whose outcome RESTART discards among them (the model's
reading, log 21); RESUME_NODE makes a SUSPENDED node UNSEEN with its counts 0 and drops a pending suspension.
R8, R49, R77, R127, R146: a node suspended at once is reported to its owners, whose records follow: bays
UNKNOWN, a head UNREPORTED, drives without report and failed, signs and luminaire groups unseen; a node
resumed is reported restored. No NODE item is raised. Nothing else changes. -/
def Obligations.NodesLeaveAndReturn : Prop :=
  ∀ (h : Head) (s : State) (node : Nat) (n : Node), s.accepts h .service → node ≤ 255 →
    Table.get s.nodes node = some n →
    let visited : Bool := (s.span n.span).visit.any (fun v =>
      decide (v.node = node) && (decide (v.fate = .counted) || decide (v.fate = .restarted)))
    (s.fire.taken = true → s.refuses (.retireNode h node) h (.retireNode node) .fireLock) ∧
    (s.fire.taken = false → s.tablesSound → (∀ e ∈ s.bays, e.2.node ≠ node) →
      (∀ e ∈ s.fans, ∀ d ∈ e.2.drives, d.node ≠ node) → (∀ e ∈ s.lights, e.2.node ≠ node) →
      (∀ e ∈ s.signs, e.2.config.node ≠ node) →
      ∃ t, exec (.retireNode h node) s = .next t ∧ Table.get t.nodes node = none ∧
        (∀ m, m ≠ node → Table.get t.nodes m = Table.get s.nodes m) ∧
        (∀ v, (s.span n.span).visit = some v → v.node = node →
          (v.fate = .counted → t.span n.span = { s.span n.span with visit := some { v with fate := .retired } }) ∧
          (v.fate = .restarted →
            t.span n.span = { s.span n.span with visit := some { v with fate := .restartedRetired } })) ∧
        (visited = false → s.placesSound → t.roundFollows n.span (s.span n.span)) ∧
        s.answers t h (.retireNode node) .ok (nodeView node n (s.span n.span).stuck.isSome) ∧
        s.keepsBut t [.serviceKey, .places h.port, .nodes, .span n.span]) ∧
    (∃ t, exec (.suspendNode h node) s = .next t ∧
      let atOnce : Bool := decide (n.liveness ≠ .suspended) && !n.suspendPending && !visited
      (let n' : Node :=
        if n.liveness = .suspended ∨ n.suspendPending = true then n
        else if visited then { n with suspendPending := true }
        else { n with
          liveness := .suspended, due := false, suspendPending := false
          head := if n.kind = .gas then { n.head with status := .unreported } else n.head }
       Table.get t.nodes node = some n' ∧
        (t.port h.port).service =
          some (answer h (.suspendNode node) .ok (nodeView node n' (s.span n.span).stuck.isSome))) ∧
      (∀ m, m ≠ node → Table.get t.nodes m = Table.get s.nodes m) ∧ t.serviceKey = h.key ∧
      (t.port h.port).waiting = (s.port h.port).waiting ∧
      (atOnce = true → s.tablesSound → s.placesSound →
        s.ownersLost t (fun m => decide (m = node)) ∧ t.roundFollows n.span (s.span n.span)) ∧
      s.itemsStand t [.node] ∧
      s.keepsBut t ([.serviceKey, .places h.port, .nodes] ++
        if atOnce then .span n.span :: ownerParts n.kind else [])) ∧
    (∃ t, exec (.resumeNode h node) s = .next t ∧
      (let n' : Node :=
        if n.liveness = .suspended then { n with liveness := .unseen, missCount := 0, roundsPassed := 0, due := false }
        else { n with suspendPending := false }
       Table.get t.nodes node = some n' ∧
        (t.port h.port).service =
          some (answer h (.resumeNode node) .ok (nodeView node n' (s.span n.span).stuck.isSome))) ∧
      (∀ m, m ≠ node → Table.get t.nodes m = Table.get s.nodes m) ∧ t.serviceKey = h.key ∧
      (t.port h.port).waiting = (s.port h.port).waiting ∧
      (n.liveness = .suspended → s.tablesSound → s.placesSound → s.ownersRestored t node) ∧
      s.itemsStand t [.node] ∧
      s.keepsBut t ([.serviceKey, .places h.port, .nodes] ++
        if n.liveness = .suspended then ownerParts n.kind else []))

/-! ### Permit maps, part-wide settings, attention, RESTART (spec/09, spec/10) -/

/-- R182, R183: SET_PERMIT from SERVICE replaces, grants to or revokes from the named class's map, and
answers the resulting map; SET_PART from SERVICE puts the given values in place and answers all of them. A
class other than FACILITY and OPERATOR, or a value out of its range, is BAD_VALUE; any other class than
SERVICE is DENIED. -/
def Obligations.PermitsAndSettings : Prop :=
  ∀ (h : Head) (c : Cls) (s : State), s.accepts h c →
    (∀ (cls mode : Nat) (zones : ZoneSet),
      let result := fun map : ZoneSet => if mode = 0 then zones else if mode = 1 then map ||| zones else map &&& ~~~zones
      (cls ≠ 1 ∧ cls ≠ 2 ∨ 2 < mode → s.refuses (.setPermit h cls mode zones) h (.setPermit cls mode zones) .badValue) ∧
      (cls = 1 ∨ cls = 2 → mode ≤ 2 → c ≠ .service →
        s.refuses (.setPermit h cls mode zones) h (.setPermit cls mode zones) .denied) ∧
      (c = .service → mode ≤ 2 →
        (∃ t, exec (.setPermit h 1 mode zones) s = .next t ∧ t.facilityMap = result s.facilityMap ∧
          s.answers t h (.setPermit 1 mode zones) .ok (zoneSetBytes t.facilityMap) ∧
          s.keepsBut t [.serviceKey, .places h.port, .facilityMap]) ∧
        ∃ t, exec (.setPermit h 2 mode zones) s = .next t ∧ t.operatorMap = result s.operatorMap ∧
          s.answers t h (.setPermit 2 mode zones) .ok (zoneSetBytes t.operatorMap) ∧
          s.keepsBut t [.serviceKey, .places h.port, .operatorMap])) ∧
    ∀ fields : PartFields,
      (partFieldsInRange fields = false → s.refuses (.setPart h fields) h (.setPart fields) .badValue) ∧
      (partFieldsInRange fields = true → c ≠ .service → s.refuses (.setPart h fields) h (.setPart fields) .denied) ∧
      (partFieldsInRange fields = true → c = .service →
        let p : PartSettings :=
          { airPeriod := fields.airPeriod.getD s.settings.airPeriod
            fanPeriod := fields.fanPeriod.getD s.settings.fanPeriod
            startInterval := fields.startInterval.getD s.settings.startInterval
            arrivalConfirm := fields.arrivalConfirm.getD s.settings.arrivalConfirm
            departureConfirm := fields.departureConfirm.getD s.settings.departureConfirm
            proofTime := fields.proofTime.getD s.settings.proofTime
            missLimit := fields.missLimit.getD s.settings.missLimit
            limit0 := fields.limit0.getD s.settings.limit0, limit1 := fields.limit1.getD s.settings.limit1
            limit2 := fields.limit2.getD s.settings.limit2, limit3 := fields.limit3.getD s.settings.limit3
            revisit := fields.revisit.getD s.settings.revisit }
        ∃ t, exec (.setPart h fields) s = .next t ∧ t.settings = p ∧
          s.answers t h (.setPart fields) .ok
            [byte p.airPeriod, byte p.fanPeriod, byte p.startInterval, byte p.arrivalConfirm,
             byte p.departureConfirm, byte p.proofTime, byte p.missLimit, byte p.limit0, byte p.limit1,
             byte p.limit2, byte p.limit3, byte p.revisit] ∧
          s.keepsBut t [.serviceKey, .places h.port, .settings])

/-- R188 to R191: READ_ATTENTION reports the first object of the class it chooses, the lowest in a set in its
canonical form (R187), with how many are pending, and changes nothing; a named class is read whether or not it
is enabled, R188's words on empty enables being taken of reads without a class (the model's reading, log 45);
CLEAR_ATTENTION takes a pending object out of the port's own set and answers its reason, or says that it was not pending; SET_ATTENTION_ENABLE replaces the port's own enables. After
each, the port's line stands by its set, and the other port is as it was. -/
def Obligations.AttentionServed : Prop :=
  ∀ (h : Head) (c : Cls) (s : State), s.accepts h c →
    let a := (s.port h.port).att
    let report := fun k : AttClass => ∀ object reason rest, a.items k = (object, reason) :: rest →
      [byte k.code] ++ bytes2 object ++ [byte reason.code] ++ bytes2 (a.items k).length =
        attReport a (some k) ∧ (a.sound → ∀ e ∈ rest, object < e.1)
    (∀ k : AttClass, report k ∧ ∃ t, exec (.readAttention h (some k.code)) s = .next t ∧
      s.answers t h (.readAttention (some k.code)) .ok
        (if a.items k = [] then [255, 0, 0, 0, 0, 0] else attReport a (some k)) ∧
      s.keepsBut t [.serviceKey, .places h.port]) ∧
    (∃ t, exec (.readAttention h none) s = .next t ∧
      (∀ k : AttClass, a.enabled k = true → a.items k ≠ [] →
        (∀ j : AttClass, j.code < k.code → a.enabled j = false ∨ a.items j = []) →
        s.answers t h (.readAttention none) .ok (attReport a (some k))) ∧
      ((∀ k : AttClass, a.enabled k = false ∨ a.items k = []) →
        s.answers t h (.readAttention none) .ok [255, 0, 0, 0, 0, 0]) ∧
      s.keepsBut t [.serviceKey, .places h.port]) ∧
    (∀ (k : AttClass) (object : Nat), object < k.objects →
      (Table.get (a.items k) object = none → ∃ t, exec (.clearAttention h k.code object) s = .next t ∧
        s.answers t h (.clearAttention k.code object) .ok [0, 0] ∧ s.keepsBut t [.serviceKey, .places h.port]) ∧
      ∀ r, Table.get (a.items k) object = some r →
        let a' := a.withItems k (Table.erase (a.items k) object)
        ∃ t, exec (.clearAttention h k.code object) s = .next t ∧
          t.port h.port = { s.port h.port with
            att := a', attn := a'.asserted
            service := some (answer h (.clearAttention k.code object) .ok [1, byte r.code]) } ∧
          t.serviceKey = h.key ∧ s.keepsBut t [.serviceKey, .places h.port, .items h.port]) ∧
    (∀ (k : AttClass) (object : Nat), k.objects ≤ object →
      s.refuses (.clearAttention h k.code object) h (.clearAttention k.code object) .badValue) ∧
    (∀ m : Byte, m.toNat < 64 →
      let a' := { a with enables := m }
      ∃ t, exec (.setAttentionEnable h m) s = .next t ∧
        t.port h.port = { s.port h.port with
          att := a', attn := a'.asserted, service := some (answer h (.setAttentionEnable m) .ok [m]) } ∧
        t.serviceKey = h.key ∧ s.keepsBut t [.serviceKey, .places h.port, .enables h.port, .items h.port])

/-- R185, R194: RESTART from SERVICE is taken with an empty OK reply and nothing else; any other class is
answered DENIED. R185, R194, R25, R46, R73, R102, R134, R153, R172: RESTART takes effect when the last byte of its reply
has been sent. The definitions, settings, maps, the OPERATOR causes, the fire monitor and the time base
stand; everything that works starts again: bays UNKNOWN without reservations, nodes UNSEEN or SUSPENDED,
zones FULL with an empty air history, groups without overrides and grants, ISOLATED or STOPPED but for FAULT
where every drive is failed, DEGRADED where some are, their targets as R85 gives them, luminaires FORCED or
ACTIVE, signs dirty, both unseen where their node is SUSPENDED alone, the attention sets empty but for FIRE in
fire mode. Every span is RUNNING: a visit in flight goes on, its outcome to be discarded, and without one a new
round begins at once; the stuck watch of a span that was STUCK starts again (the model's choice, log 42). -/
def Obligations.RestartTakesEffect : Prop :=
  (∀ (h : Head) (c : Cls) (s : State), s.accepts h c →
     (c ≠ .service → s.refuses (.restart h) h .restart .denied) ∧
     (c = .service → ∃ t, exec (.restart h) s = .next t ∧ s.answers t h .restart .ok [] ∧
       s.keepsBut t [.serviceKey, .places h.port])) ∧
  (∀ (s : State) (p : Port) (key : Bool) (cls tag : Byte) (r : Reply),
     (s.port p).service = some { item := .request cls tag .restart, reply := r } → r.result = .ok →
     ∃ t, exec (.replySent p key) s = .next t ∧
       (∀ n, Table.get t.bays n = (Table.get s.bays n).map (fun b =>
         { b with state := .unknown, confirm := 0, reservation := none, since := s.seconds })) ∧
       (∀ n, Table.get t.nodes n = (Table.get s.nodes n).map (fun d =>
         { d with
           liveness := if d.liveness = .suspended ∨ d.suspendPending = true then .suspended else .unseen
           missCount := 0, lastError := none, roundsPassed := 0, due := false, suspendPending := false
           head := { coPeak := none, no2Peak := none, status := .unreported } })) ∧
       (∀ k z, Table.get s.zones k = some z → ∃ z', Table.get t.zones k = some z' ∧
         z'.level = z.level ∧ z'.settings = z.settings ∧
         z'.causes = { operator := z.causes.operator, fume := false, air := false, fire := s.fire.taken } ∧
         z'.free = { general := 0, family := 0, accessible := 0, charger := 0 } ∧
         z'.fill = judgeFill z.fill 0 z.settings.fullAt z.settings.hysteresis ∧
         z'.total = Table.countOf s.bays (fun _ b => decide (b.zone = k)) ∧
         z'.tallies = { unknown := z'.total, free := 0, reserved := 0, arriving := 0, occupied := 0, leaving := 0 } ∧
         z'.air = { AirState.start z.settings.minDemand with status := t.airStatusOf k }) ∧
       (∀ k g, Table.get s.fans k = some g → ∃ g', Table.get t.fans k = some g' ∧
         g'.served = g.served ∧ g'.settings = g.settings ∧
         g'.drives = g.drives.map (fun d => { node := d.node, report := none }) ∧
         g'.commanded = 0 ∧ g'.grantedAt = none ∧ g'.proof = none ∧
         (let failed := fun d : Drive => t.driveFailed d = true
          let all := (∀ d ∈ g'.drives, failed d) ∧ g'.drives ≠ []
          (g'.degraded = true ↔ (∃ d ∈ g'.drives, failed d) ∧ ∃ d ∈ g'.drives, ¬failed d) ∧
          (g.state = .isolated → g'.state = .isolated ∧ g'.faultCause = none) ∧
          (g.state ≠ .isolated →
            (all → g'.state = .fault ∧ g'.faultCause = some .allDrives) ∧
            (¬all → g'.state = .stopped ∧ g'.faultCause = none))) ∧
         (∀ d ∈ g'.drives, t.driveFailed d = (Table.get t.nodes d.node).any (fun n => decide (n.liveness = .suspended))) ∧
         g'.target = t.targetOf g' ∧
         g'.stack = if s.fire.taken
           then [{ cls := .fire, expiry := none, tag := 0
                   level := if s.fire.zone.any (fun z => g.served.getLsbD z) then g.settings.fireIn else g.settings.fireOut }]
           else []) ∧
       (∀ k l, Table.get s.lights k = some l → ∃ l', Table.get t.lights k = some l' ∧
         l'.zone = l.zone ∧ l'.node = l.node ∧ l'.settings = l.settings ∧ l'.ovr = none ∧
         l'.applied = none ∧ l'.failedLamps = none ∧
         l'.unseen = (Table.get t.nodes l.node).any (fun n => decide (n.liveness = .suspended)) ∧
         (if s.fire.taken then l'.state = .forced ∧ l'.level = 100 ∧ l'.holdExpiry = none
          else l'.state = .active ∧ l'.level = l.settings.active ∧
           l'.holdExpiry = some (s.seconds + BitVec.ofNat 32 l.settings.hold))) ∧
       (∀ k g, Table.get s.signs k = some g → ∃ g', Table.get t.signs k = some g' ∧ g'.config = g.config ∧
         g'.content = t.contentOf g.config ∧ g'.accepted = none ∧ g'.sent = none ∧ g'.dirty = true ∧
         g'.displayFault = none ∧
         g'.unseen = (Table.get t.nodes g.config.node).any (fun n => decide (n.liveness = .suspended))) ∧
       t.queue = [] ∧ t.slot = none ∧ t.fumeSet = 0 ∧ t.fireFlag = s.fire.taken ∧
       t.airNext = s.seconds + BitVec.ofNat 32 s.settings.airPeriod ∧
       t.fanNext = s.seconds + BitVec.ofNat 32 s.settings.fanPeriod ∧
       (∀ i : SpanId,
         let p : Span := { s.span i with
           stuck := none, position := none, watchFrom := if (s.span i).stuck = none then (s.span i).watchFrom else s.ms }
         ((s.span i).visit = none →
           t.span i = { p with roundStart := s.ms, inRound := (t.span i).inRound } ∧
           (s.tablesSound → s.placesSound → t.roundSettled i none)) ∧
         ∀ v, (s.span i).visit = some v → t.span i = { p with
           visit := some { v with
             fate := if v.fate = .retired ∨ v.fate = .restartedRetired then .restartedRetired else .restarted } }) ∧
       (∀ q : Port, (t.port q).waiting = none ∧ (t.port q).receiver = (s.port q).receiver ∧
         (t.port q).service = (if q = p then none else (s.port q).service) ∧
         (t.port q).att =
           { fire := if s.fire.taken then [(0, .asserted)] else [], air := [], fan := [], node := [], bay := []
             link := [], enables := (s.port q).att.enables }) ∧
       s.keepsBut t [.bays, .nodes, .zones, .fans, .lights, .signs, .queue, .slot, .fumeSet, .fireFlag, .airNext,
         .fanNext, .span .span0, .span .span1, .span .span2, .span .span3, .places .main, .places .panel,
         .items .main, .items .panel])

/-! ### Fire monitor (spec/05) -/

/-- R103, R105: the two filters. An edge that leaves the taken level starts a pending change, due 200 ms
later for a rise and 2,000 ms later for a fall, and one that returns to it cancels the change. In fire mode
a new value of the code lines is pending for 200 ms unless it is the latched zone, which cancels; outside
it the lines are only held. Nothing else changes. That a level or value the lines already have is no event
is the model's reading (log 39). -/
def Obligations.FireFiltersWatch : Prop :=
  ∀ (s : State),
    (∀ level : Bool, level ≠ s.fire.line → exec (.fireLineEdge level) s = .next { s with
      fire := { s.fire with
        line := level
        change := if level = s.fire.taken then none else some (s.ms + if level then 200 else 2000) } }) ∧
    (∀ level : Bool, level = s.fire.line → exec (.fireLineEdge level) s = .next s) ∧
    (∀ v : BitVec 5, v ≠ s.fire.codes → s.fire.taken = true →
      exec (.fireZoneCodeChange v) s = .next { s with
        fire := { s.fire with
          codes := v
          pendingZone := if s.fire.zone = some v.toNat then none else some (v.toNat, s.ms + 200) } }) ∧
    (∀ v : BitVec 5, v ≠ s.fire.codes → s.fire.taken = false →
      exec (.fireZoneCodeChange v) s = .next { s with fire := { s.fire with codes := v } }) ∧
    (∀ v : BitVec 5, v = s.fire.codes → exec (.fireZoneCodeChange v) s = .next s) ∧
    (s.fire.change = none → exec .fireFilterDue s = .next s) ∧
    (s.fire.pendingZone = none → exec .pendingZoneDue s = .next s)

/-- R104, R106, R107, R84, R85, R92: a taken rise, the time base gone on to its moment (the model's choice,
log 3). The zone the code lines hold is latched; every group gets its
FIRE entry on top at its fire-in or fire-out level and targets it, a full stack losing its bottom entry;
the waiters move forward as their entries arrive, so that none being FIRE before they stand in rising order;
every zone gets the FIRE cause, every sign its fire content, every luminaire group is FORCED at 100, and
FIRE stands ASSERTED in both sets. -/
def Obligations.FireModeEntered : Prop :=
  ∀ (s : State) (due : Millis), s.tablesSound → s.fire.change = some due → s.fire.taken = false →
    ∃ t, exec .fireFilterDue s = .next t ∧ s.movedTo t due ∧
      t.fire = { s.fire with taken := true, change := none, zone := some s.fire.codes.toNat, pendingZone := none } ∧
      (∀ n, Table.get t.fans n = (Table.get s.fans n).map (fun g =>
        let level := if g.served.getLsbD s.fire.codes.toNat then g.settings.fireIn else g.settings.fireOut
        { g with
          stack := (if 4 ≤ g.stack.length then g.stack.drop 1 else g.stack) ++
            [{ cls := .fire, level := level, expiry := none, tag := 0 }]
          target := level })) ∧
      (∀ n, Table.get t.zones n =
        (Table.get s.zones n).map (fun z => { z with causes := { z.causes with fire := true } })) ∧
      (∀ n g, Table.get s.signs n = some g → ∃ g', Table.get t.signs n = some g' ∧
        g' = { g with content := g'.content, dirty := g'.dirty } ∧
        g'.content =
          { word := if g.config.kind = .arrow then .dark else .closed
            hundreds := none, tens := none, units := none
            arrow := if g.config.kind = .count then .dark else .cross }) ∧
      (∀ n, Table.get t.lights n = (Table.get s.lights n).map (fun l =>
        if l.state = .forced then l
        else { l with state := .forced, policy := 100, level := 100, holdExpiry := none, nextRamp := none })) ∧
      t.fireFlag = true ∧ (∀ p : Port, Table.get (t.port p).att.fire 0 = some .asserted) ∧
      (∀ n g, Table.get s.fans n = some g → 4 ≤ g.stack.length → g.state ≠ .isolated →
        ∀ p : Port, Table.get (t.port p).att.fan n = some .displaced) ∧
      (∀ n g, Table.get s.fans n = some g → g.state = .isolated →
        ∀ p : Port, Table.get (t.port p).att.fan n = some .isolatedInFire) ∧
      (∀ n, n ∈ t.queue → n ∈ s.queue ∨ ∃ g, Table.get s.fans n = some g ∧ g.state = .waiting) ∧
      (s.queueSound → s.stacksSound →
        t.queue = (s.fans.filter (fun e => decide (e.2.state = .waiting))).map (fun e => e.1)) ∧
      s.keepsBut t (clockParts ++ [.fire, .fans, .queue, .zones, .signs, .lights, .fireFlag, .items .main,
        .items .panel])

/-- R105, R109, R110: a taken fall and a zone change, the time base gone on to their moment (the model's
choice, log 3). The fall makes the latched zone and any pending zone
absent, takes every FIRE entry off and the FIRE cause out of every zone, recomputes every sign, ends the
forcing of groups outside the fume set, and FIRE stands RELEASED. A zone change gives every FIRE entry the
level of the new zone, its group's target following, and FIRE stands ZONE_CHANGED. -/
def Obligations.FireModeLeftAndZoneChanged : Prop :=
  ∀ (s : State) (due : Millis), s.tablesSound → s.fire.taken = true →
    (s.fire.change = some due →
      ∃ t, exec .fireFilterDue s = .next t ∧ s.movedTo t due ∧
        t.fire = { s.fire with taken := false, change := none, zone := none, pendingZone := none } ∧
        (∀ n, Table.get t.fans n = (Table.get s.fans n).map (fun g =>
          let stack := g.stack.filter (fun e => decide (e.cls ≠ .fire))
          { g with stack := stack, target := s.targetOf { g with stack := stack } })) ∧
        (∀ n, Table.get t.zones n =
          (Table.get s.zones n).map (fun z => { z with causes := { z.causes with fire := false } })) ∧
        (∀ n g, Table.get s.signs n = some g → ∃ g', Table.get t.signs n = some g' ∧
          g' = { g with content := t.contentOf g.config, dirty := g'.dirty }) ∧
        (∀ n, Table.get t.lights n = (Table.get s.lights n).map (fun l =>
          if s.fumeSet.getLsbD l.zone then
            (if l.state = .forced then l
             else { l with state := .forced, policy := 100, level := 100, holdExpiry := none, nextRamp := none })
          else if l.state = .forced then
            { l with
              state := .active, policy := l.settings.active, nextRamp := none
              holdExpiry := some (t.seconds + BitVec.ofNat 32 l.settings.hold)
              level := (l.ovr.map (fun o => o.level)).getD l.settings.active }
          else l)) ∧
        t.fireFlag = false ∧ (∀ p : Port, Table.get (t.port p).att.fire 0 = some .released) ∧
        s.keepsBut t (clockParts ++ [.fire, .fans, .zones, .signs, .lights, .fireFlag, .items .main,
          .items .panel])) ∧
    (∀ zone, s.fire.pendingZone = some (zone, due) →
      ∃ t, exec .pendingZoneDue s = .next t ∧ s.movedTo t due ∧
        t.fire = { s.fire with zone := some zone, pendingZone := none } ∧
        (∀ n, Table.get t.fans n = (Table.get s.fans n).map (fun g =>
          let stack := g.stack.map (fun e =>
            if e.cls = .fire then
              { e with level := if g.served.getLsbD zone then g.settings.fireIn else g.settings.fireOut }
            else e)
          { g with stack := stack, target := s.targetOf { g with stack := stack } })) ∧
        (∀ p : Port, Table.get (t.port p).att.fire 0 = some .zoneChanged) ∧
        s.keepsBut t (clockParts ++ [.fire, .fans, .items .main, .items .panel]))

/-! ### Spans (spec/08) -/

/-- R157, R158: a round begins when the one before it has ended, no visit is in flight and the span is
RUNNING: SILENT nodes are judged against the revisit interval and the position is absent. A visit begins to
the node of the round with the lowest address above the position, chosen as the visit begins (the model's
reading, log 20): its call carries its address, its kind and the content its owner gives now, by R147, R144,
R76 or R124. With no node left to visit the round ends. Model's choices: the time base goes on to the event's
moment (log 3), the wait for the answer is counted from the call's building, with the limit that stands then
(log 6), and neither command has an effect at another time (log 1): ROUND_START while a round is in progress,
VISIT_START outside one, and both on a STUCK span (R163; that it begins no round either is log 38) or while a
visit is in flight. -/
def Obligations.RoundsAndVisitsBegin : Prop :=
  ∀ (s : State) (i : SpanId),
    let p := s.span i
    let visitable := fun n : Node =>
      n.liveness = .live ∨ n.liveness = .unseen ∨ (n.liveness = .silent ∧ n.due = true)
    (p.stuck = none → p.visit = none → p.inRound = false →
      ∃ t, exec (.roundStart i) s = .next t ∧ s.movedTo t (p.roundStart + 100) ∧
        (∀ m, Table.get t.nodes m = (Table.get s.nodes m).map (fun n =>
          if n.span = i ∧ n.liveness = .silent then
            (if s.settings.revisit - 1 ≤ n.roundsPassed then { n with due := true, roundsPassed := 0 }
             else { n with due := false, roundsPassed := n.roundsPassed + 1 })
          else n)) ∧
        (t.span i).roundStart = t.ms ∧ (t.span i).position = none ∧ (t.span i).visit = none ∧
        (t.span i).stuck = none ∧ (s.tablesSound → s.placesSound → t.roundSettled i none) ∧
        s.keepsBut t (clockParts ++ [.nodes, .span i])) ∧
    (p.stuck = none → p.visit = none → p.inRound = true → s.tablesSound → s.placesSound →
      (¬s.nodeLeft i p.position → ∃ t, exec (.visitStart i) s = .next t ∧ s.movedTo t (p.lineAt + 1) ∧
        t.span i = { p with inRound := false, position := none } ∧ s.keepsBut t (clockParts ++ [.span i])) ∧
      ∀ (m : Nat) (n : Node), Table.get s.nodes m = some n → n.span = i → visitable n →
        (∀ a, p.position = some a → a < n.address) →
        (∀ e ∈ s.nodes, e.2.span = i → visitable e.2 → e.2.address < n.address →
          ∃ a, p.position = some a ∧ e.2.address ≤ a) →
        ∃ t v c, exec (.visitStart i) s = .next t ∧ s.movedTo t (p.lineAt + 1) ∧
          (t.span i).visit = some v ∧ v.node = m ∧ v.address = n.address ∧ v.kind = n.kind ∧
          v.call = callFrame n.address n.kind c ∧ s.carries m n.kind c ∧
          v.answer = [] ∧ v.fate = .counted ∧ v.rebound = false ∧
          v.limit = s.settings.limit i ∧ v.waitFrom = t.ms ∧ (t.span i).position = p.position ∧
          (∀ k, Table.get t.signs k = (Table.get s.signs k).map (fun g =>
            if n.kind = .sign ∧ g.config.node = m then { g with sent := some g.content } else g)) ∧
          s.keepsBut t (clockParts ++ [.span i] ++ if n.kind = .sign then [.signs] else [])) ∧
    (p.stuck ≠ none ∨ p.visit ≠ none ∨ p.inRound = true → exec (.roundStart i) s = .next s) ∧
    (p.stuck ≠ none ∨ p.visit ≠ none ∨ p.inRound = false → exec (.visitStart i) s = .next s)

/-- R155, R159 to R162, R166, R170, R172: bytes of an answer. Outside a visit a byte only keeps the line busy,
and one with a bad stop bit begins no answer. A complete
answer with a wrong check byte, or a stated length above the longest, is CHECK, and one of another address,
kind or length STRAY: the visit fails. The last byte of a good answer ends a counted visit: the node's miss
count is 0, its last error kept, and a LIVE, UNSEEN or SILENT node is LIVE; a SILENT one is reported restored
to its owners and raises RESTORED; the owners are handed the answer; and a pending suspension is applied. What
each owner makes of an answer and of a notice is stated apart (AnswersAndNoticesReachTheOwners). A visit whose
node was retired, or that RESTART met, ends with its answer discarded. Model's choices: a pending suspension
clears the due flag too (log 22); a stated length of 0 is CHECK at once (log 23); what is taken of a later byte
with a bad stop bit is a free value (log 15); bytes leave the stuck watch alone (log 42); and a suspension asked
for while a visit that RESTART met is still in flight is applied at that visit's end (log 21). -/
def Obligations.AnswerBytesJudged : Prop :=
  ∀ (s : State) (i : SpanId) (b : Byte),
    (∀ stopOk, (s.span i).visit = none →
      ∃ t, exec (.spanByteReceived i b stopOk) s = .next t ∧
        t.span i = { s.span i with lineAt := s.ms } ∧ s.keepsBut t [.span i]) ∧
    (∀ v : Visit, (s.span i).visit = some v →
      let answer := v.answer ++ [b]
      let length := (byteAt answer 2).toNat
      let complete := 3 ≤ answer.length ∧ 1 ≤ length ∧ length ≤ 18 ∧ answer.length = 3 + length
      let matching := byteAt answer 0 = byte v.address ∧ byteAt answer 1 = byte v.kind.code ∧ length = answerLength v.kind
      let dropped := ∃ t, exec (.spanByteReceived i b false) s = .next t ∧
        t.span i = { s.span i with lineAt := s.ms } ∧ t.freeCount = s.freeCount + 1 ∧ s.keepsBut t [.span i, .freeCount]
      (v.answer = [] → dropped) ∧
      (v.answer ≠ [] → (Config.badStopByte s.freeCount b = none → dropped) ∧
        ∀ b', Config.badStopByte s.freeCount b = some b' →
          exec (.spanByteReceived i b false) s =
            exec (.spanByteReceived i b' true) { s with freeCount := s.freeCount + 1 }) ∧
      (answer.length < 3 ∨ (1 ≤ length ∧ length ≤ 18 ∧ answer.length < 3 + length) →
        ∃ t, exec (.spanByteReceived i b true) s = .next t ∧
          t.span i =
            { s.span i with lineAt := s.ms, visit := some { v with answer := answer, lastByte := s.ms } } ∧
          s.keepsBut t [.span i]) ∧
      (v.fate ≠ .counted → complete ∨ answer.length = 3 ∧ (length = 0 ∨ 18 < length) →
        ∃ t, exec (.spanByteReceived i b true) s = .next t ∧ s.visitDiscarded t i v []) ∧
      ∀ n : Node, v.fate = .counted → Table.get s.nodes v.node = some n →
      let failed := fun (e : VisitError) =>
        ∃ t, exec (.spanByteReceived i b true) s = .next t ∧ s.visitFails t i v n e []
      (complete → byteSum answer = 0 → matching →
        let heard : Node := { n with
          missCount := 0
          liveness := if n.liveness = .suspended then .suspended else .live
          due := if n.liveness = .silent then false else n.due }
        let s1 := s.changeNode v.node (fun _ => heard)
        let s2 := if n.liveness = .silent
          then (s1.noticeRestored v.node n.kind).raise .node v.node .restored else s1
        let s3 := s2.handAnswer v.node n.kind ((answer.drop 3).take (length - 1)) v.rebound
        let s4 := if n.suspendPending = true then s3.suspendNow v.node else s3
        ∃ t, exec (.spanByteReceived i b true) s = .next t ∧ s4.keepsBut t [.span i] ∧ s.visitOver t i v ∧
          (n.liveness = .live ∨ n.liveness = .unseen → n.suspendPending = false →
            (∃ n', Table.get t.nodes v.node = some n' ∧
              n' = { n with missCount := 0, liveness := .live, head := n'.head } ∧
              (n.kind ≠ .gas → n'.head = n.head)) ∧
            (∀ m, m ≠ v.node → Table.get t.nodes m = Table.get s.nodes m) ∧
            s.keepsBut t ([.span i, .nodes] ++ ownerParts n.kind ++
              (if n.kind = .sensor then [.lights] else []) ++
              if n.kind = .gas then [.items .main, .items .panel] else []))) ∧
      (complete → byteSum answer ≠ 0 → failed .check) ∧
      (answer.length = 3 → length = 0 ∨ 18 < length → failed .check) ∧
      (complete → byteSum answer = 0 → ¬matching → failed .stray))

/-- What the owners of a node make of a good answer and of a notice (R162, R201). Gas heads, R48 to R50: the
status; of a READY answer each reading, limited to its gas's maximum and marked OVERRANGE beyond it, raises
its peak; a change to FAULT raises HEAD_FAULT; an answer to a head rebound since the call goes nowhere (R169).
Dimmers, R145: applied level and failed lamps, limited. Drives, R77 to R79: the report, the proof timer of a
RUNNING group on a running report, and the drives judged. Signs, R125: the display fault, and the sent content
accepted or not. Sensor heads, R3, R137: the sixteen readings in rising channel order, then the aisle presence
as a movement. R8, R49, R77, R127, R146: a node lost or restored. -/
def Obligations.AnswersAndNoticesReachTheOwners : Prop :=
  ∀ (s : State) (node : Nat) (n : Node) (c : List Byte), s.tablesSound → s.placesSound →
    Table.get s.nodes node = some n →
    let flag := fun k : Nat => byteAt c k ≠ 0
    (n.kind = .gas → s.handAnswer node .gas c true = s ∧
      (let t := s.handAnswer node .gas c false
       let status : HeadStatus :=
        if byteAt c 4 = 0 then .ready else if byteAt c 4 = 1 then .warmup else .fault
       let raised := fun (maximum raw : Nat) (p : Option Peak) =>
        let r : Peak := { value := min maximum raw, overRange := decide (maximum < raw) }
        some (match p with
          | none => r
          | some q => { value := max q.value r.value, overRange := q.overRange || r.overRange })
       Table.get t.nodes node = some { n with
        head := { status := status
                  coPeak := if status = .ready then raised 999 (word2At c 0) n.head.coPeak else n.head.coPeak
                  no2Peak := if status = .ready then raised 250 (word2At c 2) n.head.no2Peak else n.head.no2Peak } } ∧
       (∀ m, m ≠ node → Table.get t.nodes m = Table.get s.nodes m) ∧
       (if status = .fault ∧ n.head.status ≠ .fault then s.raise .node node .headFault else s).keepsBut t [.nodes])) ∧
    (n.kind = .dimmer → ∀ rebound, let t := s.handAnswer node .dimmer c rebound
      (∀ k, Table.get t.lights k = (Table.get s.lights k).map (fun l => if l.node = node then
        { l with applied := some (min (byteAt c 0).toNat 100), failedLamps := some (min (byteAt c 1).toNat 63) }
        else l)) ∧ s.keepsBut t [.lights]) ∧
    (n.kind = .fan → ∀ rebound,
      let t := s.handAnswer node .fan c rebound
      let report : DriveReport :=
        { running := decide (flag 0), speed := min 100 (byteAt c 1).toNat, fault := decide (flag 2) }
      let proven : Proof := { expiry := s.seconds + BitVec.ofNat 32 s.settings.proofTime, proven := true }
      s.groupsJudged t (fun g => g.drives.any (fun d => decide (d.node = node))) (fun g =>
        { g with
          drives := g.drives.map (fun d => if d.node = node then { d with report := some report } else d)
          proof := if flag 0 ∧ g.state = .running then some proven else g.proof }) ∧
      s.zonesFollow t ∧ s.signsFollow t (fun g => g) ∧ s.itemsStand t [.fire, .node, .bay, .link] ∧
      s.keepsBut t (ownerParts .fan)) ∧
    (n.kind = .sign → ∀ rebound, let t := s.handAnswer node .sign c rebound
      (∀ k, Table.get t.signs k = (Table.get s.signs k).map (fun g =>
        if g.config.node ≠ node then g
        else if g.sent = none then { g with displayFault := some (decide (flag 1)) }
        else
          let accepted := if byteAt c 0 = 1 then g.sent else g.accepted
          { g with
            displayFault := some (decide (flag 1)), sent := none, accepted := accepted
            dirty := decide (accepted ≠ some g.content) })) ∧ s.keepsBut t [.signs]) ∧
    (n.kind = .sensor → ∀ rebound,
      let t := s.handAnswer node .sensor c rebound
      let read := (List.range 16).foldl (fun u k => u.applyReading node k
        (if byteAt c k = 0 then .vacant else if byteAt c k = 1 then .present
         else if byteAt c k = 3 then .unused else .fault)) s
      (¬flag 16 → t = read) ∧
      (flag 16 → (∀ k, Table.get t.lights k = (Table.get read.lights k).map (fun l =>
          if n.zone = some l.zone ∧ l.state ≠ .forced then
            { l with
              state := .active, policy := l.settings.active, nextRamp := none
              holdExpiry := some (s.seconds + BitVec.ofNat 32 l.settings.hold)
              level := (l.ovr.map (fun o => o.level)).getD l.settings.active }
          else l)) ∧ read.keepsBut t [.lights])) ∧
    (let t := s.noticeLost node n.kind
     s.itemsStand t [.node] ∧
     (if n.kind = .gas then
        Table.get t.nodes node = some { n with head := { n.head with status := .unreported } } ∧
        (∀ m, m ≠ node → Table.get t.nodes m = Table.get s.nodes m) ∧ s.keepsBut t [.nodes]
      else s.ownersLost t (fun m => decide (m = node)) ∧ s.keepsBut t (ownerParts n.kind))) ∧
    (let t := s.noticeRestored node n.kind
     s.ownersRestored t node ∧ s.itemsStand t [.node] ∧ s.keepsBut t (ownerParts n.kind))

/-- R159, R161, R162, R166, R170, R172: no answer within the limit is NO_ANSWER, a broken one CUT. The miss is counted to
15 at most; at the miss limit a LIVE or UNSEEN node becomes SILENT with its revisit counts cleared, and a NODE
item SILENT stands in both sets; a pending suspension is then applied. The owners of a node that has fallen
SILENT or SUSPENDED are told, and their records follow. A visit whose node was retired, or that RESTART met,
ends without a miss or a notice. Model's choices: the time base goes on to the moment
(log 3), the limit counted from the call's building (log 6); neither command has an effect without a visit in
flight, and of the two only the one due has one (log 1); a pending suspension clears the due flag too (log 22);
and one asked for while a visit that RESTART met is still in flight is applied at that visit's end (log 21). -/
def Obligations.VisitsFail : Prop :=
  ∀ (s : State) (i : SpanId),
    ((s.span i).visit = none → exec (.answerLimitExpiry i) s = .next s ∧ exec (.answerGapTimeout i) s = .next s) ∧
    (∀ v : Visit, (s.span i).visit = some v →
      (v.answer = [] → exec (.answerGapTimeout i) s = .next s) ∧
      (v.answer ≠ [] → exec (.answerLimitExpiry i) s = .next s)) ∧
    ∀ (v : Visit) (cmd : Instr) (e : VisitError) (moment : Millis), (s.span i).visit = some v →
      (v.answer = [] ∧ cmd = .answerLimitExpiry i ∧ e = .noAnswer ∧ moment = v.waitFrom + v.limit ∨
        v.answer ≠ [] ∧ cmd = .answerGapTimeout i ∧ e = .cut ∧ moment = v.lastByte + 2) →
      ∃ t, exec cmd s = .next t ∧ s.movedTo t moment ∧
        (v.fate ≠ .counted → s.visitDiscarded t i v clockParts) ∧
        ∀ n : Node, v.fate = .counted → Table.get s.nodes v.node = some n → s.visitFails t i v n e clockParts

/-- R163 to R165: a RUNNING span with no visit in flight whose line sticks becomes STUCK, its first retry
1,000 ms later; a visit that waits for its answer ends NO_ANSWER first, or with its outcome discarded where its
node was retired or RESTART met it (R170, R172). A freed span keeps its position and round start, and its round
goes on while a node is left to visit. At 10,000 ms its LIVE and UNSEEN nodes
become SILENT once, miss count and last error kept, and their owners are told; a retry on an idle line frees
it, on a busy one sets the next retry. The items STUCK, SILENT and FREED stand in both sets. Model's choices:
the time base goes on to the event's moment (log 3), for a line that sticks 20 ms after the last moment at which
the part knows it not to have been busy (log 42); the waiting visit ends first, by the same command (log 24), its
limit counted from the call's building (log 6), a pending suspension clearing the due flag too (log 22), and one
asked for since a RESTART that met the visit applied (log 21); a span that is not STUCK is touched by neither of
the last two, one that is STUCK not by the first (log 1). -/
def Obligations.SpanSticksAndFrees : Prop :=
  ∀ (s : State) (i : SpanId),
    let object := 256 + spanNumber i
    let sticks := fun (u t : State) =>
      u.movedTo t ((u.span i).watchFrom + 20) ∧
      t.span i = { u.span i with stuck := some { since := t.ms, retry := t.ms + 1000, silenced := false } } ∧
      (∀ p : Port, Table.get (t.port p).att.node object = some .stuck) ∧
      u.keepsBut t (clockParts ++ [.span i, .items .main, .items .panel])
    ((s.span i).stuck = none → (s.span i).visit = none →
      ∃ t, exec (.spanStuck i) s = .next t ∧ sticks s t) ∧
    (∀ v : Visit, (s.span i).stuck = none → (s.span i).visit = some v → v.answer = [] →
      ∃ u t, exec (.spanStuck i) s = .next t ∧ s.movedTo u (v.waitFrom + v.limit) ∧
        (v.fate ≠ .counted → s.visitDiscarded u i v clockParts) ∧
        (∀ n : Node, v.fate = .counted → Table.get s.nodes v.node = some n →
          s.visitFails u i v n .noAnswer clockParts) ∧
        (u.span i).watchFrom = (s.span i).watchFrom ∧ sticks u t) ∧
    ((s.span i).stuck = none →
      exec (.stuckSilencing i) s = .next s ∧ ∀ idle, exec (.stuckRetry i idle) s = .next s) ∧
    (∀ v, (s.span i).visit = some v → v.answer ≠ [] → exec (.spanStuck i) s = .next s) ∧
    ∀ k : Stuck, (s.span i).stuck = some k →
      exec (.spanStuck i) s = .next s ∧
      (k.silenced = true → exec (.stuckSilencing i) s = .next s) ∧
      (k.silenced = false → s.tablesSound → s.placesSound →
        let falls := fun n : Node => decide (n.span = i ∧ (n.liveness = .live ∨ n.liveness = .unseen))
        ∃ t, exec (.stuckSilencing i) s = .next t ∧ s.movedTo t (k.since + 10000) ∧
          t.span i = { s.span i with stuck := some { k with silenced := true } } ∧
          (∀ m, Table.get t.nodes m = (Table.get s.nodes m).map (fun n => if falls n then
            { n with
              liveness := .silent, roundsPassed := 0, due := false
              head := if n.kind = .gas then { n.head with status := .unreported } else n.head } else n)) ∧
          (∀ (p : Port) (m : Nat), Table.get (t.port p).att.node m =
            if (Table.get s.nodes m).any falls then some .silent else Table.get (s.port p).att.node m) ∧
          s.ownersLost t (fun m => (Table.get s.nodes m).any falls) ∧
          s.keepsBut t (clockParts ++ [.span i, .nodes, .bays, .zones, .signs, .lights, .fans, .queue,
            .items .main, .items .panel])) ∧
      (∃ t, exec (.stuckRetry i true) s = .next t ∧ s.movedTo t k.retry ∧ (t.span i).stuck = none ∧
        (t.span i).visit = (s.span i).visit ∧ (t.span i).roundStart = (s.span i).roundStart ∧
        (s.tablesSound → s.placesSound → t.roundFollows i { s.span i with stuck := none, watchFrom := t.ms }) ∧
        (∀ p : Port, Table.get (t.port p).att.node object = some .freed) ∧
        s.keepsBut t (clockParts ++ [.span i, .items .main, .items .panel])) ∧
      (∃ t, exec (.stuckRetry i false) s = .next t ∧ s.movedTo t k.retry ∧
        t.span i = { s.span i with stuck := some { k with retry := k.retry + 1000 } } ∧
        s.keepsBut t (clockParts ++ [.span i]))

/-! ### Links (spec/09) -/

/-- R174, R175: what a byte makes of a receiver. HUNTING, a good start byte begins a frame and any other byte
is dropped; within a frame a bad stop bit or a length below 4 drops it, an unfinished one takes the byte in;
DRAINING drops every byte. In none of these does anything but the port's receiver and last-byte moment
change.
R174, R175: a gap of more than 20 ms discards a partial frame, and 20 ms of idle line end DRAINING; the time
base goes on to that moment (the model's choice, log 3), for the gap the millisecond at which 20 ms have passed
(log 44). No place, item or record is touched; without a partial
frame, or when not DRAINING, nothing happens (the model's choice, log 1). -/
def Obligations.ReceiverTakesBytes : Prop :=
  (∀ (s : State) (p : Port) (b : Byte) (stopOk key : Bool),
     let becomes := fun r : Receiver => ∃ t, exec (.linkByteReceived p b stopOk key) s = .next t ∧
       t.port p = { s.port p with receiver := r, lastByte := s.ms } ∧ s.keepsBut t [.link p]
     ((s.port p).receiver = .hunting →
       becomes (if stopOk = true ∧ b = 0xC3 then .receiving [] else .hunting)) ∧
     ((s.port p).receiver = .draining → becomes .draining) ∧
     ∀ bytes, (s.port p).receiver = .receiving bytes →
       (stopOk = false → becomes .hunting) ∧
       (stopOk = true →
         let frame := bytes ++ [b]
         let length := (byteAt frame 0).toNat
         (length < 4 → becomes .hunting) ∧
         (4 ≤ length → length ≤ 244 → frame.length < length + 1 → becomes (.receiving frame)) ∧
         (244 < length → frame.length < 4 → becomes (.receiving frame)))) ∧
  (∀ (s : State) (p : Port),
     let hunts := fun cmd : Instr => ∃ t, exec cmd s = .next t ∧ s.movedTo t ((s.port p).lastByte + 20) ∧
       t.port p = { s.port p with receiver := .hunting } ∧ s.keepsBut t (clockParts ++ [.link p])
     (∀ bytes, (s.port p).receiver = .receiving bytes → hunts (.frameGapTimeout p)) ∧
     ((s.port p).receiver = .hunting ∨ (s.port p).receiver = .draining → exec (.frameGapTimeout p) s = .next s) ∧
     ((s.port p).receiver = .draining → hunts (.drainingEnd p)) ∧
     ((s.port p).receiver = .hunting ∨ (∃ bytes, (s.port p).receiver = .receiving bytes) →
       exec (.drainingEnd p) s = .next s))

/-- R175 to R177, R179: a frame completed by its last byte. With a good check byte it is a request, and it
arrives as the command of the request that its code and payload spell does, with SERVICE KEY as at that byte;
the receiver hunts. With a bad check byte, and with a length above 244 once its tag has come, a bad frame with
its tag arrives, and the receiver hunts or drains. In the model's own terms, which are its choices, each good
frame is one UNKNOWN_REQUEST of its code and payload (log 10), each bad one a BAD_FRAME_ANSWER (log 11). -/
def Obligations.CompletedFramesArrive : Prop :=
  ∀ (s : State) (p : Port) (b : Byte) (bytes : List Byte) (key : Bool),
    (s.port p).receiver = .receiving bytes →
    let frame := bytes ++ [b]
    let length := (byteAt frame 0).toNat
    let code := (byteAt frame 2).toNat
    let payload := (frame.drop 4).take (length - 4)
    let head : Head := { port := p, cls := byteAt frame 1, tag := byteAt frame 3, key := key }
    let after := fun r : Receiver => s.withPort p { s.port p with receiver := r, lastByte := s.ms }
    (4 ≤ length → length ≤ 244 → frame.length = length + 1 →
      (byteSum frame = 0 →
        (∀ cmd : Instr, requestRow cmd = some (head, parseRequest code payload) →
          exec (.linkByteReceived p b true key) s = exec cmd (after .hunting)) ∧
        exec (.linkByteReceived p b true key) s =
          exec (.unknownRequest head code payload) (after .hunting)) ∧
      (byteSum frame ≠ 0 → exec (.linkByteReceived p b true key) s =
        exec (.badFrameAnswer p (byteAt frame 3)) (after .hunting))) ∧
    (244 < length → 4 ≤ frame.length →
      exec (.linkByteReceived p b true key) s = exec (.badFrameAnswer p (byteAt frame 3)) (after .draining))

/-- R176, R178, R179: where an arriving request goes, for every request command and for the raw codes: into
the free waiting place while another is being served, away with a LINK item OVERRUN when both are full; and
into an empty service place, where a class its port does not admit is answered CLASS. A bad frame goes the
same way and is answered BAD_FRAME; a code that is none of 1-42 is answered UNKNOWN_REQUEST. Model's choices: a
request's command is the arrival of its frame (log 8), UNKNOWN_REQUEST that of a frame of a raw code (log 10),
BAD_FRAME_ANSWER that of a bad frame (log 11), and the waiting place holds the request read from its frame, not
the bytes (log 9). -/
def Obligations.RequestsArrive : Prop :=
  ∀ (s : State) (p : Port),
    let places := fun (cmd : Instr) (item : Placed) => (s.port p).service ≠ none →
      ((s.port p).waiting = none → ∃ t, exec cmd s = .next t ∧
        t.port p = { s.port p with waiting := some item } ∧ s.keepsBut t [.places p]) ∧
      ((s.port p).waiting ≠ none → ∃ t, exec cmd s = .next t ∧
        (∀ q : Port, Table.get (t.port q).att.link (if p = .main then 0 else 1) = some .overrun ∧
          (t.port q).service = (s.port q).service ∧ (t.port q).waiting = (s.port q).waiting) ∧
        s.keepsBut t [.items .main, .items .panel])
    (∀ (cmd : Instr) (h : Head) (body : Request), requestRow cmd = some (h, body) → h.port = p →
      places cmd (.request h.cls h.tag body) ∧
      ((s.port p).service = none → admitted p h.key h.cls = none → s.refuses cmd h body .classRefused)) ∧
    (∀ (h : Head) (c : Cls) (code : Nat) (payload : List Byte), s.accepts h c → code = 0 ∨ 42 < code →
      s.refuses (.unknownRequest h code payload) h (.unknown code) .unknownRequest) ∧
    ∀ tag : Byte, places (.badFrameAnswer p tag) (.badFrame tag) ∧
      ((s.port p).service = none → ∃ t, exec (.badFrameAnswer p tag) s = .next t ∧
        t.port p = { s.port p with
          service := some
            { item := .badFrame tag, reply := { tag := tag, result := .badFrame, payload := [] } } } ∧
        s.keepsBut t [.places p])

/-- R176, R177, R178: the end of a reply that is not a RESTART's OK frees the service place; a waiting request
moves up and is taken as if it arrived then, with SERVICE KEY as sampled then, and a waiting bad frame is
answered. Model's choices: the waiting place holds the request read from its frame (log 9), a bad frame is its
BAD_FRAME_ANSWER (log 11), and without a reply being sent nothing happens (log 1). -/
def Obligations.ReplySentFreesThePlace : Prop :=
  ∀ (s : State) (p : Port) (key : Bool),
    ((s.port p).service = none → exec (.replySent p key) s = .next s) ∧
    ∀ v : Service, (s.port p).service = some v → v.isRestart = false →
      let freed := s.withPort p { s.port p with service := none, waiting := none }
      ((s.port p).waiting = none → exec (.replySent p key) s = .next freed) ∧
      (∀ tag, (s.port p).waiting = some (.badFrame tag) →
        exec (.replySent p key) s = exec (.badFrameAnswer p tag) freed) ∧
      ∀ (cls tag : Byte) (body : Request) (cmd : Instr), (s.port p).waiting = some (.request cls tag body) →
        requestRow cmd = some ({ port := p, cls := cls, tag := tag, key := key }, body) →
        exec (.replySent p key) s = exec cmd freed

/-- R195, R196, R179 steps 2 and 3: the code and payload that spell a request, with every value that fits its
field, are read back as that request, and its frame, byte for byte behind the start byte, is complete and good
at its last byte and not before. An absent value is read back as absent, whatever the model's choices for its
bytes (logs 12, 13). -/
def Obligations.RequestsRoundTrip : Prop :=
  ∀ (cls tag : Byte) (r : Request), requestFits r = true →
    (let e := encodeRequest r
     parseRequest e.1 e.2 = r ∧ 1 ≤ e.1 ∧ e.1 ≤ 42) ∧
    ((encodeRequest r).2.length ≤ 240 →
      judgeFrame (requestFrame cls tag r) = .good cls (byte (encodeRequest r).1) tag (encodeRequest r).2 ∧
      ∀ n, 1 ≤ n → n < (requestFrame cls tag r).length →
        judgeFrame ((requestFrame cls tag r).take n) = .more (.receiving ((requestFrame cls tag r).take n)))

/-! ### The whole part -/

/-- One step takes the command at the front of the queue and runs it with the rest waiting, the block's
counterpart of running the decoded instruction; on an empty queue one millisecond of the time base passes
(the model's choice, log 2), and the one that completes a second advances the seconds count (R192). -/
def Obligations.StepRunsTheFrontCommand : Prop :=
  (∀ (s : State) (c : Instr) (rest : List Instr), step { s with pending := c :: rest } = exec c { s with pending := rest }) ∧
  ∀ s : State, s.pending = [] → s.secondAt ≤ s.ms → s.ms < s.secondAt + 1000 →
    step s = .next (if s.ms + 1 = s.secondAt + 1000
      then { s with ms := s.ms + 1, secondAt := s.secondAt + 1000, seconds := s.seconds + 1 }
      else { s with ms := s.ms + 1 })

/-- R192: each 1,000 ms advance the seconds count by one, modulo 2^32: after every step the count is the whole
seconds of the millisecond timing, and SECONDS_COUNT_ADVANCE takes the time base to the next second (the
model's choice, log 3). R193, R103, R173: a full reset puts everything back:
the counts 0, every table, set and place empty, the settings at their defaults, the straps read, the FIRE
filter CLEAR with a pending rise due 200 ms on when the line is asserted. Model's choices: SERVICE KEY's sample
is the pin's level (log 7), the whole time for which RESET is held is this one step (log 41), and the queue and
the count of free values drawn are kept (logs 27, 36). -/
def Obligations.SecondsAndFullReset : Prop :=
  (∀ s t : State, s.timeSound → step s = .next t → t.timeSound) ∧
  ∀ s : State,
    (∃ t, exec .secondsCountAdvance s = .next t ∧ s.movedTo t (s.secondAt + 1000) ∧ s.keepsBut t clockParts ∧
      (s.ms < s.secondAt + 2000 →
        t.seconds = s.seconds + 1 ∧ t.secondAt = s.secondAt + 1000 ∧ t.ms = max s.ms (s.secondAt + 1000))) ∧
    ∀ pins : Pins, ∃ t, exec (.fullReset pins) s = .next t ∧
      t.seconds = 0 ∧ t.ms = 0 ∧ t.secondAt = 0 ∧
      t.rate.getLsbD 0 = pins.rate0 ∧ t.rate.getLsbD 1 = pins.rate1 ∧ t.serviceKey = pins.key ∧
      t.bays = [] ∧ t.zones = [] ∧ t.fans = [] ∧ t.signs = [] ∧ t.lights = [] ∧ t.nodes = [] ∧
      t.queue = [] ∧ t.slot = none ∧ t.airNext = 10 ∧ t.fanNext = 5 ∧
      t.fire = { line := pins.fireLine, taken := false, change := if pins.fireLine then some 200 else none
                 zone := none, codes := pins.codes, pendingZone := none } ∧
      t.fireFlag = false ∧ t.fumeSet = 0 ∧ t.facilityMap = 0 ∧ t.operatorMap = 0 ∧
      t.settings = { airPeriod := 10, fanPeriod := 5, startInterval := 5, arrivalConfirm := 3,
                     departureConfirm := 4, proofTime := 15, missLimit := 3, limit0 := 8, limit1 := 8,
                     limit2 := 8, limit3 := 8, revisit := 8 } ∧
      (∀ p : Port, t.port p =
        { receiver := .hunting, lastByte := 0, service := none, waiting := none, attn := false
          att := { fire := [], air := [], fan := [], node := [], bay := [], link := [], enables := 0 } }) ∧
      (∀ i : SpanId, (t.span i).stuck = none ∧ (t.span i).position = none ∧ (t.span i).visit = none) ∧
      t.pending = s.pending ∧ t.freeCount = s.freeCount

/-- Every invariant of this file holds right after reset. -/
def Obligations.ResetMeetsEveryInvariant : Prop :=
  let s := State.reset
  s.linesSound ∧ s.tablesSound ∧ s.settings.sound ∧ s.fireSound ∧ s.filterSound ∧ s.causesSound ∧
  s.fumeSetSound ∧ s.fansPlaced ∧ s.airSound ∧ s.forcingSound ∧ s.levelsSound ∧ s.stacksSound ∧
  s.speedsSound ∧ s.queueSound ∧ s.queueOrdered ∧ s.baysPlaced ∧ s.countsSound ∧ s.reservationsSound ∧
  s.signsPlaced ∧ s.signsSound ∧ s.placesSound ∧ s.levelsConsistent ∧ s.setsSound ∧ s.timeSound ∧ s.targetsSound

/-! ### Invariants every step keeps -/

/-- R189: an attention line is asserted exactly while its set holds a pending item of an enabled class, after
every step, and a full reset deasserts both lines. -/
def Obligations.LinesFollowTheSets : Prop :=
  (∀ s t : State, s.linesSound → step s = .next t → t.linesSound) ∧
  ∀ (s : State) (pins : Pins), ∃ t, exec (.fullReset pins) s = .next t ∧ t.main.attn = false ∧ t.panel.attn = false

/-- R1, R27, R75, R116, R135, R154: the tables stay canonical, their numbers rising and within the tables'
sizes; R183: the part-wide settings stay in their ranges, and R40: every zone's settings a consistent set;
R187: in each class of both attention sets the pending objects rise, each once, and are objects of the class,
so that the first is the lowest; R19, R97, R130, R149, R168: no two bays share a channel of a head, no two
drives, signs or luminaire groups a node, no two nodes an address of a span. -/
def Obligations.TablesAndSettingsStaySound : Prop :=
  (∀ s t : State, s.tablesSound → s.settings.sound → step s = .next t → t.tablesSound ∧ t.settings.sound) ∧
  (∀ s t : State, s.tablesSound → s.levelsConsistent → step s = .next t → t.levelsConsistent) ∧
  (∀ s t : State, s.tablesSound → s.setsSound → step s = .next t → t.setsSound) ∧
  (∀ s t : State, s.tablesSound → s.placesSound → step s = .next t → t.placesSound)

/-- R103, R104, R105, R139: after every step the latched zone is present exactly while fire mode is active,
a zone is pending only then, a line change is pending exactly while the raw line differs from the taken
level, and the lighting controller's fire flag says the same as the filter.
R38, R67, R71, R139: after every step each zone carries FIRE exactly while fire mode is active, FUME
exactly while it is in FUME, and AIR exactly while it is AIR_LOST and in WARNING or FUME; the lighting
controller's fume set holds the zones in FUME. -/
def Obligations.FireAndClosureRecordsAgree : Prop :=
  (∀ s t : State, s.fireSound → s.filterSound → step s = .next t → t.fireSound ∧ t.filterSound) ∧
  (∀ s t : State, s.tablesSound → s.causesSound → s.fumeSetSound → step s = .next t →
     t.causesSound ∧ t.fumeSetSound)

/-- R69, R70: after every step a zone is AIR_LOST exactly while some group serves it and none that does is
available; and every zone a group serves is defined (R97, R98, R43). R92: the start queue holds exactly the
WAITING groups, each once, those whose top entry is FIRE ahead of the others. -/
def Obligations.QueueAndAirStatusFollowTheGroups : Prop :=
  (∀ s t : State, s.tablesSound → s.queueSound → step s = .next t → t.queueSound) ∧
  (∀ s t : State, s.tablesSound → s.stacksSound → s.queueSound → s.queueOrdered → step s = .next t →
    t.queueOrdered) ∧
  (∀ s t : State, s.tablesSound → s.queueSound → s.fansPlaced → s.airSound → step s = .next t →
     t.fansPlaced ∧ t.airSound)

/-- R136, R139 to R141: after every step a luminaire group is FORCED exactly while the fire flag is set or
its zone is in the fume set, its level is as R136's table gives it, and in fire mode it is 100. -/
def Obligations.LightsFollowForcing : Prop :=
  ∀ s t : State, s.fireSound → s.forcingSound → s.levelsSound → step s = .next t →
    t.forcingSound ∧ t.levelsSound ∧ (t.fire.taken = true → ∀ e ∈ t.lights, e.2.level = 100)

/-- R81: after every step each stack holds at most 4 entries, classes never decreasing from bottom to top,
and one FIRE entry, without expiry, exactly while fire mode is active. R88, R68: a group's commanded speed is 0
or lies between its Vmin and 100, and is non-zero only while the group is RUNNING; targets and the zones'
demands lie in 0-100. R85: while a served zone is in FUME, and its top entry is not FIRE, a group's target is
100, from the moment of the change on. -/
def Obligations.StacksAndSpeedsStaySound : Prop :=
  (∀ s t : State, s.tablesSound → s.stacksSound → step s = .next t → t.stacksSound) ∧
  (∀ s t : State, s.speedsSound → step s = .next t → t.speedsSound) ∧
  (∀ s t : State, s.tablesSound → s.targetsSound → step s = .next t → t.targetsSound)

/-- R28, R29: after every step each zone's tallies, total and free counts are those of its bays, and every
bay's zone is defined (R43). R14: a bay is RESERVED only with a reservation, and holds one only while it is
RESERVED, ARRIVING or UNKNOWN. -/
def Obligations.CountsFollowTheBays : Prop :=
  ∀ s t : State, s.tablesSound → s.baysPlaced → s.countsSound → s.reservationsSound → step s = .next t →
    t.baysPlaced ∧ t.countsSound ∧ t.reservationsSound

/-- R119 to R123: after every step each sign holds the content its definition has at that moment, and is
dirty exactly while what its node accepted is absent or differs. -/
def Obligations.SignsStayCurrent : Prop :=
  ∀ s t : State, s.signsPlaced → s.signsSound → step s = .next t → t.signsPlaced ∧ t.signsSound

/-! ### Whole-part rules -/

/-- R179, R181: a request whose result is neither OK nor OK_MASKED has changed nothing, and its reply is
empty. -/
def Obligations.RefusalsChangeNothing : Prop :=
  ∀ (p : Port) (body : Request) (c : Cls) (s : State),
    (serveRequest p body c s).result ≠ .ok → (serveRequest p body c s).result ≠ .okMasked →
    (serveRequest p body c s).state = s ∧ (serveRequest p body c s).payload = []

/-- R22, R45, R101, R133, R152, R171, R179 step 5, R180: what FACILITY and OPERATOR cannot do. No request of
theirs makes, moves or removes a definition, a setting, a permit map or a node, and none changes a bay, the OPERATOR cause of a
zone, the stack of a fan group or a luminaire group that lies outside their permit map. -/
def Obligations.ClassesKeepToTheirZones : Prop :=
  ∀ (p : Port) (body : Request) (c : Cls) (s : State), c = .facility ∨ c = .operator →
    let t := (serveRequest p body c s).state
    let map := if c = .facility then s.facilityMap else s.operatorMap
    t.nodes = s.nodes ∧ t.settings = s.settings ∧ t.facilityMap = s.facilityMap ∧ t.operatorMap = s.operatorMap ∧
    t.signs.map (fun e => (e.1, e.2.config)) = s.signs.map (fun e => (e.1, e.2.config)) ∧
    (∀ n, (Table.get s.bays n = none → Table.get t.bays n = none) ∧
      (Table.get s.zones n = none → Table.get t.zones n = none) ∧
      (Table.get s.fans n = none → Table.get t.fans n = none) ∧
      (Table.get s.lights n = none → Table.get t.lights n = none)) ∧
    (∀ n b, Table.get s.bays n = some b → ∃ b', Table.get t.bays n = some b' ∧ b'.zone = b.zone ∧
      b'.node = b.node ∧ b'.channel = b.channel ∧ b'.kind = b.kind ∧ b'.marks.noCount = b.marks.noCount ∧
      b'.marks.lampTest = b.marks.lampTest ∧ (b.zone ≤ 31 → map.getLsbD b.zone = false → b' = b)) ∧
    (∀ k z, Table.get s.zones k = some z → ∃ z', Table.get t.zones k = some z' ∧ z'.level = z.level ∧
      z'.settings = z.settings ∧ (map.getLsbD k = false ∨ c = .facility → z'.causes.operator = z.causes.operator)) ∧
    (∀ k g, Table.get s.fans k = some g → ∃ g', Table.get t.fans k = some g' ∧ g'.served = g.served ∧
      g'.settings = g.settings ∧ g'.drives = g.drives ∧
      ((∃ z, g.served.getLsbD z = true ∧ map.getLsbD z = false) → g'.stack = g.stack ∧ g'.state = g.state)) ∧
    (∀ k l, Table.get s.lights k = some l → ∃ l', Table.get t.lights k = some l' ∧ l'.zone = l.zone ∧
      l'.node = l.node ∧ l'.settings = l.settings ∧ (l.zone ≤ 31 → map.getLsbD l.zone = false → l' = l))
end

