-- ==== Sys2Proof/Laws/State.lean ====
section
/-! SUPPORT. What each update of the state does to each part of it, one lemma per part per update, so
that no later proof unfolds a record update. -/

namespace Sys2Proof.Machine

/-! ### One update per part -/

@[simp] theorem State.withBays_pending (s : State) (t : Table Bay) : (s.withBays t).pending = s.pending := rfl
@[simp] theorem State.withBays_seconds (s : State) (t : Table Bay) : (s.withBays t).seconds = s.seconds := rfl
@[simp] theorem State.withBays_ms (s : State) (t : Table Bay) : (s.withBays t).ms = s.ms := rfl
@[simp] theorem State.withBays_secondAt (s : State) (t : Table Bay) : (s.withBays t).secondAt = s.secondAt := rfl
@[simp] theorem State.withBays_rate (s : State) (t : Table Bay) : (s.withBays t).rate = s.rate := rfl
@[simp] theorem State.withBays_serviceKey (s : State) (t : Table Bay) : (s.withBays t).serviceKey = s.serviceKey := rfl
@[simp] theorem State.withBays_bays (s : State) (t : Table Bay) : (s.withBays t).bays = t := rfl
@[simp] theorem State.withBays_zones (s : State) (t : Table Bay) : (s.withBays t).zones = s.zones := rfl
@[simp] theorem State.withBays_airNext (s : State) (t : Table Bay) : (s.withBays t).airNext = s.airNext := rfl
@[simp] theorem State.withBays_fans (s : State) (t : Table Bay) : (s.withBays t).fans = s.fans := rfl
@[simp] theorem State.withBays_queue (s : State) (t : Table Bay) : (s.withBays t).queue = s.queue := rfl
@[simp] theorem State.withBays_slot (s : State) (t : Table Bay) : (s.withBays t).slot = s.slot := rfl
@[simp] theorem State.withBays_fanNext (s : State) (t : Table Bay) : (s.withBays t).fanNext = s.fanNext := rfl
@[simp] theorem State.withBays_fire (s : State) (t : Table Bay) : (s.withBays t).fire = s.fire := rfl
@[simp] theorem State.withBays_signs (s : State) (t : Table Bay) : (s.withBays t).signs = s.signs := rfl
@[simp] theorem State.withBays_lights (s : State) (t : Table Bay) : (s.withBays t).lights = s.lights := rfl
@[simp] theorem State.withBays_fireFlag (s : State) (t : Table Bay) : (s.withBays t).fireFlag = s.fireFlag := rfl
@[simp] theorem State.withBays_fumeSet (s : State) (t : Table Bay) : (s.withBays t).fumeSet = s.fumeSet := rfl
@[simp] theorem State.withBays_nodes (s : State) (t : Table Bay) : (s.withBays t).nodes = s.nodes := rfl
@[simp] theorem State.withBays_span0 (s : State) (t : Table Bay) : (s.withBays t).span0 = s.span0 := rfl
@[simp] theorem State.withBays_span1 (s : State) (t : Table Bay) : (s.withBays t).span1 = s.span1 := rfl
@[simp] theorem State.withBays_span2 (s : State) (t : Table Bay) : (s.withBays t).span2 = s.span2 := rfl
@[simp] theorem State.withBays_span3 (s : State) (t : Table Bay) : (s.withBays t).span3 = s.span3 := rfl
@[simp] theorem State.withBays_main (s : State) (t : Table Bay) : (s.withBays t).main = s.main := rfl
@[simp] theorem State.withBays_panel (s : State) (t : Table Bay) : (s.withBays t).panel = s.panel := rfl
@[simp] theorem State.withBays_facilityMap (s : State) (t : Table Bay) : (s.withBays t).facilityMap = s.facilityMap := rfl
@[simp] theorem State.withBays_operatorMap (s : State) (t : Table Bay) : (s.withBays t).operatorMap = s.operatorMap := rfl
@[simp] theorem State.withBays_settings (s : State) (t : Table Bay) : (s.withBays t).settings = s.settings := rfl
@[simp] theorem State.withBays_freeCount (s : State) (t : Table Bay) : (s.withBays t).freeCount = s.freeCount := rfl
@[simp] theorem State.withBays_port (s : State) (t : Table Bay) (p : Port) : (s.withBays t).port p = s.port p := rfl
@[simp] theorem State.withBays_span (s : State) (t : Table Bay) (i : SpanId) : (s.withBays t).span i = s.span i := rfl

@[simp] theorem State.withZones_pending (s : State) (t : Table Zone) : (s.withZones t).pending = s.pending := rfl
@[simp] theorem State.withZones_seconds (s : State) (t : Table Zone) : (s.withZones t).seconds = s.seconds := rfl
@[simp] theorem State.withZones_ms (s : State) (t : Table Zone) : (s.withZones t).ms = s.ms := rfl
@[simp] theorem State.withZones_secondAt (s : State) (t : Table Zone) : (s.withZones t).secondAt = s.secondAt := rfl
@[simp] theorem State.withZones_rate (s : State) (t : Table Zone) : (s.withZones t).rate = s.rate := rfl
@[simp] theorem State.withZones_serviceKey (s : State) (t : Table Zone) : (s.withZones t).serviceKey = s.serviceKey := rfl
@[simp] theorem State.withZones_bays (s : State) (t : Table Zone) : (s.withZones t).bays = s.bays := rfl
@[simp] theorem State.withZones_zones (s : State) (t : Table Zone) : (s.withZones t).zones = t := rfl
@[simp] theorem State.withZones_airNext (s : State) (t : Table Zone) : (s.withZones t).airNext = s.airNext := rfl
@[simp] theorem State.withZones_fans (s : State) (t : Table Zone) : (s.withZones t).fans = s.fans := rfl
@[simp] theorem State.withZones_queue (s : State) (t : Table Zone) : (s.withZones t).queue = s.queue := rfl
@[simp] theorem State.withZones_slot (s : State) (t : Table Zone) : (s.withZones t).slot = s.slot := rfl
@[simp] theorem State.withZones_fanNext (s : State) (t : Table Zone) : (s.withZones t).fanNext = s.fanNext := rfl
@[simp] theorem State.withZones_fire (s : State) (t : Table Zone) : (s.withZones t).fire = s.fire := rfl
@[simp] theorem State.withZones_signs (s : State) (t : Table Zone) : (s.withZones t).signs = s.signs := rfl
@[simp] theorem State.withZones_lights (s : State) (t : Table Zone) : (s.withZones t).lights = s.lights := rfl
@[simp] theorem State.withZones_fireFlag (s : State) (t : Table Zone) : (s.withZones t).fireFlag = s.fireFlag := rfl
@[simp] theorem State.withZones_fumeSet (s : State) (t : Table Zone) : (s.withZones t).fumeSet = s.fumeSet := rfl
@[simp] theorem State.withZones_nodes (s : State) (t : Table Zone) : (s.withZones t).nodes = s.nodes := rfl
@[simp] theorem State.withZones_span0 (s : State) (t : Table Zone) : (s.withZones t).span0 = s.span0 := rfl
@[simp] theorem State.withZones_span1 (s : State) (t : Table Zone) : (s.withZones t).span1 = s.span1 := rfl
@[simp] theorem State.withZones_span2 (s : State) (t : Table Zone) : (s.withZones t).span2 = s.span2 := rfl
@[simp] theorem State.withZones_span3 (s : State) (t : Table Zone) : (s.withZones t).span3 = s.span3 := rfl
@[simp] theorem State.withZones_main (s : State) (t : Table Zone) : (s.withZones t).main = s.main := rfl
@[simp] theorem State.withZones_panel (s : State) (t : Table Zone) : (s.withZones t).panel = s.panel := rfl
@[simp] theorem State.withZones_facilityMap (s : State) (t : Table Zone) : (s.withZones t).facilityMap = s.facilityMap := rfl
@[simp] theorem State.withZones_operatorMap (s : State) (t : Table Zone) : (s.withZones t).operatorMap = s.operatorMap := rfl
@[simp] theorem State.withZones_settings (s : State) (t : Table Zone) : (s.withZones t).settings = s.settings := rfl
@[simp] theorem State.withZones_freeCount (s : State) (t : Table Zone) : (s.withZones t).freeCount = s.freeCount := rfl
@[simp] theorem State.withZones_port (s : State) (t : Table Zone) (p : Port) : (s.withZones t).port p = s.port p := rfl
@[simp] theorem State.withZones_span (s : State) (t : Table Zone) (i : SpanId) : (s.withZones t).span i = s.span i := rfl

@[simp] theorem State.withFans_pending (s : State) (t : Table Fan) : (s.withFans t).pending = s.pending := rfl
@[simp] theorem State.withFans_seconds (s : State) (t : Table Fan) : (s.withFans t).seconds = s.seconds := rfl
@[simp] theorem State.withFans_ms (s : State) (t : Table Fan) : (s.withFans t).ms = s.ms := rfl
@[simp] theorem State.withFans_secondAt (s : State) (t : Table Fan) : (s.withFans t).secondAt = s.secondAt := rfl
@[simp] theorem State.withFans_rate (s : State) (t : Table Fan) : (s.withFans t).rate = s.rate := rfl
@[simp] theorem State.withFans_serviceKey (s : State) (t : Table Fan) : (s.withFans t).serviceKey = s.serviceKey := rfl
@[simp] theorem State.withFans_bays (s : State) (t : Table Fan) : (s.withFans t).bays = s.bays := rfl
@[simp] theorem State.withFans_zones (s : State) (t : Table Fan) : (s.withFans t).zones = s.zones := rfl
@[simp] theorem State.withFans_airNext (s : State) (t : Table Fan) : (s.withFans t).airNext = s.airNext := rfl
@[simp] theorem State.withFans_fans (s : State) (t : Table Fan) : (s.withFans t).fans = t := rfl
@[simp] theorem State.withFans_queue (s : State) (t : Table Fan) : (s.withFans t).queue = s.queue := rfl
@[simp] theorem State.withFans_slot (s : State) (t : Table Fan) : (s.withFans t).slot = s.slot := rfl
@[simp] theorem State.withFans_fanNext (s : State) (t : Table Fan) : (s.withFans t).fanNext = s.fanNext := rfl
@[simp] theorem State.withFans_fire (s : State) (t : Table Fan) : (s.withFans t).fire = s.fire := rfl
@[simp] theorem State.withFans_signs (s : State) (t : Table Fan) : (s.withFans t).signs = s.signs := rfl
@[simp] theorem State.withFans_lights (s : State) (t : Table Fan) : (s.withFans t).lights = s.lights := rfl
@[simp] theorem State.withFans_fireFlag (s : State) (t : Table Fan) : (s.withFans t).fireFlag = s.fireFlag := rfl
@[simp] theorem State.withFans_fumeSet (s : State) (t : Table Fan) : (s.withFans t).fumeSet = s.fumeSet := rfl
@[simp] theorem State.withFans_nodes (s : State) (t : Table Fan) : (s.withFans t).nodes = s.nodes := rfl
@[simp] theorem State.withFans_span0 (s : State) (t : Table Fan) : (s.withFans t).span0 = s.span0 := rfl
@[simp] theorem State.withFans_span1 (s : State) (t : Table Fan) : (s.withFans t).span1 = s.span1 := rfl
@[simp] theorem State.withFans_span2 (s : State) (t : Table Fan) : (s.withFans t).span2 = s.span2 := rfl
@[simp] theorem State.withFans_span3 (s : State) (t : Table Fan) : (s.withFans t).span3 = s.span3 := rfl
@[simp] theorem State.withFans_main (s : State) (t : Table Fan) : (s.withFans t).main = s.main := rfl
@[simp] theorem State.withFans_panel (s : State) (t : Table Fan) : (s.withFans t).panel = s.panel := rfl
@[simp] theorem State.withFans_facilityMap (s : State) (t : Table Fan) : (s.withFans t).facilityMap = s.facilityMap := rfl
@[simp] theorem State.withFans_operatorMap (s : State) (t : Table Fan) : (s.withFans t).operatorMap = s.operatorMap := rfl
@[simp] theorem State.withFans_settings (s : State) (t : Table Fan) : (s.withFans t).settings = s.settings := rfl
@[simp] theorem State.withFans_freeCount (s : State) (t : Table Fan) : (s.withFans t).freeCount = s.freeCount := rfl
@[simp] theorem State.withFans_port (s : State) (t : Table Fan) (p : Port) : (s.withFans t).port p = s.port p := rfl
@[simp] theorem State.withFans_span (s : State) (t : Table Fan) (i : SpanId) : (s.withFans t).span i = s.span i := rfl

@[simp] theorem State.withQueue_pending (s : State) (q : List Nat) : (s.withQueue q).pending = s.pending := rfl
@[simp] theorem State.withQueue_seconds (s : State) (q : List Nat) : (s.withQueue q).seconds = s.seconds := rfl
@[simp] theorem State.withQueue_ms (s : State) (q : List Nat) : (s.withQueue q).ms = s.ms := rfl
@[simp] theorem State.withQueue_secondAt (s : State) (q : List Nat) : (s.withQueue q).secondAt = s.secondAt := rfl
@[simp] theorem State.withQueue_rate (s : State) (q : List Nat) : (s.withQueue q).rate = s.rate := rfl
@[simp] theorem State.withQueue_serviceKey (s : State) (q : List Nat) : (s.withQueue q).serviceKey = s.serviceKey := rfl
@[simp] theorem State.withQueue_bays (s : State) (q : List Nat) : (s.withQueue q).bays = s.bays := rfl
@[simp] theorem State.withQueue_zones (s : State) (q : List Nat) : (s.withQueue q).zones = s.zones := rfl
@[simp] theorem State.withQueue_airNext (s : State) (q : List Nat) : (s.withQueue q).airNext = s.airNext := rfl
@[simp] theorem State.withQueue_fans (s : State) (q : List Nat) : (s.withQueue q).fans = s.fans := rfl
@[simp] theorem State.withQueue_queue (s : State) (q : List Nat) : (s.withQueue q).queue = q := rfl
@[simp] theorem State.withQueue_slot (s : State) (q : List Nat) : (s.withQueue q).slot = s.slot := rfl
@[simp] theorem State.withQueue_fanNext (s : State) (q : List Nat) : (s.withQueue q).fanNext = s.fanNext := rfl
@[simp] theorem State.withQueue_fire (s : State) (q : List Nat) : (s.withQueue q).fire = s.fire := rfl
@[simp] theorem State.withQueue_signs (s : State) (q : List Nat) : (s.withQueue q).signs = s.signs := rfl
@[simp] theorem State.withQueue_lights (s : State) (q : List Nat) : (s.withQueue q).lights = s.lights := rfl
@[simp] theorem State.withQueue_fireFlag (s : State) (q : List Nat) : (s.withQueue q).fireFlag = s.fireFlag := rfl
@[simp] theorem State.withQueue_fumeSet (s : State) (q : List Nat) : (s.withQueue q).fumeSet = s.fumeSet := rfl
@[simp] theorem State.withQueue_nodes (s : State) (q : List Nat) : (s.withQueue q).nodes = s.nodes := rfl
@[simp] theorem State.withQueue_span0 (s : State) (q : List Nat) : (s.withQueue q).span0 = s.span0 := rfl
@[simp] theorem State.withQueue_span1 (s : State) (q : List Nat) : (s.withQueue q).span1 = s.span1 := rfl
@[simp] theorem State.withQueue_span2 (s : State) (q : List Nat) : (s.withQueue q).span2 = s.span2 := rfl
@[simp] theorem State.withQueue_span3 (s : State) (q : List Nat) : (s.withQueue q).span3 = s.span3 := rfl
@[simp] theorem State.withQueue_main (s : State) (q : List Nat) : (s.withQueue q).main = s.main := rfl
@[simp] theorem State.withQueue_panel (s : State) (q : List Nat) : (s.withQueue q).panel = s.panel := rfl
@[simp] theorem State.withQueue_facilityMap (s : State) (q : List Nat) : (s.withQueue q).facilityMap = s.facilityMap := rfl
@[simp] theorem State.withQueue_operatorMap (s : State) (q : List Nat) : (s.withQueue q).operatorMap = s.operatorMap := rfl
@[simp] theorem State.withQueue_settings (s : State) (q : List Nat) : (s.withQueue q).settings = s.settings := rfl
@[simp] theorem State.withQueue_freeCount (s : State) (q : List Nat) : (s.withQueue q).freeCount = s.freeCount := rfl
@[simp] theorem State.withQueue_port (s : State) (q : List Nat) (p : Port) : (s.withQueue q).port p = s.port p := rfl
@[simp] theorem State.withQueue_span (s : State) (q : List Nat) (i : SpanId) : (s.withQueue q).span i = s.span i := rfl

@[simp] theorem State.withSlot_pending (s : State) (e : Option Seconds) : (s.withSlot e).pending = s.pending := rfl
@[simp] theorem State.withSlot_seconds (s : State) (e : Option Seconds) : (s.withSlot e).seconds = s.seconds := rfl
@[simp] theorem State.withSlot_ms (s : State) (e : Option Seconds) : (s.withSlot e).ms = s.ms := rfl
@[simp] theorem State.withSlot_secondAt (s : State) (e : Option Seconds) : (s.withSlot e).secondAt = s.secondAt := rfl
@[simp] theorem State.withSlot_rate (s : State) (e : Option Seconds) : (s.withSlot e).rate = s.rate := rfl
@[simp] theorem State.withSlot_serviceKey (s : State) (e : Option Seconds) : (s.withSlot e).serviceKey = s.serviceKey := rfl
@[simp] theorem State.withSlot_bays (s : State) (e : Option Seconds) : (s.withSlot e).bays = s.bays := rfl
@[simp] theorem State.withSlot_zones (s : State) (e : Option Seconds) : (s.withSlot e).zones = s.zones := rfl
@[simp] theorem State.withSlot_airNext (s : State) (e : Option Seconds) : (s.withSlot e).airNext = s.airNext := rfl
@[simp] theorem State.withSlot_fans (s : State) (e : Option Seconds) : (s.withSlot e).fans = s.fans := rfl
@[simp] theorem State.withSlot_queue (s : State) (e : Option Seconds) : (s.withSlot e).queue = s.queue := rfl
@[simp] theorem State.withSlot_slot (s : State) (e : Option Seconds) : (s.withSlot e).slot = e := rfl
@[simp] theorem State.withSlot_fanNext (s : State) (e : Option Seconds) : (s.withSlot e).fanNext = s.fanNext := rfl
@[simp] theorem State.withSlot_fire (s : State) (e : Option Seconds) : (s.withSlot e).fire = s.fire := rfl
@[simp] theorem State.withSlot_signs (s : State) (e : Option Seconds) : (s.withSlot e).signs = s.signs := rfl
@[simp] theorem State.withSlot_lights (s : State) (e : Option Seconds) : (s.withSlot e).lights = s.lights := rfl
@[simp] theorem State.withSlot_fireFlag (s : State) (e : Option Seconds) : (s.withSlot e).fireFlag = s.fireFlag := rfl
@[simp] theorem State.withSlot_fumeSet (s : State) (e : Option Seconds) : (s.withSlot e).fumeSet = s.fumeSet := rfl
@[simp] theorem State.withSlot_nodes (s : State) (e : Option Seconds) : (s.withSlot e).nodes = s.nodes := rfl
@[simp] theorem State.withSlot_span0 (s : State) (e : Option Seconds) : (s.withSlot e).span0 = s.span0 := rfl
@[simp] theorem State.withSlot_span1 (s : State) (e : Option Seconds) : (s.withSlot e).span1 = s.span1 := rfl
@[simp] theorem State.withSlot_span2 (s : State) (e : Option Seconds) : (s.withSlot e).span2 = s.span2 := rfl
@[simp] theorem State.withSlot_span3 (s : State) (e : Option Seconds) : (s.withSlot e).span3 = s.span3 := rfl
@[simp] theorem State.withSlot_main (s : State) (e : Option Seconds) : (s.withSlot e).main = s.main := rfl
@[simp] theorem State.withSlot_panel (s : State) (e : Option Seconds) : (s.withSlot e).panel = s.panel := rfl
@[simp] theorem State.withSlot_facilityMap (s : State) (e : Option Seconds) : (s.withSlot e).facilityMap = s.facilityMap := rfl
@[simp] theorem State.withSlot_operatorMap (s : State) (e : Option Seconds) : (s.withSlot e).operatorMap = s.operatorMap := rfl
@[simp] theorem State.withSlot_settings (s : State) (e : Option Seconds) : (s.withSlot e).settings = s.settings := rfl
@[simp] theorem State.withSlot_freeCount (s : State) (e : Option Seconds) : (s.withSlot e).freeCount = s.freeCount := rfl
@[simp] theorem State.withSlot_port (s : State) (e : Option Seconds) (p : Port) : (s.withSlot e).port p = s.port p := rfl
@[simp] theorem State.withSlot_span (s : State) (e : Option Seconds) (i : SpanId) : (s.withSlot e).span i = s.span i := rfl

@[simp] theorem State.withFire_pending (s : State) (f : FireMonitor) : (s.withFire f).pending = s.pending := rfl
@[simp] theorem State.withFire_seconds (s : State) (f : FireMonitor) : (s.withFire f).seconds = s.seconds := rfl
@[simp] theorem State.withFire_ms (s : State) (f : FireMonitor) : (s.withFire f).ms = s.ms := rfl
@[simp] theorem State.withFire_secondAt (s : State) (f : FireMonitor) : (s.withFire f).secondAt = s.secondAt := rfl
@[simp] theorem State.withFire_rate (s : State) (f : FireMonitor) : (s.withFire f).rate = s.rate := rfl
@[simp] theorem State.withFire_serviceKey (s : State) (f : FireMonitor) : (s.withFire f).serviceKey = s.serviceKey := rfl
@[simp] theorem State.withFire_bays (s : State) (f : FireMonitor) : (s.withFire f).bays = s.bays := rfl
@[simp] theorem State.withFire_zones (s : State) (f : FireMonitor) : (s.withFire f).zones = s.zones := rfl
@[simp] theorem State.withFire_airNext (s : State) (f : FireMonitor) : (s.withFire f).airNext = s.airNext := rfl
@[simp] theorem State.withFire_fans (s : State) (f : FireMonitor) : (s.withFire f).fans = s.fans := rfl
@[simp] theorem State.withFire_queue (s : State) (f : FireMonitor) : (s.withFire f).queue = s.queue := rfl
@[simp] theorem State.withFire_slot (s : State) (f : FireMonitor) : (s.withFire f).slot = s.slot := rfl
@[simp] theorem State.withFire_fanNext (s : State) (f : FireMonitor) : (s.withFire f).fanNext = s.fanNext := rfl
@[simp] theorem State.withFire_fire (s : State) (f : FireMonitor) : (s.withFire f).fire = f := rfl
@[simp] theorem State.withFire_signs (s : State) (f : FireMonitor) : (s.withFire f).signs = s.signs := rfl
@[simp] theorem State.withFire_lights (s : State) (f : FireMonitor) : (s.withFire f).lights = s.lights := rfl
@[simp] theorem State.withFire_fireFlag (s : State) (f : FireMonitor) : (s.withFire f).fireFlag = s.fireFlag := rfl
@[simp] theorem State.withFire_fumeSet (s : State) (f : FireMonitor) : (s.withFire f).fumeSet = s.fumeSet := rfl
@[simp] theorem State.withFire_nodes (s : State) (f : FireMonitor) : (s.withFire f).nodes = s.nodes := rfl
@[simp] theorem State.withFire_span0 (s : State) (f : FireMonitor) : (s.withFire f).span0 = s.span0 := rfl
@[simp] theorem State.withFire_span1 (s : State) (f : FireMonitor) : (s.withFire f).span1 = s.span1 := rfl
@[simp] theorem State.withFire_span2 (s : State) (f : FireMonitor) : (s.withFire f).span2 = s.span2 := rfl
@[simp] theorem State.withFire_span3 (s : State) (f : FireMonitor) : (s.withFire f).span3 = s.span3 := rfl
@[simp] theorem State.withFire_main (s : State) (f : FireMonitor) : (s.withFire f).main = s.main := rfl
@[simp] theorem State.withFire_panel (s : State) (f : FireMonitor) : (s.withFire f).panel = s.panel := rfl
@[simp] theorem State.withFire_facilityMap (s : State) (f : FireMonitor) : (s.withFire f).facilityMap = s.facilityMap := rfl
@[simp] theorem State.withFire_operatorMap (s : State) (f : FireMonitor) : (s.withFire f).operatorMap = s.operatorMap := rfl
@[simp] theorem State.withFire_settings (s : State) (f : FireMonitor) : (s.withFire f).settings = s.settings := rfl
@[simp] theorem State.withFire_freeCount (s : State) (f : FireMonitor) : (s.withFire f).freeCount = s.freeCount := rfl
@[simp] theorem State.withFire_port (s : State) (f : FireMonitor) (p : Port) : (s.withFire f).port p = s.port p := rfl
@[simp] theorem State.withFire_span (s : State) (f : FireMonitor) (i : SpanId) : (s.withFire f).span i = s.span i := rfl

@[simp] theorem State.withSigns_pending (s : State) (t : Table Sign) : (s.withSigns t).pending = s.pending := rfl
@[simp] theorem State.withSigns_seconds (s : State) (t : Table Sign) : (s.withSigns t).seconds = s.seconds := rfl
@[simp] theorem State.withSigns_ms (s : State) (t : Table Sign) : (s.withSigns t).ms = s.ms := rfl
@[simp] theorem State.withSigns_secondAt (s : State) (t : Table Sign) : (s.withSigns t).secondAt = s.secondAt := rfl
@[simp] theorem State.withSigns_rate (s : State) (t : Table Sign) : (s.withSigns t).rate = s.rate := rfl
@[simp] theorem State.withSigns_serviceKey (s : State) (t : Table Sign) : (s.withSigns t).serviceKey = s.serviceKey := rfl
@[simp] theorem State.withSigns_bays (s : State) (t : Table Sign) : (s.withSigns t).bays = s.bays := rfl
@[simp] theorem State.withSigns_zones (s : State) (t : Table Sign) : (s.withSigns t).zones = s.zones := rfl
@[simp] theorem State.withSigns_airNext (s : State) (t : Table Sign) : (s.withSigns t).airNext = s.airNext := rfl
@[simp] theorem State.withSigns_fans (s : State) (t : Table Sign) : (s.withSigns t).fans = s.fans := rfl
@[simp] theorem State.withSigns_queue (s : State) (t : Table Sign) : (s.withSigns t).queue = s.queue := rfl
@[simp] theorem State.withSigns_slot (s : State) (t : Table Sign) : (s.withSigns t).slot = s.slot := rfl
@[simp] theorem State.withSigns_fanNext (s : State) (t : Table Sign) : (s.withSigns t).fanNext = s.fanNext := rfl
@[simp] theorem State.withSigns_fire (s : State) (t : Table Sign) : (s.withSigns t).fire = s.fire := rfl
@[simp] theorem State.withSigns_signs (s : State) (t : Table Sign) : (s.withSigns t).signs = t := rfl
@[simp] theorem State.withSigns_lights (s : State) (t : Table Sign) : (s.withSigns t).lights = s.lights := rfl
@[simp] theorem State.withSigns_fireFlag (s : State) (t : Table Sign) : (s.withSigns t).fireFlag = s.fireFlag := rfl
@[simp] theorem State.withSigns_fumeSet (s : State) (t : Table Sign) : (s.withSigns t).fumeSet = s.fumeSet := rfl
@[simp] theorem State.withSigns_nodes (s : State) (t : Table Sign) : (s.withSigns t).nodes = s.nodes := rfl
@[simp] theorem State.withSigns_span0 (s : State) (t : Table Sign) : (s.withSigns t).span0 = s.span0 := rfl
@[simp] theorem State.withSigns_span1 (s : State) (t : Table Sign) : (s.withSigns t).span1 = s.span1 := rfl
@[simp] theorem State.withSigns_span2 (s : State) (t : Table Sign) : (s.withSigns t).span2 = s.span2 := rfl
@[simp] theorem State.withSigns_span3 (s : State) (t : Table Sign) : (s.withSigns t).span3 = s.span3 := rfl
@[simp] theorem State.withSigns_main (s : State) (t : Table Sign) : (s.withSigns t).main = s.main := rfl
@[simp] theorem State.withSigns_panel (s : State) (t : Table Sign) : (s.withSigns t).panel = s.panel := rfl
@[simp] theorem State.withSigns_facilityMap (s : State) (t : Table Sign) : (s.withSigns t).facilityMap = s.facilityMap := rfl
@[simp] theorem State.withSigns_operatorMap (s : State) (t : Table Sign) : (s.withSigns t).operatorMap = s.operatorMap := rfl
@[simp] theorem State.withSigns_settings (s : State) (t : Table Sign) : (s.withSigns t).settings = s.settings := rfl
@[simp] theorem State.withSigns_freeCount (s : State) (t : Table Sign) : (s.withSigns t).freeCount = s.freeCount := rfl
@[simp] theorem State.withSigns_port (s : State) (t : Table Sign) (p : Port) : (s.withSigns t).port p = s.port p := rfl
@[simp] theorem State.withSigns_span (s : State) (t : Table Sign) (i : SpanId) : (s.withSigns t).span i = s.span i := rfl

@[simp] theorem State.withLights_pending (s : State) (t : Table Light) : (s.withLights t).pending = s.pending := rfl
@[simp] theorem State.withLights_seconds (s : State) (t : Table Light) : (s.withLights t).seconds = s.seconds := rfl
@[simp] theorem State.withLights_ms (s : State) (t : Table Light) : (s.withLights t).ms = s.ms := rfl
@[simp] theorem State.withLights_secondAt (s : State) (t : Table Light) : (s.withLights t).secondAt = s.secondAt := rfl
@[simp] theorem State.withLights_rate (s : State) (t : Table Light) : (s.withLights t).rate = s.rate := rfl
@[simp] theorem State.withLights_serviceKey (s : State) (t : Table Light) : (s.withLights t).serviceKey = s.serviceKey := rfl
@[simp] theorem State.withLights_bays (s : State) (t : Table Light) : (s.withLights t).bays = s.bays := rfl
@[simp] theorem State.withLights_zones (s : State) (t : Table Light) : (s.withLights t).zones = s.zones := rfl
@[simp] theorem State.withLights_airNext (s : State) (t : Table Light) : (s.withLights t).airNext = s.airNext := rfl
@[simp] theorem State.withLights_fans (s : State) (t : Table Light) : (s.withLights t).fans = s.fans := rfl
@[simp] theorem State.withLights_queue (s : State) (t : Table Light) : (s.withLights t).queue = s.queue := rfl
@[simp] theorem State.withLights_slot (s : State) (t : Table Light) : (s.withLights t).slot = s.slot := rfl
@[simp] theorem State.withLights_fanNext (s : State) (t : Table Light) : (s.withLights t).fanNext = s.fanNext := rfl
@[simp] theorem State.withLights_fire (s : State) (t : Table Light) : (s.withLights t).fire = s.fire := rfl
@[simp] theorem State.withLights_signs (s : State) (t : Table Light) : (s.withLights t).signs = s.signs := rfl
@[simp] theorem State.withLights_lights (s : State) (t : Table Light) : (s.withLights t).lights = t := rfl
@[simp] theorem State.withLights_fireFlag (s : State) (t : Table Light) : (s.withLights t).fireFlag = s.fireFlag := rfl
@[simp] theorem State.withLights_fumeSet (s : State) (t : Table Light) : (s.withLights t).fumeSet = s.fumeSet := rfl
@[simp] theorem State.withLights_nodes (s : State) (t : Table Light) : (s.withLights t).nodes = s.nodes := rfl
@[simp] theorem State.withLights_span0 (s : State) (t : Table Light) : (s.withLights t).span0 = s.span0 := rfl
@[simp] theorem State.withLights_span1 (s : State) (t : Table Light) : (s.withLights t).span1 = s.span1 := rfl
@[simp] theorem State.withLights_span2 (s : State) (t : Table Light) : (s.withLights t).span2 = s.span2 := rfl
@[simp] theorem State.withLights_span3 (s : State) (t : Table Light) : (s.withLights t).span3 = s.span3 := rfl
@[simp] theorem State.withLights_main (s : State) (t : Table Light) : (s.withLights t).main = s.main := rfl
@[simp] theorem State.withLights_panel (s : State) (t : Table Light) : (s.withLights t).panel = s.panel := rfl
@[simp] theorem State.withLights_facilityMap (s : State) (t : Table Light) : (s.withLights t).facilityMap = s.facilityMap := rfl
@[simp] theorem State.withLights_operatorMap (s : State) (t : Table Light) : (s.withLights t).operatorMap = s.operatorMap := rfl
@[simp] theorem State.withLights_settings (s : State) (t : Table Light) : (s.withLights t).settings = s.settings := rfl
@[simp] theorem State.withLights_freeCount (s : State) (t : Table Light) : (s.withLights t).freeCount = s.freeCount := rfl
@[simp] theorem State.withLights_port (s : State) (t : Table Light) (p : Port) : (s.withLights t).port p = s.port p := rfl
@[simp] theorem State.withLights_span (s : State) (t : Table Light) (i : SpanId) : (s.withLights t).span i = s.span i := rfl

@[simp] theorem State.withFireFlag_pending (s : State) (b : Bool) : (s.withFireFlag b).pending = s.pending := rfl
@[simp] theorem State.withFireFlag_seconds (s : State) (b : Bool) : (s.withFireFlag b).seconds = s.seconds := rfl
@[simp] theorem State.withFireFlag_ms (s : State) (b : Bool) : (s.withFireFlag b).ms = s.ms := rfl
@[simp] theorem State.withFireFlag_secondAt (s : State) (b : Bool) : (s.withFireFlag b).secondAt = s.secondAt := rfl
@[simp] theorem State.withFireFlag_rate (s : State) (b : Bool) : (s.withFireFlag b).rate = s.rate := rfl
@[simp] theorem State.withFireFlag_serviceKey (s : State) (b : Bool) : (s.withFireFlag b).serviceKey = s.serviceKey := rfl
@[simp] theorem State.withFireFlag_bays (s : State) (b : Bool) : (s.withFireFlag b).bays = s.bays := rfl
@[simp] theorem State.withFireFlag_zones (s : State) (b : Bool) : (s.withFireFlag b).zones = s.zones := rfl
@[simp] theorem State.withFireFlag_airNext (s : State) (b : Bool) : (s.withFireFlag b).airNext = s.airNext := rfl
@[simp] theorem State.withFireFlag_fans (s : State) (b : Bool) : (s.withFireFlag b).fans = s.fans := rfl
@[simp] theorem State.withFireFlag_queue (s : State) (b : Bool) : (s.withFireFlag b).queue = s.queue := rfl
@[simp] theorem State.withFireFlag_slot (s : State) (b : Bool) : (s.withFireFlag b).slot = s.slot := rfl
@[simp] theorem State.withFireFlag_fanNext (s : State) (b : Bool) : (s.withFireFlag b).fanNext = s.fanNext := rfl
@[simp] theorem State.withFireFlag_fire (s : State) (b : Bool) : (s.withFireFlag b).fire = s.fire := rfl
@[simp] theorem State.withFireFlag_signs (s : State) (b : Bool) : (s.withFireFlag b).signs = s.signs := rfl
@[simp] theorem State.withFireFlag_lights (s : State) (b : Bool) : (s.withFireFlag b).lights = s.lights := rfl
@[simp] theorem State.withFireFlag_fireFlag (s : State) (b : Bool) : (s.withFireFlag b).fireFlag = b := rfl
@[simp] theorem State.withFireFlag_fumeSet (s : State) (b : Bool) : (s.withFireFlag b).fumeSet = s.fumeSet := rfl
@[simp] theorem State.withFireFlag_nodes (s : State) (b : Bool) : (s.withFireFlag b).nodes = s.nodes := rfl
@[simp] theorem State.withFireFlag_span0 (s : State) (b : Bool) : (s.withFireFlag b).span0 = s.span0 := rfl
@[simp] theorem State.withFireFlag_span1 (s : State) (b : Bool) : (s.withFireFlag b).span1 = s.span1 := rfl
@[simp] theorem State.withFireFlag_span2 (s : State) (b : Bool) : (s.withFireFlag b).span2 = s.span2 := rfl
@[simp] theorem State.withFireFlag_span3 (s : State) (b : Bool) : (s.withFireFlag b).span3 = s.span3 := rfl
@[simp] theorem State.withFireFlag_main (s : State) (b : Bool) : (s.withFireFlag b).main = s.main := rfl
@[simp] theorem State.withFireFlag_panel (s : State) (b : Bool) : (s.withFireFlag b).panel = s.panel := rfl
@[simp] theorem State.withFireFlag_facilityMap (s : State) (b : Bool) : (s.withFireFlag b).facilityMap = s.facilityMap := rfl
@[simp] theorem State.withFireFlag_operatorMap (s : State) (b : Bool) : (s.withFireFlag b).operatorMap = s.operatorMap := rfl
@[simp] theorem State.withFireFlag_settings (s : State) (b : Bool) : (s.withFireFlag b).settings = s.settings := rfl
@[simp] theorem State.withFireFlag_freeCount (s : State) (b : Bool) : (s.withFireFlag b).freeCount = s.freeCount := rfl
@[simp] theorem State.withFireFlag_port (s : State) (b : Bool) (p : Port) : (s.withFireFlag b).port p = s.port p := rfl
@[simp] theorem State.withFireFlag_span (s : State) (b : Bool) (i : SpanId) : (s.withFireFlag b).span i = s.span i := rfl

@[simp] theorem State.withFumeSet_pending (s : State) (z : ZoneSet) : (s.withFumeSet z).pending = s.pending := rfl
@[simp] theorem State.withFumeSet_seconds (s : State) (z : ZoneSet) : (s.withFumeSet z).seconds = s.seconds := rfl
@[simp] theorem State.withFumeSet_ms (s : State) (z : ZoneSet) : (s.withFumeSet z).ms = s.ms := rfl
@[simp] theorem State.withFumeSet_secondAt (s : State) (z : ZoneSet) : (s.withFumeSet z).secondAt = s.secondAt := rfl
@[simp] theorem State.withFumeSet_rate (s : State) (z : ZoneSet) : (s.withFumeSet z).rate = s.rate := rfl
@[simp] theorem State.withFumeSet_serviceKey (s : State) (z : ZoneSet) : (s.withFumeSet z).serviceKey = s.serviceKey := rfl
@[simp] theorem State.withFumeSet_bays (s : State) (z : ZoneSet) : (s.withFumeSet z).bays = s.bays := rfl
@[simp] theorem State.withFumeSet_zones (s : State) (z : ZoneSet) : (s.withFumeSet z).zones = s.zones := rfl
@[simp] theorem State.withFumeSet_airNext (s : State) (z : ZoneSet) : (s.withFumeSet z).airNext = s.airNext := rfl
@[simp] theorem State.withFumeSet_fans (s : State) (z : ZoneSet) : (s.withFumeSet z).fans = s.fans := rfl
@[simp] theorem State.withFumeSet_queue (s : State) (z : ZoneSet) : (s.withFumeSet z).queue = s.queue := rfl
@[simp] theorem State.withFumeSet_slot (s : State) (z : ZoneSet) : (s.withFumeSet z).slot = s.slot := rfl
@[simp] theorem State.withFumeSet_fanNext (s : State) (z : ZoneSet) : (s.withFumeSet z).fanNext = s.fanNext := rfl
@[simp] theorem State.withFumeSet_fire (s : State) (z : ZoneSet) : (s.withFumeSet z).fire = s.fire := rfl
@[simp] theorem State.withFumeSet_signs (s : State) (z : ZoneSet) : (s.withFumeSet z).signs = s.signs := rfl
@[simp] theorem State.withFumeSet_lights (s : State) (z : ZoneSet) : (s.withFumeSet z).lights = s.lights := rfl
@[simp] theorem State.withFumeSet_fireFlag (s : State) (z : ZoneSet) : (s.withFumeSet z).fireFlag = s.fireFlag := rfl
@[simp] theorem State.withFumeSet_fumeSet (s : State) (z : ZoneSet) : (s.withFumeSet z).fumeSet = z := rfl
@[simp] theorem State.withFumeSet_nodes (s : State) (z : ZoneSet) : (s.withFumeSet z).nodes = s.nodes := rfl
@[simp] theorem State.withFumeSet_span0 (s : State) (z : ZoneSet) : (s.withFumeSet z).span0 = s.span0 := rfl
@[simp] theorem State.withFumeSet_span1 (s : State) (z : ZoneSet) : (s.withFumeSet z).span1 = s.span1 := rfl
@[simp] theorem State.withFumeSet_span2 (s : State) (z : ZoneSet) : (s.withFumeSet z).span2 = s.span2 := rfl
@[simp] theorem State.withFumeSet_span3 (s : State) (z : ZoneSet) : (s.withFumeSet z).span3 = s.span3 := rfl
@[simp] theorem State.withFumeSet_main (s : State) (z : ZoneSet) : (s.withFumeSet z).main = s.main := rfl
@[simp] theorem State.withFumeSet_panel (s : State) (z : ZoneSet) : (s.withFumeSet z).panel = s.panel := rfl
@[simp] theorem State.withFumeSet_facilityMap (s : State) (z : ZoneSet) : (s.withFumeSet z).facilityMap = s.facilityMap := rfl
@[simp] theorem State.withFumeSet_operatorMap (s : State) (z : ZoneSet) : (s.withFumeSet z).operatorMap = s.operatorMap := rfl
@[simp] theorem State.withFumeSet_settings (s : State) (z : ZoneSet) : (s.withFumeSet z).settings = s.settings := rfl
@[simp] theorem State.withFumeSet_freeCount (s : State) (z : ZoneSet) : (s.withFumeSet z).freeCount = s.freeCount := rfl
@[simp] theorem State.withFumeSet_port (s : State) (z : ZoneSet) (p : Port) : (s.withFumeSet z).port p = s.port p := rfl
@[simp] theorem State.withFumeSet_span (s : State) (z : ZoneSet) (i : SpanId) : (s.withFumeSet z).span i = s.span i := rfl

@[simp] theorem State.withNodes_pending (s : State) (t : Table Node) : (s.withNodes t).pending = s.pending := rfl
@[simp] theorem State.withNodes_seconds (s : State) (t : Table Node) : (s.withNodes t).seconds = s.seconds := rfl
@[simp] theorem State.withNodes_ms (s : State) (t : Table Node) : (s.withNodes t).ms = s.ms := rfl
@[simp] theorem State.withNodes_secondAt (s : State) (t : Table Node) : (s.withNodes t).secondAt = s.secondAt := rfl
@[simp] theorem State.withNodes_rate (s : State) (t : Table Node) : (s.withNodes t).rate = s.rate := rfl
@[simp] theorem State.withNodes_serviceKey (s : State) (t : Table Node) : (s.withNodes t).serviceKey = s.serviceKey := rfl
@[simp] theorem State.withNodes_bays (s : State) (t : Table Node) : (s.withNodes t).bays = s.bays := rfl
@[simp] theorem State.withNodes_zones (s : State) (t : Table Node) : (s.withNodes t).zones = s.zones := rfl
@[simp] theorem State.withNodes_airNext (s : State) (t : Table Node) : (s.withNodes t).airNext = s.airNext := rfl
@[simp] theorem State.withNodes_fans (s : State) (t : Table Node) : (s.withNodes t).fans = s.fans := rfl
@[simp] theorem State.withNodes_queue (s : State) (t : Table Node) : (s.withNodes t).queue = s.queue := rfl
@[simp] theorem State.withNodes_slot (s : State) (t : Table Node) : (s.withNodes t).slot = s.slot := rfl
@[simp] theorem State.withNodes_fanNext (s : State) (t : Table Node) : (s.withNodes t).fanNext = s.fanNext := rfl
@[simp] theorem State.withNodes_fire (s : State) (t : Table Node) : (s.withNodes t).fire = s.fire := rfl
@[simp] theorem State.withNodes_signs (s : State) (t : Table Node) : (s.withNodes t).signs = s.signs := rfl
@[simp] theorem State.withNodes_lights (s : State) (t : Table Node) : (s.withNodes t).lights = s.lights := rfl
@[simp] theorem State.withNodes_fireFlag (s : State) (t : Table Node) : (s.withNodes t).fireFlag = s.fireFlag := rfl
@[simp] theorem State.withNodes_fumeSet (s : State) (t : Table Node) : (s.withNodes t).fumeSet = s.fumeSet := rfl
@[simp] theorem State.withNodes_nodes (s : State) (t : Table Node) : (s.withNodes t).nodes = t := rfl
@[simp] theorem State.withNodes_span0 (s : State) (t : Table Node) : (s.withNodes t).span0 = s.span0 := rfl
@[simp] theorem State.withNodes_span1 (s : State) (t : Table Node) : (s.withNodes t).span1 = s.span1 := rfl
@[simp] theorem State.withNodes_span2 (s : State) (t : Table Node) : (s.withNodes t).span2 = s.span2 := rfl
@[simp] theorem State.withNodes_span3 (s : State) (t : Table Node) : (s.withNodes t).span3 = s.span3 := rfl
@[simp] theorem State.withNodes_main (s : State) (t : Table Node) : (s.withNodes t).main = s.main := rfl
@[simp] theorem State.withNodes_panel (s : State) (t : Table Node) : (s.withNodes t).panel = s.panel := rfl
@[simp] theorem State.withNodes_facilityMap (s : State) (t : Table Node) : (s.withNodes t).facilityMap = s.facilityMap := rfl
@[simp] theorem State.withNodes_operatorMap (s : State) (t : Table Node) : (s.withNodes t).operatorMap = s.operatorMap := rfl
@[simp] theorem State.withNodes_settings (s : State) (t : Table Node) : (s.withNodes t).settings = s.settings := rfl
@[simp] theorem State.withNodes_freeCount (s : State) (t : Table Node) : (s.withNodes t).freeCount = s.freeCount := rfl
@[simp] theorem State.withNodes_port (s : State) (t : Table Node) (p : Port) : (s.withNodes t).port p = s.port p := rfl
@[simp] theorem State.withNodes_span (s : State) (t : Table Node) (i : SpanId) : (s.withNodes t).span i = s.span i := rfl

@[simp] theorem State.withClock_pending (s : State) (t a : Millis) (c : Seconds) : (s.withClock t a c).pending = s.pending := rfl
@[simp] theorem State.withClock_seconds (s : State) (t a : Millis) (c : Seconds) : (s.withClock t a c).seconds = c := rfl
@[simp] theorem State.withClock_ms (s : State) (t a : Millis) (c : Seconds) : (s.withClock t a c).ms = t := rfl
@[simp] theorem State.withClock_secondAt (s : State) (t a : Millis) (c : Seconds) : (s.withClock t a c).secondAt = a := rfl
@[simp] theorem State.withClock_rate (s : State) (t a : Millis) (c : Seconds) : (s.withClock t a c).rate = s.rate := rfl
@[simp] theorem State.withClock_serviceKey (s : State) (t a : Millis) (c : Seconds) : (s.withClock t a c).serviceKey = s.serviceKey := rfl
@[simp] theorem State.withClock_bays (s : State) (t a : Millis) (c : Seconds) : (s.withClock t a c).bays = s.bays := rfl
@[simp] theorem State.withClock_zones (s : State) (t a : Millis) (c : Seconds) : (s.withClock t a c).zones = s.zones := rfl
@[simp] theorem State.withClock_airNext (s : State) (t a : Millis) (c : Seconds) : (s.withClock t a c).airNext = s.airNext := rfl
@[simp] theorem State.withClock_fans (s : State) (t a : Millis) (c : Seconds) : (s.withClock t a c).fans = s.fans := rfl
@[simp] theorem State.withClock_queue (s : State) (t a : Millis) (c : Seconds) : (s.withClock t a c).queue = s.queue := rfl
@[simp] theorem State.withClock_slot (s : State) (t a : Millis) (c : Seconds) : (s.withClock t a c).slot = s.slot := rfl
@[simp] theorem State.withClock_fanNext (s : State) (t a : Millis) (c : Seconds) : (s.withClock t a c).fanNext = s.fanNext := rfl
@[simp] theorem State.withClock_fire (s : State) (t a : Millis) (c : Seconds) : (s.withClock t a c).fire = s.fire := rfl
@[simp] theorem State.withClock_signs (s : State) (t a : Millis) (c : Seconds) : (s.withClock t a c).signs = s.signs := rfl
@[simp] theorem State.withClock_lights (s : State) (t a : Millis) (c : Seconds) : (s.withClock t a c).lights = s.lights := rfl
@[simp] theorem State.withClock_fireFlag (s : State) (t a : Millis) (c : Seconds) : (s.withClock t a c).fireFlag = s.fireFlag := rfl
@[simp] theorem State.withClock_fumeSet (s : State) (t a : Millis) (c : Seconds) : (s.withClock t a c).fumeSet = s.fumeSet := rfl
@[simp] theorem State.withClock_nodes (s : State) (t a : Millis) (c : Seconds) : (s.withClock t a c).nodes = s.nodes := rfl
@[simp] theorem State.withClock_span0 (s : State) (t a : Millis) (c : Seconds) : (s.withClock t a c).span0 = s.span0 := rfl
@[simp] theorem State.withClock_span1 (s : State) (t a : Millis) (c : Seconds) : (s.withClock t a c).span1 = s.span1 := rfl
@[simp] theorem State.withClock_span2 (s : State) (t a : Millis) (c : Seconds) : (s.withClock t a c).span2 = s.span2 := rfl
@[simp] theorem State.withClock_span3 (s : State) (t a : Millis) (c : Seconds) : (s.withClock t a c).span3 = s.span3 := rfl
@[simp] theorem State.withClock_main (s : State) (t a : Millis) (c : Seconds) : (s.withClock t a c).main = s.main := rfl
@[simp] theorem State.withClock_panel (s : State) (t a : Millis) (c : Seconds) : (s.withClock t a c).panel = s.panel := rfl
@[simp] theorem State.withClock_facilityMap (s : State) (t a : Millis) (c : Seconds) : (s.withClock t a c).facilityMap = s.facilityMap := rfl
@[simp] theorem State.withClock_operatorMap (s : State) (t a : Millis) (c : Seconds) : (s.withClock t a c).operatorMap = s.operatorMap := rfl
@[simp] theorem State.withClock_settings (s : State) (t a : Millis) (c : Seconds) : (s.withClock t a c).settings = s.settings := rfl
@[simp] theorem State.withClock_freeCount (s : State) (t a : Millis) (c : Seconds) : (s.withClock t a c).freeCount = s.freeCount := rfl
@[simp] theorem State.withClock_port (s : State) (t a : Millis) (c : Seconds) (p : Port) : (s.withClock t a c).port p = s.port p := rfl
@[simp] theorem State.withClock_span (s : State) (t a : Millis) (c : Seconds) (i : SpanId) : (s.withClock t a c).span i = s.span i := rfl

@[simp] theorem State.atMs_pending (s : State) (t : Millis) : (s.atMs t).pending = s.pending := rfl
@[simp] theorem State.atMs_seconds (s : State) (t : Millis) : (s.atMs t).seconds =
    s.seconds + BitVec.ofNat 32 ((max s.ms t - s.secondAt) / 1000) := rfl
@[simp] theorem State.atMs_ms (s : State) (t : Millis) : (s.atMs t).ms = max s.ms t := rfl
@[simp] theorem State.atMs_secondAt (s : State) (t : Millis) : (s.atMs t).secondAt =
    s.secondAt + (max s.ms t - s.secondAt) / 1000 * 1000 := rfl
@[simp] theorem State.atMs_rate (s : State) (t : Millis) : (s.atMs t).rate = s.rate := rfl
@[simp] theorem State.atMs_serviceKey (s : State) (t : Millis) : (s.atMs t).serviceKey = s.serviceKey := rfl
@[simp] theorem State.atMs_bays (s : State) (t : Millis) : (s.atMs t).bays = s.bays := rfl
@[simp] theorem State.atMs_zones (s : State) (t : Millis) : (s.atMs t).zones = s.zones := rfl
@[simp] theorem State.atMs_airNext (s : State) (t : Millis) : (s.atMs t).airNext = s.airNext := rfl
@[simp] theorem State.atMs_fans (s : State) (t : Millis) : (s.atMs t).fans = s.fans := rfl
@[simp] theorem State.atMs_queue (s : State) (t : Millis) : (s.atMs t).queue = s.queue := rfl
@[simp] theorem State.atMs_slot (s : State) (t : Millis) : (s.atMs t).slot = s.slot := rfl
@[simp] theorem State.atMs_fanNext (s : State) (t : Millis) : (s.atMs t).fanNext = s.fanNext := rfl
@[simp] theorem State.atMs_fire (s : State) (t : Millis) : (s.atMs t).fire = s.fire := rfl
@[simp] theorem State.atMs_signs (s : State) (t : Millis) : (s.atMs t).signs = s.signs := rfl
@[simp] theorem State.atMs_lights (s : State) (t : Millis) : (s.atMs t).lights = s.lights := rfl
@[simp] theorem State.atMs_fireFlag (s : State) (t : Millis) : (s.atMs t).fireFlag = s.fireFlag := rfl
@[simp] theorem State.atMs_fumeSet (s : State) (t : Millis) : (s.atMs t).fumeSet = s.fumeSet := rfl
@[simp] theorem State.atMs_nodes (s : State) (t : Millis) : (s.atMs t).nodes = s.nodes := rfl
@[simp] theorem State.atMs_span0 (s : State) (t : Millis) : (s.atMs t).span0 = s.span0 := rfl
@[simp] theorem State.atMs_span1 (s : State) (t : Millis) : (s.atMs t).span1 = s.span1 := rfl
@[simp] theorem State.atMs_span2 (s : State) (t : Millis) : (s.atMs t).span2 = s.span2 := rfl
@[simp] theorem State.atMs_span3 (s : State) (t : Millis) : (s.atMs t).span3 = s.span3 := rfl
@[simp] theorem State.atMs_main (s : State) (t : Millis) : (s.atMs t).main = s.main := rfl
@[simp] theorem State.atMs_panel (s : State) (t : Millis) : (s.atMs t).panel = s.panel := rfl
@[simp] theorem State.atMs_facilityMap (s : State) (t : Millis) : (s.atMs t).facilityMap = s.facilityMap := rfl
@[simp] theorem State.atMs_operatorMap (s : State) (t : Millis) : (s.atMs t).operatorMap = s.operatorMap := rfl
@[simp] theorem State.atMs_settings (s : State) (t : Millis) : (s.atMs t).settings = s.settings := rfl
@[simp] theorem State.atMs_freeCount (s : State) (t : Millis) : (s.atMs t).freeCount = s.freeCount := rfl
@[simp] theorem State.atMs_port (s : State) (t : Millis) (p : Port) : (s.atMs t).port p = s.port p := rfl
@[simp] theorem State.atMs_span (s : State) (t : Millis) (i : SpanId) : (s.atMs t).span i = s.span i := rfl

@[simp] theorem State.withKey_pending (s : State) (b : Bool) : (s.withKey b).pending = s.pending := rfl
@[simp] theorem State.withKey_seconds (s : State) (b : Bool) : (s.withKey b).seconds = s.seconds := rfl
@[simp] theorem State.withKey_ms (s : State) (b : Bool) : (s.withKey b).ms = s.ms := rfl
@[simp] theorem State.withKey_secondAt (s : State) (b : Bool) : (s.withKey b).secondAt = s.secondAt := rfl
@[simp] theorem State.withKey_rate (s : State) (b : Bool) : (s.withKey b).rate = s.rate := rfl
@[simp] theorem State.withKey_serviceKey (s : State) (b : Bool) : (s.withKey b).serviceKey = b := rfl
@[simp] theorem State.withKey_bays (s : State) (b : Bool) : (s.withKey b).bays = s.bays := rfl
@[simp] theorem State.withKey_zones (s : State) (b : Bool) : (s.withKey b).zones = s.zones := rfl
@[simp] theorem State.withKey_airNext (s : State) (b : Bool) : (s.withKey b).airNext = s.airNext := rfl
@[simp] theorem State.withKey_fans (s : State) (b : Bool) : (s.withKey b).fans = s.fans := rfl
@[simp] theorem State.withKey_queue (s : State) (b : Bool) : (s.withKey b).queue = s.queue := rfl
@[simp] theorem State.withKey_slot (s : State) (b : Bool) : (s.withKey b).slot = s.slot := rfl
@[simp] theorem State.withKey_fanNext (s : State) (b : Bool) : (s.withKey b).fanNext = s.fanNext := rfl
@[simp] theorem State.withKey_fire (s : State) (b : Bool) : (s.withKey b).fire = s.fire := rfl
@[simp] theorem State.withKey_signs (s : State) (b : Bool) : (s.withKey b).signs = s.signs := rfl
@[simp] theorem State.withKey_lights (s : State) (b : Bool) : (s.withKey b).lights = s.lights := rfl
@[simp] theorem State.withKey_fireFlag (s : State) (b : Bool) : (s.withKey b).fireFlag = s.fireFlag := rfl
@[simp] theorem State.withKey_fumeSet (s : State) (b : Bool) : (s.withKey b).fumeSet = s.fumeSet := rfl
@[simp] theorem State.withKey_nodes (s : State) (b : Bool) : (s.withKey b).nodes = s.nodes := rfl
@[simp] theorem State.withKey_span0 (s : State) (b : Bool) : (s.withKey b).span0 = s.span0 := rfl
@[simp] theorem State.withKey_span1 (s : State) (b : Bool) : (s.withKey b).span1 = s.span1 := rfl
@[simp] theorem State.withKey_span2 (s : State) (b : Bool) : (s.withKey b).span2 = s.span2 := rfl
@[simp] theorem State.withKey_span3 (s : State) (b : Bool) : (s.withKey b).span3 = s.span3 := rfl
@[simp] theorem State.withKey_main (s : State) (b : Bool) : (s.withKey b).main = s.main := rfl
@[simp] theorem State.withKey_panel (s : State) (b : Bool) : (s.withKey b).panel = s.panel := rfl
@[simp] theorem State.withKey_facilityMap (s : State) (b : Bool) : (s.withKey b).facilityMap = s.facilityMap := rfl
@[simp] theorem State.withKey_operatorMap (s : State) (b : Bool) : (s.withKey b).operatorMap = s.operatorMap := rfl
@[simp] theorem State.withKey_settings (s : State) (b : Bool) : (s.withKey b).settings = s.settings := rfl
@[simp] theorem State.withKey_freeCount (s : State) (b : Bool) : (s.withKey b).freeCount = s.freeCount := rfl
@[simp] theorem State.withKey_port (s : State) (b : Bool) (p : Port) : (s.withKey b).port p = s.port p := rfl
@[simp] theorem State.withKey_span (s : State) (b : Bool) (i : SpanId) : (s.withKey b).span i = s.span i := rfl

@[simp] theorem State.withSettings_pending (s : State) (p : PartSettings) : (s.withSettings p).pending = s.pending := rfl
@[simp] theorem State.withSettings_seconds (s : State) (p : PartSettings) : (s.withSettings p).seconds = s.seconds := rfl
@[simp] theorem State.withSettings_ms (s : State) (p : PartSettings) : (s.withSettings p).ms = s.ms := rfl
@[simp] theorem State.withSettings_secondAt (s : State) (p : PartSettings) : (s.withSettings p).secondAt = s.secondAt := rfl
@[simp] theorem State.withSettings_rate (s : State) (p : PartSettings) : (s.withSettings p).rate = s.rate := rfl
@[simp] theorem State.withSettings_serviceKey (s : State) (p : PartSettings) : (s.withSettings p).serviceKey = s.serviceKey := rfl
@[simp] theorem State.withSettings_bays (s : State) (p : PartSettings) : (s.withSettings p).bays = s.bays := rfl
@[simp] theorem State.withSettings_zones (s : State) (p : PartSettings) : (s.withSettings p).zones = s.zones := rfl
@[simp] theorem State.withSettings_airNext (s : State) (p : PartSettings) : (s.withSettings p).airNext = s.airNext := rfl
@[simp] theorem State.withSettings_fans (s : State) (p : PartSettings) : (s.withSettings p).fans = s.fans := rfl
@[simp] theorem State.withSettings_queue (s : State) (p : PartSettings) : (s.withSettings p).queue = s.queue := rfl
@[simp] theorem State.withSettings_slot (s : State) (p : PartSettings) : (s.withSettings p).slot = s.slot := rfl
@[simp] theorem State.withSettings_fanNext (s : State) (p : PartSettings) : (s.withSettings p).fanNext = s.fanNext := rfl
@[simp] theorem State.withSettings_fire (s : State) (p : PartSettings) : (s.withSettings p).fire = s.fire := rfl
@[simp] theorem State.withSettings_signs (s : State) (p : PartSettings) : (s.withSettings p).signs = s.signs := rfl
@[simp] theorem State.withSettings_lights (s : State) (p : PartSettings) : (s.withSettings p).lights = s.lights := rfl
@[simp] theorem State.withSettings_fireFlag (s : State) (p : PartSettings) : (s.withSettings p).fireFlag = s.fireFlag := rfl
@[simp] theorem State.withSettings_fumeSet (s : State) (p : PartSettings) : (s.withSettings p).fumeSet = s.fumeSet := rfl
@[simp] theorem State.withSettings_nodes (s : State) (p : PartSettings) : (s.withSettings p).nodes = s.nodes := rfl
@[simp] theorem State.withSettings_span0 (s : State) (p : PartSettings) : (s.withSettings p).span0 = s.span0 := rfl
@[simp] theorem State.withSettings_span1 (s : State) (p : PartSettings) : (s.withSettings p).span1 = s.span1 := rfl
@[simp] theorem State.withSettings_span2 (s : State) (p : PartSettings) : (s.withSettings p).span2 = s.span2 := rfl
@[simp] theorem State.withSettings_span3 (s : State) (p : PartSettings) : (s.withSettings p).span3 = s.span3 := rfl
@[simp] theorem State.withSettings_main (s : State) (p : PartSettings) : (s.withSettings p).main = s.main := rfl
@[simp] theorem State.withSettings_panel (s : State) (p : PartSettings) : (s.withSettings p).panel = s.panel := rfl
@[simp] theorem State.withSettings_facilityMap (s : State) (p : PartSettings) : (s.withSettings p).facilityMap = s.facilityMap := rfl
@[simp] theorem State.withSettings_operatorMap (s : State) (p : PartSettings) : (s.withSettings p).operatorMap = s.operatorMap := rfl
@[simp] theorem State.withSettings_settings (s : State) (p : PartSettings) : (s.withSettings p).settings = p := rfl
@[simp] theorem State.withSettings_freeCount (s : State) (p : PartSettings) : (s.withSettings p).freeCount = s.freeCount := rfl
@[simp] theorem State.withSettings_port (s : State) (v : PartSettings) (p : Port) : (s.withSettings v).port p = s.port p := rfl
@[simp] theorem State.withSettings_span (s : State) (p : PartSettings) (i : SpanId) : (s.withSettings p).span i = s.span i := rfl

@[simp] theorem State.withAirNext_pending (s : State) (e : Seconds) : (s.withAirNext e).pending = s.pending := rfl
@[simp] theorem State.withAirNext_seconds (s : State) (e : Seconds) : (s.withAirNext e).seconds = s.seconds := rfl
@[simp] theorem State.withAirNext_ms (s : State) (e : Seconds) : (s.withAirNext e).ms = s.ms := rfl
@[simp] theorem State.withAirNext_secondAt (s : State) (e : Seconds) : (s.withAirNext e).secondAt = s.secondAt := rfl
@[simp] theorem State.withAirNext_rate (s : State) (e : Seconds) : (s.withAirNext e).rate = s.rate := rfl
@[simp] theorem State.withAirNext_serviceKey (s : State) (e : Seconds) : (s.withAirNext e).serviceKey = s.serviceKey := rfl
@[simp] theorem State.withAirNext_bays (s : State) (e : Seconds) : (s.withAirNext e).bays = s.bays := rfl
@[simp] theorem State.withAirNext_zones (s : State) (e : Seconds) : (s.withAirNext e).zones = s.zones := rfl
@[simp] theorem State.withAirNext_airNext (s : State) (e : Seconds) : (s.withAirNext e).airNext = e := rfl
@[simp] theorem State.withAirNext_fans (s : State) (e : Seconds) : (s.withAirNext e).fans = s.fans := rfl
@[simp] theorem State.withAirNext_queue (s : State) (e : Seconds) : (s.withAirNext e).queue = s.queue := rfl
@[simp] theorem State.withAirNext_slot (s : State) (e : Seconds) : (s.withAirNext e).slot = s.slot := rfl
@[simp] theorem State.withAirNext_fanNext (s : State) (e : Seconds) : (s.withAirNext e).fanNext = s.fanNext := rfl
@[simp] theorem State.withAirNext_fire (s : State) (e : Seconds) : (s.withAirNext e).fire = s.fire := rfl
@[simp] theorem State.withAirNext_signs (s : State) (e : Seconds) : (s.withAirNext e).signs = s.signs := rfl
@[simp] theorem State.withAirNext_lights (s : State) (e : Seconds) : (s.withAirNext e).lights = s.lights := rfl
@[simp] theorem State.withAirNext_fireFlag (s : State) (e : Seconds) : (s.withAirNext e).fireFlag = s.fireFlag := rfl
@[simp] theorem State.withAirNext_fumeSet (s : State) (e : Seconds) : (s.withAirNext e).fumeSet = s.fumeSet := rfl
@[simp] theorem State.withAirNext_nodes (s : State) (e : Seconds) : (s.withAirNext e).nodes = s.nodes := rfl
@[simp] theorem State.withAirNext_span0 (s : State) (e : Seconds) : (s.withAirNext e).span0 = s.span0 := rfl
@[simp] theorem State.withAirNext_span1 (s : State) (e : Seconds) : (s.withAirNext e).span1 = s.span1 := rfl
@[simp] theorem State.withAirNext_span2 (s : State) (e : Seconds) : (s.withAirNext e).span2 = s.span2 := rfl
@[simp] theorem State.withAirNext_span3 (s : State) (e : Seconds) : (s.withAirNext e).span3 = s.span3 := rfl
@[simp] theorem State.withAirNext_main (s : State) (e : Seconds) : (s.withAirNext e).main = s.main := rfl
@[simp] theorem State.withAirNext_panel (s : State) (e : Seconds) : (s.withAirNext e).panel = s.panel := rfl
@[simp] theorem State.withAirNext_facilityMap (s : State) (e : Seconds) : (s.withAirNext e).facilityMap = s.facilityMap := rfl
@[simp] theorem State.withAirNext_operatorMap (s : State) (e : Seconds) : (s.withAirNext e).operatorMap = s.operatorMap := rfl
@[simp] theorem State.withAirNext_settings (s : State) (e : Seconds) : (s.withAirNext e).settings = s.settings := rfl
@[simp] theorem State.withAirNext_freeCount (s : State) (e : Seconds) : (s.withAirNext e).freeCount = s.freeCount := rfl
@[simp] theorem State.withAirNext_port (s : State) (e : Seconds) (p : Port) : (s.withAirNext e).port p = s.port p := rfl
@[simp] theorem State.withAirNext_span (s : State) (e : Seconds) (i : SpanId) : (s.withAirNext e).span i = s.span i := rfl

@[simp] theorem State.withFanNext_pending (s : State) (e : Seconds) : (s.withFanNext e).pending = s.pending := rfl
@[simp] theorem State.withFanNext_seconds (s : State) (e : Seconds) : (s.withFanNext e).seconds = s.seconds := rfl
@[simp] theorem State.withFanNext_ms (s : State) (e : Seconds) : (s.withFanNext e).ms = s.ms := rfl
@[simp] theorem State.withFanNext_secondAt (s : State) (e : Seconds) : (s.withFanNext e).secondAt = s.secondAt := rfl
@[simp] theorem State.withFanNext_rate (s : State) (e : Seconds) : (s.withFanNext e).rate = s.rate := rfl
@[simp] theorem State.withFanNext_serviceKey (s : State) (e : Seconds) : (s.withFanNext e).serviceKey = s.serviceKey := rfl
@[simp] theorem State.withFanNext_bays (s : State) (e : Seconds) : (s.withFanNext e).bays = s.bays := rfl
@[simp] theorem State.withFanNext_zones (s : State) (e : Seconds) : (s.withFanNext e).zones = s.zones := rfl
@[simp] theorem State.withFanNext_airNext (s : State) (e : Seconds) : (s.withFanNext e).airNext = s.airNext := rfl
@[simp] theorem State.withFanNext_fans (s : State) (e : Seconds) : (s.withFanNext e).fans = s.fans := rfl
@[simp] theorem State.withFanNext_queue (s : State) (e : Seconds) : (s.withFanNext e).queue = s.queue := rfl
@[simp] theorem State.withFanNext_slot (s : State) (e : Seconds) : (s.withFanNext e).slot = s.slot := rfl
@[simp] theorem State.withFanNext_fanNext (s : State) (e : Seconds) : (s.withFanNext e).fanNext = e := rfl
@[simp] theorem State.withFanNext_fire (s : State) (e : Seconds) : (s.withFanNext e).fire = s.fire := rfl
@[simp] theorem State.withFanNext_signs (s : State) (e : Seconds) : (s.withFanNext e).signs = s.signs := rfl
@[simp] theorem State.withFanNext_lights (s : State) (e : Seconds) : (s.withFanNext e).lights = s.lights := rfl
@[simp] theorem State.withFanNext_fireFlag (s : State) (e : Seconds) : (s.withFanNext e).fireFlag = s.fireFlag := rfl
@[simp] theorem State.withFanNext_fumeSet (s : State) (e : Seconds) : (s.withFanNext e).fumeSet = s.fumeSet := rfl
@[simp] theorem State.withFanNext_nodes (s : State) (e : Seconds) : (s.withFanNext e).nodes = s.nodes := rfl
@[simp] theorem State.withFanNext_span0 (s : State) (e : Seconds) : (s.withFanNext e).span0 = s.span0 := rfl
@[simp] theorem State.withFanNext_span1 (s : State) (e : Seconds) : (s.withFanNext e).span1 = s.span1 := rfl
@[simp] theorem State.withFanNext_span2 (s : State) (e : Seconds) : (s.withFanNext e).span2 = s.span2 := rfl
@[simp] theorem State.withFanNext_span3 (s : State) (e : Seconds) : (s.withFanNext e).span3 = s.span3 := rfl
@[simp] theorem State.withFanNext_main (s : State) (e : Seconds) : (s.withFanNext e).main = s.main := rfl
@[simp] theorem State.withFanNext_panel (s : State) (e : Seconds) : (s.withFanNext e).panel = s.panel := rfl
@[simp] theorem State.withFanNext_facilityMap (s : State) (e : Seconds) : (s.withFanNext e).facilityMap = s.facilityMap := rfl
@[simp] theorem State.withFanNext_operatorMap (s : State) (e : Seconds) : (s.withFanNext e).operatorMap = s.operatorMap := rfl
@[simp] theorem State.withFanNext_settings (s : State) (e : Seconds) : (s.withFanNext e).settings = s.settings := rfl
@[simp] theorem State.withFanNext_freeCount (s : State) (e : Seconds) : (s.withFanNext e).freeCount = s.freeCount := rfl
@[simp] theorem State.withFanNext_port (s : State) (e : Seconds) (p : Port) : (s.withFanNext e).port p = s.port p := rfl
@[simp] theorem State.withFanNext_span (s : State) (e : Seconds) (i : SpanId) : (s.withFanNext e).span i = s.span i := rfl

@[simp] theorem State.withFreeCount_pending (s : State) (n : Nat) : (s.withFreeCount n).pending = s.pending := rfl
@[simp] theorem State.withFreeCount_seconds (s : State) (n : Nat) : (s.withFreeCount n).seconds = s.seconds := rfl
@[simp] theorem State.withFreeCount_ms (s : State) (n : Nat) : (s.withFreeCount n).ms = s.ms := rfl
@[simp] theorem State.withFreeCount_secondAt (s : State) (n : Nat) : (s.withFreeCount n).secondAt = s.secondAt := rfl
@[simp] theorem State.withFreeCount_rate (s : State) (n : Nat) : (s.withFreeCount n).rate = s.rate := rfl
@[simp] theorem State.withFreeCount_serviceKey (s : State) (n : Nat) : (s.withFreeCount n).serviceKey = s.serviceKey := rfl
@[simp] theorem State.withFreeCount_bays (s : State) (n : Nat) : (s.withFreeCount n).bays = s.bays := rfl
@[simp] theorem State.withFreeCount_zones (s : State) (n : Nat) : (s.withFreeCount n).zones = s.zones := rfl
@[simp] theorem State.withFreeCount_airNext (s : State) (n : Nat) : (s.withFreeCount n).airNext = s.airNext := rfl
@[simp] theorem State.withFreeCount_fans (s : State) (n : Nat) : (s.withFreeCount n).fans = s.fans := rfl
@[simp] theorem State.withFreeCount_queue (s : State) (n : Nat) : (s.withFreeCount n).queue = s.queue := rfl
@[simp] theorem State.withFreeCount_slot (s : State) (n : Nat) : (s.withFreeCount n).slot = s.slot := rfl
@[simp] theorem State.withFreeCount_fanNext (s : State) (n : Nat) : (s.withFreeCount n).fanNext = s.fanNext := rfl
@[simp] theorem State.withFreeCount_fire (s : State) (n : Nat) : (s.withFreeCount n).fire = s.fire := rfl
@[simp] theorem State.withFreeCount_signs (s : State) (n : Nat) : (s.withFreeCount n).signs = s.signs := rfl
@[simp] theorem State.withFreeCount_lights (s : State) (n : Nat) : (s.withFreeCount n).lights = s.lights := rfl
@[simp] theorem State.withFreeCount_fireFlag (s : State) (n : Nat) : (s.withFreeCount n).fireFlag = s.fireFlag := rfl
@[simp] theorem State.withFreeCount_fumeSet (s : State) (n : Nat) : (s.withFreeCount n).fumeSet = s.fumeSet := rfl
@[simp] theorem State.withFreeCount_nodes (s : State) (n : Nat) : (s.withFreeCount n).nodes = s.nodes := rfl
@[simp] theorem State.withFreeCount_span0 (s : State) (n : Nat) : (s.withFreeCount n).span0 = s.span0 := rfl
@[simp] theorem State.withFreeCount_span1 (s : State) (n : Nat) : (s.withFreeCount n).span1 = s.span1 := rfl
@[simp] theorem State.withFreeCount_span2 (s : State) (n : Nat) : (s.withFreeCount n).span2 = s.span2 := rfl
@[simp] theorem State.withFreeCount_span3 (s : State) (n : Nat) : (s.withFreeCount n).span3 = s.span3 := rfl
@[simp] theorem State.withFreeCount_main (s : State) (n : Nat) : (s.withFreeCount n).main = s.main := rfl
@[simp] theorem State.withFreeCount_panel (s : State) (n : Nat) : (s.withFreeCount n).panel = s.panel := rfl
@[simp] theorem State.withFreeCount_facilityMap (s : State) (n : Nat) : (s.withFreeCount n).facilityMap = s.facilityMap := rfl
@[simp] theorem State.withFreeCount_operatorMap (s : State) (n : Nat) : (s.withFreeCount n).operatorMap = s.operatorMap := rfl
@[simp] theorem State.withFreeCount_settings (s : State) (n : Nat) : (s.withFreeCount n).settings = s.settings := rfl
@[simp] theorem State.withFreeCount_freeCount (s : State) (n : Nat) : (s.withFreeCount n).freeCount = n := rfl
@[simp] theorem State.withFreeCount_port (s : State) (n : Nat) (p : Port) : (s.withFreeCount n).port p = s.port p := rfl
@[simp] theorem State.withFreeCount_span (s : State) (n : Nat) (i : SpanId) : (s.withFreeCount n).span i = s.span i := rfl

/-! ### Ports and spans -/

@[simp] theorem State.withPort_pending (s : State) (p : Port) (v : PortState) : (s.withPort p v).pending = s.pending := by
  cases p <;> rfl
@[simp] theorem State.withPort_seconds (s : State) (p : Port) (v : PortState) : (s.withPort p v).seconds = s.seconds := by
  cases p <;> rfl
@[simp] theorem State.withPort_ms (s : State) (p : Port) (v : PortState) : (s.withPort p v).ms = s.ms := by
  cases p <;> rfl
@[simp] theorem State.withPort_secondAt (s : State) (p : Port) (v : PortState) : (s.withPort p v).secondAt = s.secondAt := by
  cases p <;> rfl
@[simp] theorem State.withPort_rate (s : State) (p : Port) (v : PortState) : (s.withPort p v).rate = s.rate := by
  cases p <;> rfl
@[simp] theorem State.withPort_serviceKey (s : State) (p : Port) (v : PortState) : (s.withPort p v).serviceKey = s.serviceKey := by
  cases p <;> rfl
@[simp] theorem State.withPort_bays (s : State) (p : Port) (v : PortState) : (s.withPort p v).bays = s.bays := by
  cases p <;> rfl
@[simp] theorem State.withPort_zones (s : State) (p : Port) (v : PortState) : (s.withPort p v).zones = s.zones := by
  cases p <;> rfl
@[simp] theorem State.withPort_airNext (s : State) (p : Port) (v : PortState) : (s.withPort p v).airNext = s.airNext := by
  cases p <;> rfl
@[simp] theorem State.withPort_fans (s : State) (p : Port) (v : PortState) : (s.withPort p v).fans = s.fans := by
  cases p <;> rfl
@[simp] theorem State.withPort_queue (s : State) (p : Port) (v : PortState) : (s.withPort p v).queue = s.queue := by
  cases p <;> rfl
@[simp] theorem State.withPort_slot (s : State) (p : Port) (v : PortState) : (s.withPort p v).slot = s.slot := by
  cases p <;> rfl
@[simp] theorem State.withPort_fanNext (s : State) (p : Port) (v : PortState) : (s.withPort p v).fanNext = s.fanNext := by
  cases p <;> rfl
@[simp] theorem State.withPort_fire (s : State) (p : Port) (v : PortState) : (s.withPort p v).fire = s.fire := by
  cases p <;> rfl
@[simp] theorem State.withPort_signs (s : State) (p : Port) (v : PortState) : (s.withPort p v).signs = s.signs := by
  cases p <;> rfl
@[simp] theorem State.withPort_lights (s : State) (p : Port) (v : PortState) : (s.withPort p v).lights = s.lights := by
  cases p <;> rfl
@[simp] theorem State.withPort_fireFlag (s : State) (p : Port) (v : PortState) : (s.withPort p v).fireFlag = s.fireFlag := by
  cases p <;> rfl
@[simp] theorem State.withPort_fumeSet (s : State) (p : Port) (v : PortState) : (s.withPort p v).fumeSet = s.fumeSet := by
  cases p <;> rfl
@[simp] theorem State.withPort_nodes (s : State) (p : Port) (v : PortState) : (s.withPort p v).nodes = s.nodes := by
  cases p <;> rfl
@[simp] theorem State.withPort_span0 (s : State) (p : Port) (v : PortState) : (s.withPort p v).span0 = s.span0 := by
  cases p <;> rfl
@[simp] theorem State.withPort_span1 (s : State) (p : Port) (v : PortState) : (s.withPort p v).span1 = s.span1 := by
  cases p <;> rfl
@[simp] theorem State.withPort_span2 (s : State) (p : Port) (v : PortState) : (s.withPort p v).span2 = s.span2 := by
  cases p <;> rfl
@[simp] theorem State.withPort_span3 (s : State) (p : Port) (v : PortState) : (s.withPort p v).span3 = s.span3 := by
  cases p <;> rfl
@[simp] theorem State.withPort_facilityMap (s : State) (p : Port) (v : PortState) : (s.withPort p v).facilityMap = s.facilityMap := by
  cases p <;> rfl
@[simp] theorem State.withPort_operatorMap (s : State) (p : Port) (v : PortState) : (s.withPort p v).operatorMap = s.operatorMap := by
  cases p <;> rfl
@[simp] theorem State.withPort_settings (s : State) (p : Port) (v : PortState) : (s.withPort p v).settings = s.settings := by
  cases p <;> rfl
@[simp] theorem State.withPort_freeCount (s : State) (p : Port) (v : PortState) : (s.withPort p v).freeCount = s.freeCount := by
  cases p <;> rfl

@[simp] theorem State.withPort_span (s : State) (p : Port) (v : PortState) (i : SpanId) :
    (s.withPort p v).span i = s.span i := by
  cases p <;> rfl

@[simp] theorem State.withPort_port (s : State) (p : Port) (v : PortState) :
    (s.withPort p v).port p = v := by
  cases p <;> rfl

/-- A port's update leaves the other port alone. -/
theorem State.withPort_port_ne (s : State) {p q : Port} (v : PortState) (h : q ≠ p) :
    (s.withPort p v).port q = s.port q := by
  cases p <;> cases q <;> first | rfl | exact absurd rfl h

@[simp] theorem State.withSpan_pending (s : State) (i : SpanId) (v : Span) : (s.withSpan i v).pending = s.pending := by
  cases i <;> rfl
@[simp] theorem State.withSpan_seconds (s : State) (i : SpanId) (v : Span) : (s.withSpan i v).seconds = s.seconds := by
  cases i <;> rfl
@[simp] theorem State.withSpan_ms (s : State) (i : SpanId) (v : Span) : (s.withSpan i v).ms = s.ms := by
  cases i <;> rfl
@[simp] theorem State.withSpan_secondAt (s : State) (i : SpanId) (v : Span) : (s.withSpan i v).secondAt = s.secondAt := by
  cases i <;> rfl
@[simp] theorem State.withSpan_rate (s : State) (i : SpanId) (v : Span) : (s.withSpan i v).rate = s.rate := by
  cases i <;> rfl
@[simp] theorem State.withSpan_serviceKey (s : State) (i : SpanId) (v : Span) : (s.withSpan i v).serviceKey = s.serviceKey := by
  cases i <;> rfl
@[simp] theorem State.withSpan_bays (s : State) (i : SpanId) (v : Span) : (s.withSpan i v).bays = s.bays := by
  cases i <;> rfl
@[simp] theorem State.withSpan_zones (s : State) (i : SpanId) (v : Span) : (s.withSpan i v).zones = s.zones := by
  cases i <;> rfl
@[simp] theorem State.withSpan_airNext (s : State) (i : SpanId) (v : Span) : (s.withSpan i v).airNext = s.airNext := by
  cases i <;> rfl
@[simp] theorem State.withSpan_fans (s : State) (i : SpanId) (v : Span) : (s.withSpan i v).fans = s.fans := by
  cases i <;> rfl
@[simp] theorem State.withSpan_queue (s : State) (i : SpanId) (v : Span) : (s.withSpan i v).queue = s.queue := by
  cases i <;> rfl
@[simp] theorem State.withSpan_slot (s : State) (i : SpanId) (v : Span) : (s.withSpan i v).slot = s.slot := by
  cases i <;> rfl
@[simp] theorem State.withSpan_fanNext (s : State) (i : SpanId) (v : Span) : (s.withSpan i v).fanNext = s.fanNext := by
  cases i <;> rfl
@[simp] theorem State.withSpan_fire (s : State) (i : SpanId) (v : Span) : (s.withSpan i v).fire = s.fire := by
  cases i <;> rfl
@[simp] theorem State.withSpan_signs (s : State) (i : SpanId) (v : Span) : (s.withSpan i v).signs = s.signs := by
  cases i <;> rfl
@[simp] theorem State.withSpan_lights (s : State) (i : SpanId) (v : Span) : (s.withSpan i v).lights = s.lights := by
  cases i <;> rfl
@[simp] theorem State.withSpan_fireFlag (s : State) (i : SpanId) (v : Span) : (s.withSpan i v).fireFlag = s.fireFlag := by
  cases i <;> rfl
@[simp] theorem State.withSpan_fumeSet (s : State) (i : SpanId) (v : Span) : (s.withSpan i v).fumeSet = s.fumeSet := by
  cases i <;> rfl
@[simp] theorem State.withSpan_nodes (s : State) (i : SpanId) (v : Span) : (s.withSpan i v).nodes = s.nodes := by
  cases i <;> rfl
@[simp] theorem State.withSpan_main (s : State) (i : SpanId) (v : Span) : (s.withSpan i v).main = s.main := by
  cases i <;> rfl
@[simp] theorem State.withSpan_panel (s : State) (i : SpanId) (v : Span) : (s.withSpan i v).panel = s.panel := by
  cases i <;> rfl
@[simp] theorem State.withSpan_facilityMap (s : State) (i : SpanId) (v : Span) : (s.withSpan i v).facilityMap = s.facilityMap := by
  cases i <;> rfl
@[simp] theorem State.withSpan_operatorMap (s : State) (i : SpanId) (v : Span) : (s.withSpan i v).operatorMap = s.operatorMap := by
  cases i <;> rfl
@[simp] theorem State.withSpan_settings (s : State) (i : SpanId) (v : Span) : (s.withSpan i v).settings = s.settings := by
  cases i <;> rfl
@[simp] theorem State.withSpan_freeCount (s : State) (i : SpanId) (v : Span) : (s.withSpan i v).freeCount = s.freeCount := by
  cases i <;> rfl

@[simp] theorem State.withSpan_port (s : State) (i : SpanId) (v : Span) (p : Port) :
    (s.withSpan i v).port p = s.port p := by
  cases i <;> rfl

@[simp] theorem State.withSpan_span (s : State) (i : SpanId) (v : Span) :
    (s.withSpan i v).span i = v := by
  cases i <;> rfl

/-- A span's update leaves the other spans alone. -/
theorem State.withSpan_span_ne (s : State) {i j : SpanId} (v : Span) (h : j ≠ i) :
    (s.withSpan i v).span j = s.span j := by
  cases i <;> cases j <;> first | rfl | exact absurd rfl h

/-! ### Raising an item (R187) -/

@[simp] theorem State.raise_pending (s : State) (c : AttClass) (o : Nat) (r : Reason) : (s.raise c o r).pending = s.pending := rfl
@[simp] theorem State.raise_seconds (s : State) (c : AttClass) (o : Nat) (r : Reason) : (s.raise c o r).seconds = s.seconds := rfl
@[simp] theorem State.raise_ms (s : State) (c : AttClass) (o : Nat) (r : Reason) : (s.raise c o r).ms = s.ms := rfl
@[simp] theorem State.raise_secondAt (s : State) (c : AttClass) (o : Nat) (r : Reason) : (s.raise c o r).secondAt = s.secondAt := rfl
@[simp] theorem State.raise_rate (s : State) (c : AttClass) (o : Nat) (r : Reason) : (s.raise c o r).rate = s.rate := rfl
@[simp] theorem State.raise_serviceKey (s : State) (c : AttClass) (o : Nat) (r : Reason) : (s.raise c o r).serviceKey = s.serviceKey := rfl
@[simp] theorem State.raise_bays (s : State) (c : AttClass) (o : Nat) (r : Reason) : (s.raise c o r).bays = s.bays := rfl
@[simp] theorem State.raise_zones (s : State) (c : AttClass) (o : Nat) (r : Reason) : (s.raise c o r).zones = s.zones := rfl
@[simp] theorem State.raise_airNext (s : State) (c : AttClass) (o : Nat) (r : Reason) : (s.raise c o r).airNext = s.airNext := rfl
@[simp] theorem State.raise_fans (s : State) (c : AttClass) (o : Nat) (r : Reason) : (s.raise c o r).fans = s.fans := rfl
@[simp] theorem State.raise_queue (s : State) (c : AttClass) (o : Nat) (r : Reason) : (s.raise c o r).queue = s.queue := rfl
@[simp] theorem State.raise_slot (s : State) (c : AttClass) (o : Nat) (r : Reason) : (s.raise c o r).slot = s.slot := rfl
@[simp] theorem State.raise_fanNext (s : State) (c : AttClass) (o : Nat) (r : Reason) : (s.raise c o r).fanNext = s.fanNext := rfl
@[simp] theorem State.raise_fire (s : State) (c : AttClass) (o : Nat) (r : Reason) : (s.raise c o r).fire = s.fire := rfl
@[simp] theorem State.raise_signs (s : State) (c : AttClass) (o : Nat) (r : Reason) : (s.raise c o r).signs = s.signs := rfl
@[simp] theorem State.raise_lights (s : State) (c : AttClass) (o : Nat) (r : Reason) : (s.raise c o r).lights = s.lights := rfl
@[simp] theorem State.raise_fireFlag (s : State) (c : AttClass) (o : Nat) (r : Reason) : (s.raise c o r).fireFlag = s.fireFlag := rfl
@[simp] theorem State.raise_fumeSet (s : State) (c : AttClass) (o : Nat) (r : Reason) : (s.raise c o r).fumeSet = s.fumeSet := rfl
@[simp] theorem State.raise_nodes (s : State) (c : AttClass) (o : Nat) (r : Reason) : (s.raise c o r).nodes = s.nodes := rfl
@[simp] theorem State.raise_span0 (s : State) (c : AttClass) (o : Nat) (r : Reason) : (s.raise c o r).span0 = s.span0 := rfl
@[simp] theorem State.raise_span1 (s : State) (c : AttClass) (o : Nat) (r : Reason) : (s.raise c o r).span1 = s.span1 := rfl
@[simp] theorem State.raise_span2 (s : State) (c : AttClass) (o : Nat) (r : Reason) : (s.raise c o r).span2 = s.span2 := rfl
@[simp] theorem State.raise_span3 (s : State) (c : AttClass) (o : Nat) (r : Reason) : (s.raise c o r).span3 = s.span3 := rfl
@[simp] theorem State.raise_facilityMap (s : State) (c : AttClass) (o : Nat) (r : Reason) : (s.raise c o r).facilityMap = s.facilityMap := rfl
@[simp] theorem State.raise_operatorMap (s : State) (c : AttClass) (o : Nat) (r : Reason) : (s.raise c o r).operatorMap = s.operatorMap := rfl
@[simp] theorem State.raise_settings (s : State) (c : AttClass) (o : Nat) (r : Reason) : (s.raise c o r).settings = s.settings := rfl
@[simp] theorem State.raise_freeCount (s : State) (c : AttClass) (o : Nat) (r : Reason) : (s.raise c o r).freeCount = s.freeCount := rfl

@[simp] theorem State.raise_span (s : State) (c : AttClass) (o : Nat) (r : Reason) (i : SpanId) :
    (s.raise c o r).span i = s.span i := rfl

/-- R187: a raise enters the item in the set of each port and judges its line. -/
@[simp] theorem State.raise_port (s : State) (c : AttClass) (o : Nat) (r : Reason) (p : Port) :
    (s.raise c o r).port p = (s.port p).withAtt ((s.port p).att.enter c o r) := by
  cases p <;> rfl

/-- What an item entered in a set leaves of it: the enables. -/
@[simp] theorem AttSet.enter_enables (a : AttSet) (c : AttClass) (o : Nat) (r : Reason) :
    (a.enter c o r).enables = a.enables := by
  cases c <;> rfl

@[simp] theorem PortState.withAtt_att (p : PortState) (a : AttSet) : (p.withAtt a).att = a := rfl
@[simp] theorem PortState.withAtt_attn (p : PortState) (a : AttSet) : (p.withAtt a).attn = a.asserted := rfl
@[simp] theorem PortState.withAtt_receiver (p : PortState) (a : AttSet) : (p.withAtt a).receiver = p.receiver := rfl
@[simp] theorem PortState.withAtt_lastByte (p : PortState) (a : AttSet) : (p.withAtt a).lastByte = p.lastByte := rfl
@[simp] theorem PortState.withAtt_service (p : PortState) (a : AttSet) : (p.withAtt a).service = p.service := rfl
@[simp] theorem PortState.withAtt_waiting (p : PortState) (a : AttSet) : (p.withAtt a).waiting = p.waiting := rfl

end Sys2Proof.Machine
end

