-- ==== Sys2Proof/Laws/Tables.lean ====
section
/-! SUPPORT. The laws of tables: what a read gives after each write, which entries a write leaves, and
that every write keeps the canonical form. -/

namespace Sys2Proof.Machine

variable {α : Type}

/-! ### A read after a write -/

@[simp] theorem Table.get_set (t : Table α) (k : Nat) (a : α) : Table.get (Table.set t k a) k = some a := by
  induction t with
  | nil => simp [Table.set, Table.get]
  | cons e t ih =>
    simp only [Table.set]
    split
    · simp [Table.get]
    · split <;> simp_all [Table.get]

theorem Table.get_set_ne (t : Table α) {k n : Nat} (a : α) (h : n ≠ k) :
    Table.get (Table.set t k a) n = Table.get t n := by
  induction t with
  | nil => simp [Table.set, Table.get, h.symm]
  | cons e t ih =>
    simp only [Table.set]
    split
    · simp [Table.get, h.symm]
    · split
      · next h' => simp [Table.get, h', h.symm]
      · simp [Table.get, ih]

theorem Table.get_erase_ne (t : Table α) {k n : Nat} (h : n ≠ k) :
    Table.get (Table.erase t k) n = Table.get t n := by
  induction t with
  | nil => rfl
  | cons e t ih =>
    simp only [Table.erase]
    split
    · next h' => simp [Table.get, h', h.symm]
    · simp [Table.get, ih]

@[simp] theorem Table.get_modify (t : Table α) (k : Nat) (f : α → α) :
    Table.get (Table.modify t k f) k = (Table.get t k).map f := by
  unfold Table.modify
  cases h : Table.get t k <;> simp [h]

theorem Table.get_modify_ne (t : Table α) {k n : Nat} (f : α → α) (h : n ≠ k) :
    Table.get (Table.modify t k f) n = Table.get t n := by
  unfold Table.modify
  cases Table.get t k <;> simp [Table.get_set_ne _ _ h]

@[simp] theorem Table.get_update (f : Nat → α → α) (t : Table α) (k : Nat) :
    Table.get (Table.update f t) k = (Table.get t k).map (f k) := by
  induction t with
  | nil => rfl
  | cons e t ih =>
    simp only [Table.update, Table.get]
    split
    · next h => subst h; rfl
    · exact ih

/-! ### Entries -/

/-- A record that a read gives stands in the table. -/
theorem Table.mem_of_get {t : Table α} {k : Nat} {a : α} (h : Table.get t k = some a) : (k, a) ∈ t := by
  induction t with
  | nil => simp [Table.get] at h
  | cons e t ih =>
    simp only [Table.get] at h
    split at h
    · next h' => subst h'; cases h; exact List.mem_cons_self
    · exact List.mem_cons_of_mem _ (ih h)

/-- An entry after a write is the one written or one that stood before. -/
theorem Table.mem_set {t : Table α} {k : Nat} {a : α} {e : Nat × α} (h : e ∈ Table.set t k a) :
    e = (k, a) ∨ e ∈ t := by
  induction t with
  | nil => simpa [Table.set] using h
  | cons x t ih =>
    simp only [Table.set] at h
    split at h
    · simpa using h
    · split at h
      · rcases List.mem_cons.1 h with h | h
        · exact .inl h
        · exact .inr (List.mem_cons_of_mem _ h)
      · rcases List.mem_cons.1 h with h | h
        · exact .inr (h ▸ List.mem_cons_self)
        · exact (ih h).imp_right (List.mem_cons_of_mem _)

theorem Table.mem_erase {t : Table α} {k : Nat} {e : Nat × α} (h : e ∈ Table.erase t k) : e ∈ t := by
  induction t with
  | nil => simp [Table.erase] at h
  | cons x t ih =>
    simp only [Table.erase] at h
    split at h
    · exact List.mem_cons_of_mem _ h
    · rcases List.mem_cons.1 h with h | h
      · exact h ▸ List.mem_cons_self
      · exact List.mem_cons_of_mem _ (ih h)

theorem Table.mem_update {f : Nat → α → α} {t : Table α} {e : Nat × α} (h : e ∈ Table.update f t) :
    ∃ a, (e.1, a) ∈ t ∧ e.2 = f e.1 a := by
  induction t with
  | nil => simp [Table.update] at h
  | cons x t ih =>
    rcases List.mem_cons.1 h with h | h
    · exact ⟨x.2, by simp [h], by simp [h]⟩
    · obtain ⟨a, ha, he⟩ := ih h
      exact ⟨a, List.mem_cons_of_mem _ ha, he⟩

/-- An entry after a change of one record is an old one, or the changed one. -/
theorem Table.mem_modify {t : Table α} {k : Nat} {f : α → α} {e : Nat × α} (h : e ∈ Table.modify t k f) :
    e ∈ t ∨ ∃ a, Table.get t k = some a ∧ e = (k, f a) := by
  unfold Table.modify at h
  cases hg : Table.get t k with
  | none => exact .inl (by simpa [hg] using h)
  | some a =>
    simp only [hg] at h
    exact (Table.mem_set h).symm.imp_right (fun h => ⟨a, rfl, h⟩)

/-- Every record keeps a property that a write, a change or an update gives. -/
theorem Table.forall_set {t : Table α} {p : α → Prop} (h : ∀ e ∈ t, p e.2) (k : Nat) {a : α} (ha : p a) :
    ∀ e ∈ Table.set t k a, p e.2 :=
  fun _ he => (Table.mem_set he).elim (fun h' => h' ▸ ha) (h _)

theorem Table.forall_modify {t : Table α} {p : α → Prop} (h : ∀ e ∈ t, p e.2) (k : Nat) {f : α → α}
    (hf : ∀ a, p a → p (f a)) : ∀ e ∈ Table.modify t k f, p e.2 := by
  intro e he
  rcases Table.mem_modify he with he | ⟨a, ha, rfl⟩
  · exact h _ he
  · exact hf a (h _ (Table.mem_of_get ha))

theorem Table.forall_update {t : Table α} {p : α → Prop} (h : ∀ e ∈ t, p e.2) {f : Nat → α → α}
    (hf : ∀ k a, p a → p (f k a)) : ∀ e ∈ Table.update f t, p e.2 := by
  intro e he
  obtain ⟨a, ha, h'⟩ := Table.mem_update he
  exact h' ▸ hf _ _ (h _ ha)

theorem Table.forall_erase {t : Table α} {p : α → Prop} (h : ∀ e ∈ t, p e.2) (k : Nat) :
    ∀ e ∈ Table.erase t k, p e.2 :=
  fun _ he => h _ (Table.mem_erase he)

/-! ### Numbers -/

@[simp] theorem Table.keys_update (f : Nat → α → α) (t : Table α) :
    Table.keys (Table.update f t) = Table.keys t := by
  induction t with
  | nil => rfl
  | cons e t ih => simp_all [Table.update, Table.keys]

theorem Table.mem_keys_set {t : Table α} {k : Nat} {a : α} {n : Nat}
    (h : n ∈ Table.keys (Table.set t k a)) : n = k ∨ n ∈ Table.keys t := by
  obtain ⟨e, he, rfl⟩ := List.mem_map.1 h
  rcases Table.mem_set he with h | h
  · exact .inl (by rw [h])
  · exact .inr (List.mem_map_of_mem h)

theorem Table.mem_keys_erase {t : Table α} {k n : Nat} (h : n ∈ Table.keys (Table.erase t k)) :
    n ∈ Table.keys t := by
  obtain ⟨e, he, rfl⟩ := List.mem_map.1 h
  exact List.mem_map_of_mem (Table.mem_erase he)

/-- A record that a read gives has its number among the table's. -/
theorem Table.mem_keys_of_get {t : Table α} {k : Nat} {a : α} (h : Table.get t k = some a) :
    k ∈ Table.keys t :=
  List.mem_map_of_mem (f := fun e => e.1) (Table.mem_of_get h)

/-! ### The canonical form -/

theorem Table.rising_set {t : Table α} (h : (Table.keys t).Pairwise (· < ·)) (k : Nat) (a : α) :
    (Table.keys (Table.set t k a)).Pairwise (· < ·) := by
  induction t with
  | nil => simp [Table.set, Table.keys]
  | cons e t ih =>
    obtain ⟨h1, h2⟩ := List.pairwise_cons.1 h
    simp only [Table.set]
    split
    · next hlt =>
      refine List.pairwise_cons.2 ⟨fun n hn => ?_, h⟩
      rcases List.mem_cons.1 hn with hn | hn
      · simp_all
      · exact Nat.lt_trans hlt (h1 n hn)
    · split
      · next heq => exact List.pairwise_cons.2 ⟨fun n hn => heq ▸ h1 n hn, h2⟩
      · next hnlt hne =>
        refine List.pairwise_cons.2 ⟨fun n hn => ?_, ih h2⟩
        rcases Table.mem_keys_set hn with hn | hn
        · subst hn; show e.1 < n; omega
        · exact h1 n hn

theorem Table.rising_erase {t : Table α} (h : (Table.keys t).Pairwise (· < ·)) (k : Nat) :
    (Table.keys (Table.erase t k)).Pairwise (· < ·) := by
  induction t with
  | nil => exact h
  | cons e t ih =>
    obtain ⟨h1, h2⟩ := List.pairwise_cons.1 h
    simp only [Table.erase]
    split
    · exact h2
    · exact List.pairwise_cons.2 ⟨fun n hn => h1 n (Table.mem_keys_erase hn), ih h2⟩

/-- A write of a number below the size keeps the canonical form. -/
theorem Table.wf_set {size : Nat} {t : Table α} (h : Table.wf size t) {k : Nat} (hk : k < size) (a : α) :
    Table.wf size (Table.set t k a) :=
  ⟨Table.rising_set h.1 k a, fun n hn => (Table.mem_keys_set hn).elim (fun e => e ▸ hk) (h.2 n)⟩

/-- A write of a number that is defined keeps the canonical form. -/
theorem Table.wf_set_of_get {size : Nat} {t : Table α} (h : Table.wf size t) {k : Nat} {b : α}
    (hk : Table.get t k = some b) (a : α) : Table.wf size (Table.set t k a) :=
  Table.wf_set h (h.2 k (Table.mem_keys_of_get hk)) a

theorem Table.wf_erase {size : Nat} {t : Table α} (h : Table.wf size t) (k : Nat) :
    Table.wf size (Table.erase t k) :=
  ⟨Table.rising_erase h.1 k, fun n hn => h.2 n (Table.mem_keys_erase hn)⟩

theorem Table.wf_update {size : Nat} {t : Table α} (h : Table.wf size t) (f : Nat → α → α) :
    Table.wf size (Table.update f t) := by
  simpa [Table.wf] using h

theorem Table.wf_modify {size : Nat} {t : Table α} (h : Table.wf size t) (k : Nat) (f : α → α) :
    Table.wf size (Table.modify t k f) := by
  unfold Table.modify
  cases hk : Table.get t k with
  | none => exact h
  | some a => exact Table.wf_set_of_get h hk _

end Sys2Proof.Machine
end

