-- ==== Sys2Proof/Laws/Frames.lean ====
section
/-! SUPPORT. One lemma per shared operation: every part of the state it can touch. All else is as it
was. -/

namespace Sys2Proof.Machine

/-! ### The relation -/

theorem State.keepsBut.refl (s : State) (l : List Field) : s.keepsBut s l := by
  intro f _; cases f <;> rfl

theorem State.keepsBut.trans {s t u : State} {l : List Field} (h1 : s.keepsBut t l) (h2 : t.keepsBut u l) :
    s.keepsBut u l := by
  intro f hf
  have a := h1 f hf
  have b := h2 f hf
  cases f <;> exact Eq.trans b a

theorem State.keepsBut.mono {s t : State} {l m : List Field} (h : s.keepsBut t l) (hs : l ⊆ m) :
    s.keepsBut t m :=
  fun f hf => h f (fun h' => hf (hs h'))

/-- Two changes one after the other touch what either touches. -/
theorem State.keepsBut.seq {s t u : State} {l m n : List Field} (h1 : s.keepsBut t l) (h2 : t.keepsBut u m)
    (hl : l ⊆ n) (hm : m ⊆ n) : s.keepsBut u n :=
  (h1.mono hl).trans (h2.mono hm)

/-- An operation over a list touches what each of its runs touches. -/
theorem State.keepsBut.forEach {f : Nat → State → State} {l : List Field}
    (h : ∀ n s, State.keepsBut s (f n s) l) (ns : List Nat) (s : State) :
    s.keepsBut (State.forEach f ns s) l := by
  induction ns generalizing s with
  | nil => exact State.keepsBut.refl s l
  | cons n ns ih => exact (h n s).trans (ih (f n s))

/-! ### Ports, part by part -/

/-- A port whose four parts stand is as it was. -/
theorem State.port_eq {s t : State} {p : Port} (h : ∀ f ∈ portParts p, f.same s t) : t.port p = s.port p := by
  have h1 := h (.link p) (by simp)
  have h2 := h (.places p) (by simp)
  have h3 := h (.enables p) (by simp)
  have h4 := h (.items p) (by simp)
  simp only [Field.same, PortState.linkPart, PortState.placesPart, PortState.itemsPart] at h1 h2 h3 h4
  revert h1 h2 h3 h4
  generalize t.port p = a
  generalize s.port p = b
  intro h1 h2 h3 h4
  obtain ⟨ar, al, as, aw, ⟨a0, a1, a2, a3, a4, a5, a6⟩, an⟩ := a
  obtain ⟨br, bl, bs, bw, ⟨b0, b1, b2, b3, b4, b5, b6⟩, bn⟩ := b
  simp_all

/-- A port none of whose parts is touched is as it was. -/
theorem State.keepsBut.port {s t : State} {l : List Field} (h : s.keepsBut t l) {p : Port}
    (hp : ∀ f ∈ portParts p, f ∉ l) : t.port p = s.port p :=
  State.port_eq (fun f hf => h f (hp f hf))

/-- An update of a port that leaves its other parts as they were touches the parts it names. -/
theorem State.withPort_only (s : State) (p : Port) (v : PortState) (l : List Field)
    (h : ∀ f ∈ portParts p, f ∉ l → f.same s (s.withPort p v)) : s.keepsBut (s.withPort p v) l := by
  intro f hf
  by_cases hp : f ∈ portParts p
  · exact h f hp hf
  have hq : ∀ {q : Port}, q ≠ p → (s.withPort p v).port q = s.port q := fun e => s.withPort_port_ne v e
  simp only [List.mem_cons, List.not_mem_nil, or_false, not_or] at hp
  cases f with
  | link q => simp only [Field.same]; rw [hq (by rintro rfl; simp at hp)]
  | places q => simp only [Field.same]; rw [hq (by rintro rfl; simp at hp)]
  | enables q => simp only [Field.same]; rw [hq (by rintro rfl; simp at hp)]
  | items q => simp only [Field.same]; rw [hq (by rintro rfl; simp at hp)]
  | span i => exact s.withPort_span p v i
  | _ => cases p <;> rfl

/-! ### The updates -/

/-- The items of both ports, which every raised item reaches (R187). -/
abbrev bothItems : List Field := [.items .main, .items .panel]

/-- What an availability notice can touch (R70, R71). -/
abbrev airParts : List Field := [.zones, .signs, .items .main, .items .panel]

/-- What judging a group's drives can touch (R78, R80). -/
abbrev fanParts : List Field := [.fans, .queue, .zones, .signs, .items .main, .items .panel]

/-- What a bay change can touch (R2, R30, R31). -/
abbrev bayParts : List Field := [.bays, .zones, .signs, .items .main, .items .panel]

/-- What an answer or a notice to a node's owners can touch (R162). -/
abbrev allOwnerParts : List Field :=
  [.nodes, .bays, .zones, .signs, .lights, .fans, .queue, .items .main, .items .panel]

theorem State.raise_keeps (s : State) (c : AttClass) (o : Nat) (r : Reason) :
    s.keepsBut (s.raise c o r) bothItems := by
  intro f hf
  cases f with
  | link p => simp [Field.same, PortState.linkPart]
  | places p => simp [Field.same, PortState.placesPart]
  | enables p => simp [Field.same]
  | items p => cases p <;> simp at hf
  | _ => rfl

theorem State.withBays_keeps (s : State) (t : Table Bay) : s.keepsBut (s.withBays t) [.bays] := by
  intro f hf; cases f <;> first | rfl | simp at hf
theorem State.withZones_keeps (s : State) (t : Table Zone) : s.keepsBut (s.withZones t) [.zones] := by
  intro f hf; cases f <;> first | rfl | simp at hf
theorem State.withFans_keeps (s : State) (t : Table Fan) : s.keepsBut (s.withFans t) [.fans] := by
  intro f hf; cases f <;> first | rfl | simp at hf
theorem State.withQueue_keeps (s : State) (q : List Nat) : s.keepsBut (s.withQueue q) [.queue] := by
  intro f hf; cases f <;> first | rfl | simp at hf
theorem State.withSlot_keeps (s : State) (e : Option Seconds) : s.keepsBut (s.withSlot e) [.slot] := by
  intro f hf; cases f <;> first | rfl | simp at hf
theorem State.withFire_keeps (s : State) (m : FireMonitor) : s.keepsBut (s.withFire m) [.fire] := by
  intro f hf; cases f <;> first | rfl | simp at hf
theorem State.withSigns_keeps (s : State) (t : Table Sign) : s.keepsBut (s.withSigns t) [.signs] := by
  intro f hf; cases f <;> first | rfl | simp at hf
theorem State.withLights_keeps (s : State) (t : Table Light) : s.keepsBut (s.withLights t) [.lights] := by
  intro f hf; cases f <;> first | rfl | simp at hf
theorem State.withFireFlag_keeps (s : State) (b : Bool) : s.keepsBut (s.withFireFlag b) [.fireFlag] := by
  intro f hf; cases f <;> first | rfl | simp at hf
theorem State.withFumeSet_keeps (s : State) (z : ZoneSet) : s.keepsBut (s.withFumeSet z) [.fumeSet] := by
  intro f hf; cases f <;> first | rfl | simp at hf
theorem State.withNodes_keeps (s : State) (t : Table Node) : s.keepsBut (s.withNodes t) [.nodes] := by
  intro f hf; cases f <;> first | rfl | simp at hf
theorem State.withClock_keeps (s : State) (t a : Millis) (c : Seconds) :
    s.keepsBut (s.withClock t a c) clockParts := by
  intro f hf; cases f <;> first | rfl | simp at hf
theorem State.atMs_keeps (s : State) (t : Millis) : s.keepsBut (s.atMs t) clockParts :=
  s.withClock_keeps _ _ _

/-- R192: where the time base stands once it has gone on. -/
theorem State.atMs_movedTo (s : State) (t : Millis) : s.movedTo (s.atMs t) t :=
  ⟨rfl, congrArg (s.secondAt + ·) (Nat.mul_comm _ _), rfl⟩

/-- R192: the time base stays sound as it goes on. -/
theorem State.atMs_timeSound (s : State) (t : Millis) (h : s.timeSound) : (s.atMs t).timeSound := by
  obtain ⟨ha, hs⟩ := h
  have later : ∀ m a n : Nat, m ≤ n → a = 1000 * (m / 1000) →
      a + (n - a) / 1000 * 1000 = 1000 * (n / 1000) ∧ n / 1000 = m / 1000 + (n - a) / 1000 := by
    intro m a n hm e; omega
  obtain ⟨h1, h2⟩ := later s.ms s.secondAt (max s.ms t) (Nat.le_max_left _ _) ha
  exact ⟨h1, by rw [State.atMs_seconds, State.atMs_ms, hs, h2, BitVec.ofNat_add]⟩
theorem State.withKey_keeps (s : State) (b : Bool) : s.keepsBut (s.withKey b) [.serviceKey] := by
  intro f hf; cases f <;> first | rfl | simp at hf
theorem State.withSettings_keeps (s : State) (v : PartSettings) :
    s.keepsBut (s.withSettings v) [.settings] := by
  intro f hf; cases f <;> first | rfl | simp at hf
theorem State.withAirNext_keeps (s : State) (e : Seconds) : s.keepsBut (s.withAirNext e) [.airNext] := by
  intro f hf; cases f <;> first | rfl | simp at hf
theorem State.withFanNext_keeps (s : State) (e : Seconds) : s.keepsBut (s.withFanNext e) [.fanNext] := by
  intro f hf; cases f <;> first | rfl | simp at hf
theorem State.withFreeCount_keeps (s : State) (n : Nat) : s.keepsBut (s.withFreeCount n) [.freeCount] := by
  intro f hf; cases f <;> first | rfl | simp at hf

theorem State.withPort_keeps (s : State) (p : Port) (v : PortState) :
    s.keepsBut (s.withPort p v) (portParts p) :=
  s.withPort_only p v _ (fun _ h hn => absurd h hn)

/-- A port takes a new attention set: its items, its enables and its line. -/
theorem State.withAtt_keeps (s : State) (p : Port) (a : AttSet) :
    s.keepsBut (s.withPort p ((s.port p).withAtt a)) [.enables p, .items p] := by
  refine s.withPort_only p _ _ (fun f h hn => ?_)
  simp only [List.mem_cons, List.not_mem_nil, or_false, not_or] at h hn
  rcases h with rfl | rfl | rfl | rfl
  · simp [Field.same, PortState.linkPart]
  · simp [Field.same, PortState.placesPart]
  · exact absurd rfl hn.1
  · exact absurd rfl hn.2

/-- Clearing an item leaves the enables (R191). -/
theorem State.clearAtt_keeps (s : State) (p : Port) (c : AttClass) (o : Nat) :
    s.keepsBut (s.withPort p ((s.port p).withAtt ((s.port p).att.clear c o))) [.items p] := by
  refine s.withPort_only p _ _ (fun f h hn => ?_)
  simp only [List.mem_cons, List.not_mem_nil, or_false] at h hn
  rcases h with rfl | rfl | rfl | rfl
  · simp [Field.same, PortState.linkPart]
  · simp [Field.same, PortState.placesPart]
  · cases c <;> simp [Field.same, AttSet.clear, AttSet.withItems]
  · exact absurd rfl hn

theorem State.setReceiver_keeps (s : State) (p : Port) (r : Receiver) :
    s.keepsBut (s.setReceiver p r) [.link p] := by
  refine s.withPort_only p _ _ (fun f h hn => ?_)
  simp only [List.mem_cons, List.not_mem_nil, or_false] at h hn
  rcases h with rfl | rfl | rfl | rfl
  · exact absurd rfl hn
  all_goals simp [Field.same, PortState.placesPart, PortState.itemsPart]

theorem State.withSpan_keeps (s : State) (i : SpanId) (v : Span) : s.keepsBut (s.withSpan i v) [.span i] := by
  intro f hf
  cases f with
  | span j => exact s.withSpan_span_ne v (by simpa using hf)
  | link p => simp only [Field.same, s.withSpan_port i v p]
  | places p => simp only [Field.same, s.withSpan_port i v p]
  | enables p => simp only [Field.same, s.withSpan_port i v p]
  | items p => simp only [Field.same, s.withSpan_port i v p]
  | _ => cases i <;> rfl

theorem State.changeSpan_keeps (s : State) (i : SpanId) (f : Span → Span) :
    s.keepsBut (s.changeSpan i f) [.span i] := s.withSpan_keeps i _

/-! ### Zones, signs, lights -/

theorem State.markSigns_keeps (s : State) (z : Nat) : s.keepsBut (s.markSigns z) [.signs] :=
  s.withSigns_keeps _

theorem State.recomputeSigns_keeps (s : State) : s.keepsBut s.recomputeSigns [.signs] :=
  s.withSigns_keeps _

theorem State.adjustZone_keeps (s : State) (zone : Nat) (f : Zone → Zone) :
    s.keepsBut (s.adjustZone zone f) [.zones, .signs] := by
  unfold State.adjustZone
  split
  · exact .refl _ _
  · next z _ =>
    have h : ∀ z2 : Zone, s.keepsBut (if z2.free = z.free ∧ z2.fill = z.fill
        then s.withZones (Table.set s.zones zone z2)
        else (s.withZones (Table.set s.zones zone z2)).markSigns zone) [.zones, .signs] := by
      intro z2
      split
      · exact (s.withZones_keeps _).mono (by simp)
      · exact (s.withZones_keeps _).seq (State.markSigns_keeps _ _) (by simp) (by simp)
    exact h _

theorem State.recount_keeps (s : State) (old new : Option Bay) :
    s.keepsBut (s.recount old new) [.zones, .signs] := by
  unfold State.recount
  split
  · split
    · exact s.adjustZone_keeps _ _
    · exact (s.adjustZone_keeps _ _).trans (State.adjustZone_keeps _ _ _)
  · exact s.adjustZone_keeps _ _
  · exact s.adjustZone_keeps _ _
  · exact .refl _ _

theorem State.changeCauses_keeps (s : State) (zone : Nat) (f : Causes → Causes) :
    s.keepsBut (s.changeCauses zone f) [.zones, .signs] := by
  unfold State.changeCauses
  split
  · exact .refl _ _
  · split
    · exact .refl _ _
    · exact (s.withZones_keeps _).seq (State.markSigns_keeps _ _) (by simp) (by simp)

theorem State.movement_keeps (s : State) (zone : Nat) : s.keepsBut (s.movement zone) [.lights] :=
  s.withLights_keeps _

theorem State.judgeForcing_keeps (s : State) (picks : Nat → Bool) :
    s.keepsBut (s.judgeForcing picks) [.lights] := s.withLights_keeps _

theorem State.fumeReported_keeps (s : State) (zone : Nat) :
    s.keepsBut (s.fumeReported zone) [.lights, .fumeSet] :=
  (s.withFumeSet_keeps _).seq (State.judgeForcing_keeps _ _) (by simp) (by simp)

theorem State.fumeEnded_keeps (s : State) (zone : Nat) :
    s.keepsBut (s.fumeEnded zone) [.lights, .fumeSet] :=
  (s.withFumeSet_keeps _).seq (State.judgeForcing_keeps _ _) (by simp) (by simp)

theorem State.setFireFlag_keeps (s : State) (b : Bool) :
    s.keepsBut (s.setFireFlag b) [.lights, .fireFlag] :=
  (s.withFireFlag_keeps _).seq (State.judgeForcing_keeps _ _) (by simp) (by simp)

/-! ### Fans -/

theorem State.changeFan_keeps (s : State) (group : Nat) (f : Fan → Fan) :
    s.keepsBut (s.changeFan group f) [.fans] := s.withFans_keeps _

theorem State.retarget_keeps (s : State) (group : Nat) : s.keepsBut (s.retarget group) [.fans] :=
  s.withFans_keeps _

theorem State.retargetServing_keeps (s : State) (zone : Nat) :
    s.keepsBut (s.retargetServing zone) [.fans] := s.withFans_keeps _

theorem State.judgeAirCause_keeps (s : State) (zone : Nat) :
    s.keepsBut (s.judgeAirCause zone) [.zones, .signs] := by
  unfold State.judgeAirCause
  split
  · exact .refl _ _
  · exact s.changeCauses_keeps _ _

theorem State.judgeStatus_keeps (s : State) (zone : Nat) : s.keepsBut (s.judgeStatus zone) airParts := by
  unfold State.judgeStatus
  split
  · exact .refl _ _
  · dsimp only
    split
    · exact .refl _ _
    · exact ((s.withZones_keeps _).seq (State.raise_keeps _ _ _ _) (by simp) (by simp)).seq
        (State.judgeAirCause_keeps _ _) (List.Subset.refl _) (by simp)

theorem State.availabilityNotice_keeps (s : State) (m : ZoneSet) :
    s.keepsBut (s.availabilityNotice m) airParts :=
  .forEach (fun n s => s.judgeStatus_keeps n) _ _

theorem State.leaveQueue_keeps (s : State) (group : Nat) : s.keepsBut (s.leaveQueue group) [.queue] :=
  s.withQueue_keeps _

theorem State.enterFault_keeps (s : State) (group : Nat) (c : FaultCause) :
    s.keepsBut (s.enterFault group c) fanParts := by
  unfold State.enterFault
  split
  · exact .refl _ _
  · exact ((((s.changeFan_keeps _ _).seq (State.leaveQueue_keeps _ _) (by simp) (by simp)).seq
      (State.raise_keeps _ _ _ _) (List.Subset.refl _) (by simp)).seq (State.availabilityNotice_keeps _ _)
      (List.Subset.refl _) (by simp))

theorem State.judgeDrives_keeps (s : State) (group : Nat) : s.keepsBut (s.judgeDrives group) fanParts := by
  unfold State.judgeDrives
  split
  · exact .refl _ _
  · split
    · exact (s.changeFan_keeps _ _).mono (by simp)
    · split
      · dsimp only
        split
        · exact (s.changeFan_keeps _ _).seq (State.enterFault_keeps _ _ _) (by simp) (List.Subset.refl _)
        · exact (s.changeFan_keeps _ _).mono (by simp)
      · dsimp only
        split
        · exact (s.changeFan_keeps _ _).mono (by simp)
        · exact (s.changeFan_keeps _ _).seq (State.raise_keeps _ _ _ _) (by simp) (by simp)

theorem State.grant_keeps (s : State) (group : Nat) : s.keepsBut (s.grant group) [.queue, .fans] :=
  (s.leaveQueue_keeps _).seq (State.changeFan_keeps _ _ _) (by simp) (by simp)

theorem State.takeSlot_keeps (s : State) : s.keepsBut s.takeSlot [.slot] := s.withSlot_keeps _

theorem State.enqueue_keeps (s : State) (group : Nat) : s.keepsBut (s.enqueue group) [.queue] := by
  unfold State.enqueue
  split <;> exact s.withQueue_keeps _

theorem State.moveForward_keeps (s : State) (group : Nat) : s.keepsBut (s.moveForward group) [.queue] :=
  (s.leaveQueue_keeps _).trans (State.withQueue_keeps _ _)

theorem State.joinQueue_keeps (s : State) (group : Nat) :
    s.keepsBut (s.joinQueue group) [.queue, .fans, .slot] := by
  unfold State.joinQueue
  dsimp only
  split
  · exact ((s.changeFan_keeps _ _).seq (State.grant_keeps _ _) (by simp) (by simp)).seq
      (State.takeSlot_keeps _) (List.Subset.refl _) (by simp)
  · exact (s.changeFan_keeps _ _).seq (State.enqueue_keeps _ _) (by simp) (by simp)

theorem State.placeFire_keeps (s : State) (group : Nat) :
    s.keepsBut (s.placeFire group) [.fans, .queue, .items .main, .items .panel] := by
  unfold State.placeFire
  split
  · exact .refl _ _
  · next g _ =>
    have h1 : s.keepsBut ((s.changeFan group (fun g =>
        { g with stack := stackWithFire g.stack (g.fireLevel s.fire.zone) })).retarget group)
        [.fans, .queue, .items .main, .items .panel] :=
      (s.changeFan_keeps _ _).seq (State.retarget_keeps _ _) (by simp) (by simp)
    have hr : ∀ (c : Bool) (t : State) (r : Reason), t.keepsBut (if c then t.raise .fan group r else t)
        [.fans, .queue, .items .main, .items .panel] := by
      intro c t r
      cases c
      · exact .refl _ _
      · exact (t.raise_keeps _ _ _).mono (by simp)
    have h2 := h1.trans (hr (decide (Config.stackDepth ≤ g.stack.length)) _ .displaced)
    have h3 := h2.trans (hr (decide (g.state = .isolated)) _ .isolatedInFire)
    simp only [decide_eq_true_eq] at h3
    dsimp only
    split
    · exact h3.trans ((State.moveForward_keeps _ _).mono (by simp))
    · exact h3

theorem State.relevelFire_keeps (s : State) (group : Nat) : s.keepsBut (s.relevelFire group) [.fans] :=
  (s.changeFan_keeps _ _).trans (State.retarget_keeps _ _)

theorem State.removeFire_keeps (s : State) (group : Nat) : s.keepsBut (s.removeFire group) [.fans] :=
  (s.changeFan_keeps _ _).trans (State.retarget_keeps _ _)

theorem State.driveAnswer_keeps (s : State) (node : Nat) (r : DriveReport) :
    s.keepsBut (s.driveAnswer node r) fanParts := by
  unfold State.driveAnswer
  split
  · exact .refl _ _
  · exact (s.changeFan_keeps _ _).seq (State.judgeDrives_keeps _ _) (by simp) (List.Subset.refl _)

theorem State.driveLost_keeps (s : State) (node : Nat) : s.keepsBut (s.driveLost node) fanParts := by
  unfold State.driveLost
  split
  · exact .refl _ _
  · exact (s.changeFan_keeps _ _).seq (State.judgeDrives_keeps _ _) (by simp) (List.Subset.refl _)

theorem State.driveRestored_keeps (s : State) (node : Nat) : s.keepsBut (s.driveRestored node) fanParts := by
  unfold State.driveRestored
  split
  · exact .refl _ _
  · exact s.judgeDrives_keeps _

/-! ### Bays -/

theorem State.putBay_keeps (s : State) (bay : Nat) (b : Bay) : s.keepsBut (s.putBay bay b) bayParts := by
  unfold State.putBay
  split
  · exact .refl _ _
  · split
    · exact .refl _ _
    · have h : ∀ o b', s.keepsBut ((s.withBays (Table.set s.bays bay b')).recount (some o) (some b')) bayParts :=
        fun o b' => (s.withBays_keeps _).seq (State.recount_keeps _ _ _) (by simp) (by simp)
      dsimp only
      split
      · exact (h _ _).trans ((State.raise_keeps _ _ _ _).mono (by simp))
      · exact h _ _

theorem State.addCredit_keeps (s : State) (zone : Nat) (a : Bool) : s.keepsBut (s.addCredit zone a) [.zones] := by
  unfold State.addCredit
  split
  · exact .refl _ _
  · exact s.withZones_keeps _

theorem State.movementNotice_keeps (s : State) (zone : Nat) (a : Bool) :
    s.keepsBut (s.movementNotice zone a) [.zones, .lights] :=
  (s.addCredit_keeps _ _).seq (State.movement_keeps _ _) (by simp) (by simp)

theorem State.applyReading_keeps (s : State) (node channel : Nat) (r : Reading) :
    s.keepsBut (s.applyReading node channel r) (.lights :: bayParts) := by
  unfold State.applyReading
  split
  · exact .refl _ _
  · split
    · exact .refl _ _
    · dsimp only
      split
      · exact (s.putBay_keeps _ _).mono (by simp)
      · exact (s.putBay_keeps _ _).seq (State.movementNotice_keeps _ _ _) (by simp) (by simp)

theorem State.applyReadings_keeps (s : State) (node : Nat) (content : List Byte) :
    s.keepsBut (s.applyReadings node content) (.lights :: bayParts) :=
  .forEach (fun _ s => s.applyReading_keeps _ _ _) _ _

theorem State.loseBay_keeps (s : State) (node channel : Nat) : s.keepsBut (s.loseBay node channel) bayParts := by
  unfold State.loseBay
  split
  · exact .refl _ _
  · split
    · exact .refl _ _
    · exact s.putBay_keeps _ _

theorem State.loseHead_keeps (s : State) (node : Nat) : s.keepsBut (s.loseHead node) bayParts :=
  .forEach (fun _ s => s.loseBay_keeps _ _) _ _

/-! ### Air -/

theorem State.gasAnswer_keeps (s : State) (node co no2 : Nat) (st : HeadStatus) :
    s.keepsBut (s.gasAnswer node co no2 st) [.nodes, .items .main, .items .panel] := by
  unfold State.gasAnswer
  split
  · exact .refl _ _
  · dsimp only
    split
    · exact (s.withNodes_keeps _).seq (State.raise_keeps _ _ _ _) (by simp) (by simp)
    · exact (s.withNodes_keeps _).mono (by simp)

theorem State.loseGasHead_keeps (s : State) (node : Nat) : s.keepsBut (s.loseGasHead node) [.nodes] :=
  s.withNodes_keeps _

theorem State.clearPeaks_keeps (s : State) (zone : Nat) : s.keepsBut (s.clearPeaks zone) [.nodes] :=
  s.withNodes_keeps _

/-- What the effects of a fume change can touch (R67, R71, R85). -/
abbrev fumeParts : List Field :=
  [.zones, .signs, .lights, .fumeSet, .fans, .items .main, .items .panel]

theorem State.fumeEffects_keeps (s : State) (zone : Nat) (old new : Fume) :
    s.keepsBut (s.fumeEffects zone old new) fumeParts := by
  unfold State.fumeEffects
  split
  · exact .refl _ _
  · refine State.keepsBut.seq ?_ (State.judgeAirCause_keeps _ _) (List.Subset.refl _) (by simp)
    split
    · exact ((((s.changeCauses_keeps _ _).seq (State.raise_keeps _ _ _ _) (n := fumeParts) (by simp)
        (by simp)).seq (State.fumeReported_keeps _ _) (List.Subset.refl _) (by simp)).seq
        (State.retargetServing_keeps _ _) (List.Subset.refl _) (by simp))
    · split
      · exact ((((s.changeCauses_keeps _ _).seq (State.raise_keeps _ _ _ _) (n := fumeParts) (by simp)
          (by simp)).seq (State.fumeEnded_keeps _ _) (List.Subset.refl _) (by simp)).seq
          (State.retargetServing_keeps _ _) (List.Subset.refl _) (by simp))
      · exact .refl _ _

theorem State.evaluateZone_keeps (s : State) (zone : Nat) :
    s.keepsBut (s.evaluateZone zone) (.nodes :: fumeParts) := by
  unfold State.evaluateZone
  split
  · exact .refl _ _
  · dsimp only
    refine State.keepsBut.seq ?_ (State.fumeEffects_keeps _ _ _ _) (List.Subset.refl _) (by simp)
    have h := fun t => (s.clearPeaks_keeps zone).seq (State.withZones_keeps (s.clearPeaks zone) t)
      (n := .nodes :: fumeParts) (by simp) (by simp)
    split
    · exact (h _).trans ((State.raise_keeps _ _ _ _).mono (by simp))
    · exact h _

theorem State.evaluateAll_keeps (s : State) :
    s.keepsBut s.evaluateAll (.airNext :: .freeCount :: .nodes :: fumeParts) :=
  ((s.withAirNext_keeps _).seq (State.withFreeCount_keeps _ _) (by simp) (by simp)).seq
    (State.keepsBut.forEach (fun n s => s.evaluateZone_keeps n) _ _) (List.Subset.refl _) (by simp)

/-! ### Nodes and visits -/

theorem State.changeNode_keeps (s : State) (node : Nat) (f : Node → Node) :
    s.keepsBut (s.changeNode node f) [.nodes] := s.withNodes_keeps _

theorem State.changeSignOn_keeps (s : State) (node : Nat) (f : Sign → Sign) :
    s.keepsBut (s.changeSignOn node f) [.signs] := by
  unfold State.changeSignOn
  split
  · exact .refl _ _
  · exact s.withSigns_keeps _

theorem State.changeLightOn_keeps (s : State) (node : Nat) (f : Light → Light) :
    s.keepsBut (s.changeLightOn node f) [.lights] := by
  unfold State.changeLightOn
  split
  · exact .refl _ _
  · exact s.withLights_keeps _

/-- The parts of every kind of owner are among what a notice can touch. -/
theorem ownerParts_subset (k : NodeKind) : ownerParts k ⊆ allOwnerParts := by
  cases k <;> simp [ownerParts]

/-- R162: what the notice of a lost node can touch, by the node's kind. -/
theorem State.noticeLost_keeps_own (s : State) (node : Nat) (k : NodeKind) :
    s.keepsBut (s.noticeLost node k) (.nodes :: ownerParts k) := by
  cases k
  · exact (s.loseHead_keeps _).mono (by simp [ownerParts])
  · exact (s.loseGasHead_keeps _).mono (by simp [ownerParts])
  · exact (s.changeLightOn_keeps _ _).mono (by simp [ownerParts])
  · exact (s.driveLost_keeps _).mono (by simp [ownerParts])
  · exact (s.changeSignOn_keeps _ _).mono (by simp [ownerParts])

/-- R162: what the notice of a restored node can touch, by the node's kind. -/
theorem State.noticeRestored_keeps_own (s : State) (node : Nat) (k : NodeKind) :
    s.keepsBut (s.noticeRestored node k) (ownerParts k) := by
  cases k
  · exact .refl _ _
  · exact .refl _ _
  · exact (s.changeLightOn_keeps _ _).mono (by simp [ownerParts])
  · exact (s.driveRestored_keeps _).mono (by simp [ownerParts])
  · exact (s.changeSignOn_keeps _ _).mono (by simp [ownerParts])

theorem State.noticeLost_keeps (s : State) (node : Nat) (k : NodeKind) :
    s.keepsBut (s.noticeLost node k) allOwnerParts :=
  (s.noticeLost_keeps_own node k).mono (List.cons_subset.2 ⟨by simp, ownerParts_subset k⟩)

theorem State.noticeRestored_keeps (s : State) (node : Nat) (k : NodeKind) :
    s.keepsBut (s.noticeRestored node k) allOwnerParts :=
  (s.noticeRestored_keeps_own node k).mono (ownerParts_subset k)

theorem State.silenceNode_keeps (s : State) (node : Nat) : s.keepsBut (s.silenceNode node) allOwnerParts := by
  unfold State.silenceNode
  split
  · exact .refl _ _
  · exact ((s.changeNode_keeps _ _).seq (State.noticeLost_keeps _ _ _) (by simp) (List.Subset.refl _)).trans
      ((State.raise_keeps _ _ _ _).mono (by simp))

theorem State.suspendNow_keeps (s : State) (node : Nat) : s.keepsBut (s.suspendNow node) allOwnerParts := by
  unfold State.suspendNow
  split
  · exact .refl _ _
  · exact (s.changeNode_keeps _ _).seq (State.noticeLost_keeps _ _ _) (by simp) (List.Subset.refl _)

theorem State.resumeNow_keeps (s : State) (node : Nat) : s.keepsBut (s.resumeNow node) allOwnerParts := by
  unfold State.resumeNow
  split
  · exact .refl _ _
  · exact (s.changeNode_keeps _ _).seq (State.noticeRestored_keeps _ _ _) (by simp) (List.Subset.refl _)

theorem State.handAnswer_keeps (s : State) (node : Nat) (k : NodeKind) (content : List Byte) (r : Bool) :
    s.keepsBut (s.handAnswer node k content r) allOwnerParts := by
  cases k
  · simp only [State.handAnswer]
    have h := (s.applyReadings_keeps node content).mono (m := allOwnerParts) (by simp)
    split
    · refine h.trans ?_
      unfold State.aislePresence
      split
      · exact .refl _ _
      · exact (State.movement_keeps _ _).mono (by simp)
    · exact h
  · simp only [State.handAnswer]
    split
    · exact .refl _ _
    · exact (s.gasAnswer_keeps _ _ _ _).mono (by simp)
  · exact (s.changeLightOn_keeps _ _).mono (by simp)
  · exact (s.driveAnswer_keeps _ _).mono (by simp)
  · exact (s.changeSignOn_keeps _ _).mono (by simp)

theorem State.goodVisit_keeps (s : State) (node : Nat) (content : List Byte) (r : Bool) :
    s.keepsBut (s.goodVisit node content r) allOwnerParts := by
  unfold State.goodVisit
  split
  · exact .refl _ _
  · refine State.keepsBut.trans ?_ (State.handAnswer_keeps _ _ _ _ _)
    split
    · exact (s.changeNode_keeps _ _).mono (by simp)
    · exact ((s.changeNode_keeps _ _).seq (State.noticeRestored_keeps _ _ _) (by simp)
        (List.Subset.refl _)).trans ((State.raise_keeps _ _ _ _).mono (by simp))
    · exact (s.changeNode_keeps _ _).mono (by simp)
    · exact (s.changeNode_keeps _ _).mono (by simp)

theorem State.failedVisit_keeps (s : State) (node : Nat) (e : VisitError) :
    s.keepsBut (s.failedVisit node e) allOwnerParts := by
  unfold State.failedVisit
  split
  · exact .refl _ _
  · dsimp only
    split
    · exact (s.changeNode_keeps _ _).seq (State.silenceNode_keeps _ _) (by simp) (List.Subset.refl _)
    · exact (s.changeNode_keeps _ _).mono (by simp)

theorem State.applySuspension_keeps (s : State) (node : Nat) :
    s.keepsBut (s.applySuspension node) allOwnerParts := by
  unfold State.applySuspension
  split
  · exact .refl _ _
  · split
    · exact s.suspendNow_keeps _
    · exact .refl _ _

theorem State.applyOutcome_keeps (s : State) (v : Visit) (e : VisitEnd) :
    s.keepsBut (s.applyOutcome v e) allOwnerParts := by
  cases e
  · exact (s.goodVisit_keeps _ _ _).trans (State.applySuspension_keeps _ _)
  · exact (s.failedVisit_keeps _ _).trans (State.applySuspension_keeps _ _)

/-! ### Spans -/

/-- R157: what closing a round can do: nothing, or, where no visit is in flight on a RUNNING span and no node
remains, end the round. -/
theorem State.closeRound_cases (s : State) (i : SpanId) :
    s.closeRound i = s ∨ ((s.span i).stuck = none ∧ (s.span i).visit = none ∧ (s.span i).inRound = true ∧
      s.nextNode i = none ∧ s.closeRound i = s.changeSpan i (fun p => { p with inRound := false, position := none })) := by
  unfold State.closeRound
  split
  · rename_i h
    simp only [Span.choosing, Bool.and_eq_true, Option.isNone_iff_eq_none] at h
    exact .inr ⟨h.1.1.1, h.1.1.2, h.1.2, h.2, rfl⟩
  · exact .inl rfl

theorem State.closeRound_keeps (s : State) (i : SpanId) : s.keepsBut (s.closeRound i) [.span i] := by
  unfold State.closeRound
  split
  · exact s.changeSpan_keeps _ _
  · exact .refl _ _

theorem State.beginRound_keeps (s : State) (i : SpanId) : s.keepsBut (s.beginRound i) [.nodes, .span i] :=
  ((s.withNodes_keeps _).seq (State.changeSpan_keeps _ _ _) (by simp) (by simp)).seq
    (State.closeRound_keeps _ _) (List.Subset.refl _) (by simp)

theorem State.recordSent_keeps (s : State) (node : Nat) (k : NodeKind) :
    s.keepsBut (s.recordSent node k) [.signs] := by
  cases k <;> first | exact .refl _ _ | exact s.changeSignOn_keeps _ _

theorem State.beginVisit_keeps (s : State) (i : SpanId) (node : Nat) :
    s.keepsBut (s.beginVisit i node) [.signs, .span i] := by
  unfold State.beginVisit
  split
  · exact .refl _ _
  · exact (s.recordSent_keeps _ _).seq (State.changeSpan_keeps _ _ _) (by simp) (by simp)

theorem State.endVisit_keeps (s : State) (i : SpanId) (e : VisitEnd) :
    s.keepsBut (s.endVisit i e) (.span i :: allOwnerParts) := by
  have hc : ∀ (t : State) (f : Span → Span), t.keepsBut (t.changeSpan i f) (.span i :: allOwnerParts) :=
    fun t f => (t.changeSpan_keeps i f).mono (by simp)
  have hr : ∀ t : State, t.keepsBut (t.closeRound i) (.span i :: allOwnerParts) :=
    fun t => (t.closeRound_keeps i).mono (by simp)
  have hb : ∀ t : State, t.keepsBut (t.beginRound i) (.span i :: allOwnerParts) :=
    fun t => (t.beginRound_keeps i).mono (by simp)
  unfold State.endVisit
  split
  · exact .refl _ _
  · dsimp only
    split
    · exact (((hc _ _).trans ((State.applyOutcome_keeps _ _ _).mono (by simp))).trans (hc _ _)).trans (hr _)
    · exact ((hc _ _).trans (hc _ _)).trans (hr _)
    · exact ((hc _ _).trans ((State.applySuspension_keeps _ _).mono (by simp))).trans (hb _)
    · exact (hc _ _).trans (hb _)

theorem State.spanByte_keeps (s : State) (i : SpanId) (b : Byte) (stopOk : Bool) :
    s.keepsBut (s.spanByte i b stopOk) (.freeCount :: .span i :: allOwnerParts) := by
  have hc : ∀ (t : State) (f : Span → Span),
      t.keepsBut (t.changeSpan i f) (.freeCount :: .span i :: allOwnerParts) :=
    fun t f => (t.changeSpan_keeps i f).mono (by simp)
  have hf : ∀ (t : State) (c : Bool) (n : Nat),
      t.keepsBut (if c then t else t.withFreeCount n) (.freeCount :: .span i :: allOwnerParts) := by
    intro t c n
    cases c
    · exact (t.withFreeCount_keeps n).mono (by simp)
    · exact .refl _ _
  unfold State.spanByte
  dsimp only
  split
  · exact hc _ _
  · split
    · exact (hc _ _).trans (hf _ _ _)
    · split
      · exact ((hc _ _).trans (hf _ _ _)).trans (hc _ _)
      · exact (((hc _ _).trans (hf _ _ _)).trans (hc _ _)).trans
          ((State.endVisit_keeps _ _ _).mono (by simp))

theorem State.becomeStuck_keeps (s : State) (i : SpanId) :
    s.keepsBut (s.becomeStuck i) [.span i, .items .main, .items .panel] :=
  (s.changeSpan_keeps _ _).seq (State.raise_keeps _ _ _ _) (by simp) (by simp)

theorem State.silenceSpan_keeps (s : State) (i : SpanId) : s.keepsBut (s.silenceSpan i) allOwnerParts := by
  refine .forEach (fun a s => ?_) _ _
  unfold State.silenceAt
  split
  · exact .refl _ _
  · split
    · exact .refl _ _
    · split
      · exact s.silenceNode_keeps _
      · exact .refl _ _

theorem State.freeSpan_keeps (s : State) (i : SpanId) :
    s.keepsBut (s.freeSpan i) [.span i, .items .main, .items .panel] :=
  ((s.changeSpan_keeps _ _).seq (State.raise_keeps _ _ _ _) (by simp) (by simp)).seq
    (State.closeRound_keeps _ _) (List.Subset.refl _) (by simp)

/-! ### Places -/

theorem State.occupy_keeps (s : State) (p : Port) (item : Placed) (r : Reply) :
    s.keepsBut (s.occupy p item r) [.places p] := by
  refine s.withPort_only p _ _ (fun f h hn => ?_)
  simp only [List.mem_cons, List.not_mem_nil, or_false] at h hn
  rcases h with rfl | rfl | rfl | rfl
  · simp [Field.same, PortState.linkPart]
  · exact absurd rfl hn
  all_goals simp [Field.same, PortState.itemsPart]

/-- R176: a full port loses the arrival and raises OVERRUN; a free waiting place takes it. -/
theorem State.wait_keeps (s : State) (p : Port) (item : Placed) :
    s.keepsBut (s.wait p item) [.places p, .items .main, .items .panel] := by
  unfold State.wait
  split
  · refine s.withPort_only p _ _ (fun f h hn => ?_)
    simp only [List.mem_cons, List.not_mem_nil, or_false, not_or] at h hn
    rcases h with rfl | rfl | rfl | rfl
    · simp [Field.same, PortState.linkPart]
    · exact absurd rfl hn.1
    all_goals simp [Field.same, PortState.itemsPart]
  · exact (s.raise_keeps _ _ _).mono (by simp)

end Sys2Proof.Machine
end

