-- ==== Sys2Proof/Laws/Requests.lean ====
section
/-! SUPPORT. Requests: what taking and refusing one does, and every part of the state that serving each
one can touch. -/

namespace Sys2Proof.Machine

/-! ### Taking and checking -/

@[simp] theorem refuse_state (r : Result) (s : State) : (refuse r s).state = s := rfl
@[simp] theorem refuse_result (r : Result) (s : State) : (refuse r s).result = r := rfl
@[simp] theorem refuse_payload (r : Result) (s : State) : (refuse r s).payload = [] := rfl
@[simp] theorem serveOk_state (l : List Byte) (s : State) : (serveOk l s).state = s := rfl
@[simp] theorem serveOk_result (l : List Byte) (s : State) : (serveOk l s).result = .ok := rfl
@[simp] theorem serveOk_payload (l : List Byte) (s : State) : (serveOk l s).payload = l := rfl

@[simp] theorem need_true (r : Result) (s : State) (v : Served) : need true r s v = v := rfl
@[simp] theorem need_false (r : Result) (s : State) (v : Served) : need false r s v = refuse r s := rfl

/-- A check that holds is passed. -/
theorem need_pos {b : Bool} (h : b = true) (r : Result) (s : State) (v : Served) : need b r s v = v := by
  subst h; rfl

/-- A check that fails gives its result, and nothing changes. -/
theorem need_neg {b : Bool} (h : b = false) (r : Result) (s : State) (v : Served) :
    need b r s v = refuse r s := by
  subst h; rfl

/-- A request that its port accepts is taken and served at once (R176, R177). -/
theorem State.arrive_accepted {s : State} {h : Head} {c : Cls} (ha : s.accepts h c) (body : Request)
    (serve : Cls → State → Served) :
    s.arrive h body serve =
      (serve c (s.withKey h.key)).state.occupy h.port (.request h.cls h.tag body)
        { tag := h.tag, result := (serve c (s.withKey h.key)).result
          payload := (serve c (s.withKey h.key)).payload } := by
  simp [State.arrive, State.take, ha.1, ha.2]

/-- A request that is refused changes SERVICE KEY's sample and its port's place alone (R179). -/
theorem State.arrive_refused {s : State} {h : Head} {c : Cls} (ha : s.accepts h c) (body : Request)
    {serve : Cls → State → Served} {r : Result} (hr : serve c (s.withKey h.key) = refuse r (s.withKey h.key)) :
    s.arrive h body serve =
      (s.withKey h.key).occupy h.port (.request h.cls h.tag body)
        { tag := h.tag, result := r, payload := [] } := by
  rw [State.arrive_accepted ha, hr]; rfl

/-- A class not admitted on the port is refused with CLASS (R178, R179 step 1). -/
theorem State.arrive_classRefused {s : State} {h : Head} (hp : (s.port h.port).service = none)
    (ha : admitted h.port h.key h.cls = none) (body : Request) (serve : Cls → State → Served) :
    s.arrive h body serve =
      (s.withKey h.key).occupy h.port (.request h.cls h.tag body)
        { tag := h.tag, result := .classRefused, payload := [] } := by
  simp [State.arrive, State.take, hp, ha, refuse]

/-- What a served request's place and key show, when serving it left its port alone. -/
theorem State.answers_of_occupy {s u : State} {h : Head} (body : Request) (r : Result) (l : List Byte)
    (hk : u.serviceKey = h.key) (hp : u.port h.port = s.port h.port) :
    s.answers (u.occupy h.port (.request h.cls h.tag body) { tag := h.tag, result := r, payload := l }) h
      body r l := by
  constructor
  · simp [State.occupy, hk]
  · simp [State.occupy, hp, answer]

/-- A request that is served: what its place shows, what stands, and that the state it leaves is the
one serving it gave but for the port's place. `w` is the state with the items that serving raised. -/
theorem State.arrive_served {s w v : State} {h : Head} {c : Cls} (ha : s.accepts h c) (body : Request)
    {serve : Cls → State → Served} {r : Result} {l : List Byte} {touched : List Field}
    (hs : serve c (s.withKey h.key) = { state := v, result := r, payload := l })
    (hk : w.keepsBut v (.serviceKey :: touched)) (hp : ∀ f ∈ portParts h.port, f ∉ touched)
    (hkey : v.serviceKey = h.key) :
    w.answers (s.arrive h body serve) h body r l ∧
    w.keepsBut (s.arrive h body serve) (.serviceKey :: .places h.port :: touched) ∧
    v.keepsBut (s.arrive h body serve) [.places h.port] := by
  rw [State.arrive_accepted ha, hs]
  refine ⟨State.answers_of_occupy _ _ _ hkey (hk.port (p := h.port) (fun f hf => by
    have := hp f hf; simp only [List.mem_cons, List.not_mem_nil, or_false] at hf; rcases hf with rfl | rfl | rfl | rfl <;> simpa using this)), ?_,
    v.occupy_keeps _ _ _⟩
  exact hk.seq (v.occupy_keeps _ _ _) (by intro f hf; simp at hf ⊢; tauto) (by simp)

/-! ### What each request can touch -/

theorem need_keeps {s : State} {b : Bool} {r : Result} {v : Served} {l : List Field}
    (h : b = true → s.keepsBut v.state l) : s.keepsBut (need b r s v).state l := by
  cases b
  · exact .refl _ _
  · exact h rfl

theorem serveReadBays_keeps (s : State) (a b c d : Nat) : s.keepsBut (serveReadBays a b c d s).state [] :=
  need_keeps (fun _ => .refl _ _)

theorem serveFindBays_keeps (s : State) (a : Nat) (k t : Byte) (b c : Nat) :
    s.keepsBut (serveFindBays a k t b c s).state [] :=
  need_keeps (fun _ => need_keeps (fun _ => .refl _ _))

theorem serveChangeBay_keeps (s : State) (c : Cls) (bay m : Nat) (k : Byte) :
    s.keepsBut (serveChangeBay c bay m k s).state bayParts := by
  unfold serveChangeBay
  split
  · refine need_keeps (fun _ => need_keeps (fun _ => ?_))
    split
    · exact .refl _ _
    · exact s.putBay_keeps _ _
  · exact .refl _ _

theorem serveReserveBay_keeps (s : State) (c : Cls) (bay a b : Nat) :
    s.keepsBut (serveReserveBay c bay a b s).state bayParts := by
  unfold serveReserveBay
  refine need_keeps (fun _ => need_keeps (fun _ => ?_))
  split
  · exact .refl _ _
  · exact need_keeps (fun _ => s.putBay_keeps _ _)

theorem serveReleaseBay_keeps (s : State) (c : Cls) (bay a : Nat) :
    s.keepsBut (serveReleaseBay c bay a s).state bayParts := by
  unfold serveReleaseBay
  refine need_keeps (fun _ => need_keeps (fun _ => ?_))
  split
  · exact .refl _ _
  · split
    · exact .refl _ _
    · exact need_keeps (fun _ => s.putBay_keeps _ _)

theorem serveDefineBay_keeps (s : State) (c : Cls) (a z n ch k : Nat) :
    s.keepsBut (serveDefineBay c a z n ch k s).state [.bays, .zones, .signs] := by
  unfold serveDefineBay
  split
  · exact .refl _ _
  · exact need_keeps (fun _ => need_keeps (fun _ => need_keeps (fun _ => need_keeps (fun _ =>
      need_keeps (fun _ => (s.withBays_keeps _).seq (State.recount_keeps _ _ _) (by simp) (by simp))))))

theorem serveRedefineBay_keeps (s : State) (c : Cls) (a z n ch k : Nat) :
    s.keepsBut (serveRedefineBay c a z n ch k s).state bayParts := by
  unfold serveRedefineBay
  split
  · exact .refl _ _
  · refine need_keeps (fun _ => need_keeps (fun _ => ?_))
    split
    · exact .refl _ _
    · exact need_keeps (fun _ => need_keeps (fun _ => s.putBay_keeps _ _))

theorem serveRetireBay_keeps (s : State) (c : Cls) (a : Nat) :
    s.keepsBut (serveRetireBay c a s).state [.bays, .zones, .signs] := by
  unfold serveRetireBay
  refine need_keeps (fun _ => need_keeps (fun _ => ?_))
  split
  · exact .refl _ _
  · exact need_keeps (fun _ => need_keeps (fun _ =>
      (s.withBays_keeps _).seq (State.recount_keeps _ _ _) (by simp) (by simp)))

theorem serveReadZone_keeps (s : State) (z : Nat) : s.keepsBut (serveReadZone z s).state [] :=
  need_keeps (fun _ => need_keeps (fun _ => .refl _ _))

theorem serveOperatorCause_keeps (s : State) (p : Bool) (c : Cls) (z : Nat) :
    s.keepsBut (serveOperatorCause p c z s).state [.zones, .signs] :=
  need_keeps (fun _ => need_keeps (fun _ => need_keeps (fun _ => need_keeps (fun _ =>
    s.changeCauses_keeps _ _))))

theorem serveDefineZone_keeps (s : State) (c : Cls) (z l : Nat) (f : ZoneFields) :
    s.keepsBut (serveDefineZone c z l f s).state [.zones] :=
  need_keeps (fun _ => need_keeps (fun _ => need_keeps (fun _ => need_keeps (fun _ => s.withZones_keeps _))))

theorem serveSetZone_keeps (s : State) (c : Cls) (z : Nat) (l : Option Nat) (f : ZoneFields) :
    s.keepsBut (serveSetZone c z l f s).state [.zones, .signs] := by
  unfold serveSetZone
  refine need_keeps (fun _ => need_keeps (fun _ => ?_))
  split
  · exact .refl _ _
  · refine need_keeps (fun _ => ?_)
    simp only [serveOk_state]
    split
    · exact (s.withZones_keeps _).mono (by simp)
    · exact (s.withZones_keeps _).seq (State.markSigns_keeps _ _) (by simp) (by simp)

theorem serveRetireZone_keeps (s : State) (c : Cls) (z : Nat) :
    s.keepsBut (serveRetireZone c z s).state [.zones, .fumeSet] :=
  need_keeps (fun _ => need_keeps (fun _ => need_keeps (fun _ => need_keeps (fun _ => need_keeps (fun _ =>
    (s.withZones_keeps _).seq (State.withFumeSet_keeps _ _) (by simp) (by simp))))))

theorem serveReadFan_keeps (s : State) (g : Nat) : s.keepsBut (serveReadFan g s).state [] :=
  need_keeps (fun _ => need_keeps (fun _ => .refl _ _))

theorem servePushOverride_keeps (s : State) (c : Cls) (g l : Nat) (d : Option Nat) (t : Nat) :
    s.keepsBut (servePushOverride c g l d t s).state [.fans] := by
  unfold servePushOverride
  refine need_keeps (fun _ => need_keeps (fun _ => ?_))
  split
  · exact .refl _ _
  · exact need_keeps (fun _ => need_keeps (fun _ =>
      (s.changeFan_keeps _ _).trans (State.retarget_keeps _ _)))

theorem servePopOverride_keeps (s : State) (c : Cls) (g : Nat) :
    s.keepsBut (servePopOverride c g s).state [.fans] := by
  unfold servePopOverride
  refine need_keeps (fun _ => need_keeps (fun _ => ?_))
  split
  · exact .refl _ _
  · exact need_keeps (fun _ => need_keeps (fun _ =>
      (s.changeFan_keeps _ _).trans (State.retarget_keeps _ _)))

theorem State.control_keeps (s : State) (a : FanAction) (g : Nat) : s.keepsBut (s.control a g) fanParts := by
  unfold State.control
  split
  · exact .refl _ _
  · split
    · exact .refl _ _
    · next f _ _ =>
      have hret : s.keepsBut (s.returnToService g f) fanParts := by
        unfold State.returnToService
        dsimp only
        have h := (s.changeFan_keeps g (fun g => { g with state := .stopped, faultCause := none })).seq
          (State.judgeDrives_keeps _ g) (n := fanParts) (by simp) (List.Subset.refl _)
        split
        · exact h.trans ((State.availabilityNotice_keeps _ _).mono (by simp))
        · exact h
      cases a
      · show s.keepsBut (s.isolate g f) fanParts
        unfold State.isolate
        dsimp only
        have h := (s.changeFan_keeps g (fun g =>
          { g with state := .isolated, commanded := 0, proof := none, faultCause := none })).seq
          (State.leaveQueue_keeps _ g) (n := fanParts) (by simp) (by simp)
        split
        · exact h.trans ((State.availabilityNotice_keeps _ _).mono (by simp))
        · exact h
      · exact hret
      · exact hret

theorem serveFanControl_keeps (s : State) (c : Cls) (m : BitVec 32) (a : Nat) :
    s.keepsBut (serveFanControl c m a s).state fanParts := by
  unfold serveFanControl
  split
  · exact .refl _ _
  · exact need_keeps (fun _ => need_keeps (fun _ => need_keeps (fun _ => need_keeps (fun _ =>
      need_keeps (fun _ => .forEach (fun _ s => s.control_keeps _ _) _ _)))))

theorem State.removeFan_keeps (s : State) (g : Nat) : s.keepsBut (s.removeFan g) [.fans, .queue] :=
  (s.leaveQueue_keeps _).seq (State.withFans_keeps _ _) (by simp) (by simp)

theorem State.installFan_keeps (s : State) (n : Nat) (g : Fan) (m : ZoneSet) :
    s.keepsBut (s.installFan n g m) fanParts := by
  unfold State.installFan
  have h0' : s.keepsBut ((s.removeFan n).withFans (Table.set s.fans n g)) fanParts :=
    (s.removeFan_keeps n).seq (State.withFans_keeps _ _) (by simp) (by simp)
  dsimp only
  refine State.keepsBut.trans (State.keepsBut.trans (State.keepsBut.trans ?_
    ((State.retarget_keeps _ _).mono (by simp))) (State.judgeDrives_keeps _ _))
    ((State.availabilityNotice_keeps _ _).mono (by simp))
  split
  · exact h0'.trans ((State.placeFire_keeps _ _).mono (by simp))
  · exact h0'

theorem serveDefineFan_keeps (s : State) (c : Cls) (g : Nat) (z : ZoneSet) (d : List Nat) (f : FanFields) :
    s.keepsBut (serveDefineFan c g z d f s).state fanParts :=
  need_keeps (fun _ => need_keeps (fun _ => need_keeps (fun _ => need_keeps (fun _ => need_keeps (fun _ =>
    s.installFan_keeps _ _ _)))))

theorem State.changeFanWhole_keeps (s : State) (n : Nat) (g : Fan) (z : ZoneSet) (d : List Nat)
    (st : FanSettings) : s.keepsBut (s.changeFanWhole n g z d st) fanParts := by
  have hr : ∀ (t : State) (b : Prop) [Decidable b], t.keepsBut (if b then t else t.retarget n) fanParts := by
    intro t b _; split
    · exact .refl _ _
    · exact (t.retarget_keeps n).mono (by simp)
  have hj : ∀ (t : State) (b : Prop) [Decidable b], t.keepsBut (if b then t else t.judgeDrives n) fanParts := by
    intro t b _; split
    · exact .refl _ _
    · exact t.judgeDrives_keeps n
  have hn : ∀ (t : State) (b : Prop) [Decidable b] (m : ZoneSet),
      t.keepsBut (if b then t else t.availabilityNotice m) fanParts := by
    intro t b _ m; split
    · exact .refl _ _
    · exact (t.availabilityNotice_keeps m).mono (by simp)
  exact ((((s.withFans_keeps _).mono (by simp)).trans (hr _ _)).trans (hj _ _)).trans (hn _ _ _)

theorem serveSetFan_keeps (s : State) (c : Cls) (g : Nat) (z : Option ZoneSet) (d : Option (List Nat))
    (f : FanFields) : s.keepsBut (serveSetFan c g z d f s).state fanParts := by
  unfold serveSetFan
  refine need_keeps (fun _ => need_keeps (fun _ => need_keeps (fun _ => ?_)))
  split
  · exact .refl _ _
  · exact need_keeps (fun _ => need_keeps (fun _ => s.changeFanWhole_keeps _ _ _ _ _))

theorem serveRetireFan_keeps (s : State) (c : Cls) (g : Nat) :
    s.keepsBut (serveRetireFan c g s).state fanParts := by
  unfold serveRetireFan
  refine need_keeps (fun _ => need_keeps (fun _ => ?_))
  split
  · exact .refl _ _
  · exact need_keeps (fun _ => (s.removeFan_keeps _).seq (State.availabilityNotice_keeps _ _) (by simp)
      (by simp))

theorem serveReadSign_keeps (s : State) (g : Nat) : s.keepsBut (serveReadSign g s).state [] :=
  need_keeps (fun _ => need_keeps (fun _ => .refl _ _))

theorem serveDefineSign_keeps (s : State) (c : Cls) (g : Nat) (f : SignFields) :
    s.keepsBut (serveDefineSign c g f s).state [.signs] := by
  unfold serveDefineSign
  split
  · exact .refl _ _
  · exact need_keeps (fun _ => need_keeps (fun _ => need_keeps (fun _ => need_keeps (fun _ =>
      need_keeps (fun _ => need_keeps (fun _ => s.withSigns_keeps _))))))

theorem serveSetSign_keeps (s : State) (c : Cls) (g : Nat) (f : SignChange) :
    s.keepsBut (serveSetSign c g f s).state [.signs] := by
  unfold serveSetSign
  refine need_keeps (fun _ => need_keeps (fun _ => ?_))
  split
  · exact .refl _ _
  · refine need_keeps (fun _ => ?_)
    split
    · exact .refl _ _
    · exact need_keeps (fun _ => need_keeps (fun _ => s.withSigns_keeps _))

theorem serveRetireSign_keeps (s : State) (c : Cls) (g : Nat) :
    s.keepsBut (serveRetireSign c g s).state [.signs] :=
  need_keeps (fun _ => need_keeps (fun _ => need_keeps (fun _ => need_keeps (fun _ => s.withSigns_keeps _))))

theorem serveReadLight_keeps (s : State) (g : Nat) : s.keepsBut (serveReadLight g s).state [] :=
  need_keeps (fun _ => need_keeps (fun _ => .refl _ _))

theorem serveLightOverride_keeps (s : State) (c : Cls) (g : Nat) (l d : Option Nat) :
    s.keepsBut (serveLightOverride c g l d s).state [.lights] :=
  need_keeps (fun _ => need_keeps (fun _ => need_keeps (fun _ => s.withLights_keeps _)))

theorem serveDefineLight_keeps (s : State) (c : Cls) (g z n : Nat) (f : LightFields) :
    s.keepsBut (serveDefineLight c g z n f s).state [.lights] :=
  need_keeps (fun _ => need_keeps (fun _ => need_keeps (fun _ => need_keeps (fun _ => need_keeps (fun _ =>
    need_keeps (fun _ => s.withLights_keeps _))))))

theorem serveSetLight_keeps (s : State) (c : Cls) (g : Nat) (z n : Option Nat) (f : LightFields) :
    s.keepsBut (serveSetLight c g z n f s).state [.lights] := by
  unfold serveSetLight
  refine need_keeps (fun _ => need_keeps (fun _ => ?_))
  split
  · exact .refl _ _
  · exact need_keeps (fun _ => need_keeps (fun _ => need_keeps (fun _ => s.withLights_keeps _)))

theorem serveRetireLight_keeps (s : State) (c : Cls) (g : Nat) :
    s.keepsBut (serveRetireLight c g s).state [.lights] :=
  need_keeps (fun _ => need_keeps (fun _ => need_keeps (fun _ => need_keeps (fun _ => s.withLights_keeps _))))

theorem serveReadNode_keeps (s : State) (n : Nat) : s.keepsBut (serveReadNode n s).state [] :=
  need_keeps (fun _ => need_keeps (fun _ => .refl _ _))

/-- The node table and the four spans. -/
abbrev nodeParts : List Field := [.nodes, .span .span0, .span .span1, .span .span2, .span .span3]

theorem State.changeNodeSpan_keeps (s : State) (i : SpanId) (t : Table Node) (f : Span → Span) :
    s.keepsBut ((s.withNodes t).changeSpan i f) nodeParts :=
  (s.withNodes_keeps t).seq (State.changeSpan_keeps _ _ _) (by simp) (by cases i <;> simp)

theorem State.rezoneNode_keeps (s : State) (node : Nat) (n : Node) (z : Option Nat) :
    s.keepsBut (s.rezoneNode node n z) nodeParts := by
  unfold State.rezoneNode
  split
  · exact .refl _ _
  · split
    · exact s.changeNodeSpan_keeps _ _ _
    · exact (s.changeNode_keeps _ _).mono (by simp)

theorem serveDefineNode_keeps (s : State) (c : Cls) (n sp a k : Nat) (z : Option Nat) :
    s.keepsBut (serveDefineNode c n sp a k z s).state nodeParts := by
  unfold serveDefineNode
  split
  · refine need_keeps (fun _ => need_keeps (fun _ => ?_))
    unfold placeNode
    refine need_keeps (fun _ => ?_)
    split
    · exact need_keeps (fun _ => (s.withNodes_keeps _).mono (by simp))
    · exact need_keeps (fun _ => s.rezoneNode_keeps _ _ _)
  · exact .refl _ _

/-- R170, R157: retiring a node touches the node table and its span. -/
theorem State.retireNode_keeps (s : State) (node : Nat) (n : Node) : s.keepsBut (s.retireNode node n) nodeParts :=
  (s.changeNodeSpan_keeps _ _ _).trans ((State.closeRound_keeps _ _).mono (by cases n.span <;> simp))

theorem serveRetireNode_keeps (s : State) (c : Cls) (n : Nat) :
    s.keepsBut (serveRetireNode c n s).state nodeParts := by
  unfold serveRetireNode
  refine need_keeps (fun _ => need_keeps (fun _ => ?_))
  split
  · exact .refl _ _
  · exact need_keeps (fun _ => need_keeps (fun _ => s.retireNode_keeps _ _))

theorem serveSuspendNode_keeps (s : State) (c : Cls) (n : Nat) :
    s.keepsBut (serveSuspendNode c n s).state (nodeParts ++ allOwnerParts) := by
  unfold serveSuspendNode
  refine need_keeps (fun _ => need_keeps (fun _ => ?_))
  split
  · exact .refl _ _
  · simp only [serveOk_state]
    unfold State.suspend
    split
    · exact .refl _ _
    · split
      · exact (s.changeNode_keeps _ _).mono (by simp)
      · exact ((s.suspendNow_keeps _).mono (List.subset_append_right _ _)).trans
          ((State.closeRound_keeps _ _).mono (by rename_i r _ _ _; cases r.span <;> simp))

theorem serveResumeNode_keeps (s : State) (c : Cls) (n : Nat) :
    s.keepsBut (serveResumeNode c n s).state allOwnerParts := by
  unfold serveResumeNode
  refine need_keeps (fun _ => need_keeps (fun _ => ?_))
  split
  · exact .refl _ _
  · simp only [serveOk_state]
    unfold State.resume
    split
    · exact s.resumeNow_keeps _
    · exact (s.changeNode_keeps _ _).mono (by simp)

theorem serveReadStatus_keeps (s : State) (p : Port) :
    s.keepsBut (serveReadStatus p s).state [.freeCount] := by
  simp only [serveReadStatus, serveOk_state]
  split
  · exact .refl _ _
  · exact s.withFreeCount_keeps _

theorem serveSetPermit_keeps (s : State) (c : Cls) (k m : Nat) (z : ZoneSet) :
    s.keepsBut (serveSetPermit c k m z s).state [.facilityMap, .operatorMap] := by
  unfold serveSetPermit
  split
  · refine need_keeps (fun _ => ?_)
    intro f hf; cases f <;> first | rfl | simp at hf
  · refine need_keeps (fun _ => ?_)
    intro f hf; cases f <;> first | rfl | simp at hf
  · exact .refl _ _

theorem serveSetPart_keeps (s : State) (c : Cls) (f : PartFields) :
    s.keepsBut (serveSetPart c f s).state [.settings] :=
  need_keeps (fun _ => need_keeps (fun _ => s.withSettings_keeps _))

theorem serveReadAttention_keeps (s : State) (p : Port) (c : Option Nat) :
    s.keepsBut (serveReadAttention p c s).state [] :=
  need_keeps (fun _ => .refl _ _)

theorem serveClearAttention_keeps (s : State) (p : Port) (c o : Nat) :
    s.keepsBut (serveClearAttention p c o s).state [.items p] := by
  unfold serveClearAttention
  split
  · exact .refl _ _
  · refine need_keeps (fun _ => ?_)
    dsimp only
    split
    · exact .refl _ _
    · exact s.clearAtt_keeps _ _ _

theorem serveSetAttentionEnable_keeps (s : State) (p : Port) (m : Byte) :
    s.keepsBut (serveSetAttentionEnable p m s).state [.enables p, .items p] :=
  need_keeps (fun _ => s.withAtt_keeps _ _)

theorem serveRestart_keeps (s : State) (c : Cls) : s.keepsBut (serveRestart c s).state [] :=
  need_keeps (fun _ => .refl _ _)

end Sys2Proof.Machine
end

