-- ==== Sys2Proof/Laws/Bays.lean ====
section
/-! SUPPORT. What a bay change does: to the bay, to its zone's counts and to the signs (R2, R30, R31,
R39). -/

namespace Sys2Proof.Machine

/-- A record update that leaves all but the content and dirty flag of a sign (R122, R123). -/
theorem State.recomputed_only (s : State) (g : Sign) :
    s.recomputed g = { g with content := (s.recomputed g).content, dirty := (s.recomputed g).dirty } := by
  unfold State.recomputed
  dsimp only
  split <;> rfl

/-- Marking the signs of a zone reaches the signs that depend on it, and their content alone (R39). -/
theorem State.markSigns_get (s : State) (zone n : Nat) :
    Table.get (s.markSigns zone).signs n =
      (Table.get s.signs n).map (fun g => if g.config.dependsOn zone then s.recomputed g else g) := by
  simp [State.markSigns]

theorem State.recountsOnly.refl (s : State) (zone : Nat) : s.recountsOnly s zone :=
  ⟨fun _ _ => rfl, fun z hz => ⟨z, hz, rfl⟩, fun _ g hg => ⟨g, hg, rfl, fun _ => rfl⟩⟩

/-- An adjustment of a zone's counts changes nothing else (R30, R31). -/
theorem State.adjustZone_only (s : State) (zone : Nat) (f : Zone → Zone)
    (hf : ∀ z, f z = { z with tallies := (f z).tallies, total := (f z).total, free := (f z).free }) :
    s.recountsOnly (s.adjustZone zone f) zone := by
  unfold State.adjustZone
  split
  · exact .refl s zone
  · next z hz =>
    have key : ∀ z2 : Zone, z2 = { z with tallies := z2.tallies, total := z2.total, free := z2.free, fill := z2.fill } →
        s.recountsOnly (if z2.free = z.free ∧ z2.fill = z.fill
          then s.withZones (Table.set s.zones zone z2)
          else (s.withZones (Table.set s.zones zone z2)).markSigns zone) zone := by
      intro z2 h2
      have hzones : ∀ t : State, t.zones = Table.set s.zones zone z2 →
          (∀ k, k ≠ zone → Table.get t.zones k = Table.get s.zones k) ∧
          (∀ w, Table.get s.zones zone = some w → ∃ z', Table.get t.zones zone = some z' ∧
            z' = { w with tallies := z'.tallies, total := z'.total, free := z'.free, fill := z'.fill }) := by
        intro t ht
        refine ⟨fun k hk => by rw [ht, Table.get_set_ne _ _ hk], fun w hw => ⟨z2, by simp [ht], ?_⟩⟩
        rw [hz] at hw
        cases hw
        exact h2
      split
      · exact ⟨(hzones _ rfl).1, (hzones _ rfl).2, fun n g hg => ⟨g, hg, rfl, fun _ => rfl⟩⟩
      · refine ⟨(hzones _ rfl).1, (hzones _ rfl).2, fun n g hg => ?_⟩
        refine ⟨if g.config.dependsOn zone then
          (s.withZones (Table.set s.zones zone z2)).recomputed g else g,
          by rw [State.markSigns_get]; simp [hg], ?_, ?_⟩
        · split
          · exact State.recomputed_only _ g
          · rfl
        · intro h; simp [h]
    apply key
    have h1 := hf z
    split
    · rw [h1]
    · simp only [Zone.judged]; rw [h1]

/-- Counting a bay out and in changes a zone's counts alone. -/
theorem Zone.countOut_only (b : Bay) (z : Zone) :
    z.countOut b = { z with tallies := (z.countOut b).tallies, total := (z.countOut b).total
                            free := (z.countOut b).free } := rfl

theorem Zone.countIn_only (b : Bay) (z : Zone) :
    z.countIn b = { z with tallies := (z.countIn b).tallies, total := (z.countIn b).total
                           free := (z.countIn b).free } := rfl

/-- A bay change within one zone (R30). -/
theorem State.recount_same_only (s : State) (b b' : Bay) (h : b'.zone = b.zone) :
    s.recountsOnly (s.recount (some b) (some b')) b.zone := by
  simp only [State.recount, h, if_true]
  exact s.adjustZone_only _ _ (fun _ => rfl)

theorem State.recount_in_only (s : State) (b : Bay) :
    s.recountsOnly (s.recount none (some b)) b.zone :=
  s.adjustZone_only _ _ (fun _ => rfl)

theorem State.recount_out_only (s : State) (b : Bay) :
    s.recountsOnly (s.recount (some b) none) b.zone :=
  s.adjustZone_only _ _ (fun _ => rfl)

/-- Tables that are the same give the same recount. -/
theorem State.recountsOnly.congr {s s' t t' : State} {zone : Nat} (h : s.recountsOnly t zone)
    (hz : s'.zones = s.zones) (hg : s'.signs = s.signs) (hz' : t'.zones = t.zones)
    (hg' : t'.signs = t.signs) : s'.recountsOnly t' zone := by
  unfold State.recountsOnly
  rw [hz, hg, hz', hg']
  exact h

theorem State.watched_bays (s : State) (bay : Nat) (old b : Bay) : (s.watched bay old b).bays = s.bays := by
  unfold State.watched; split <;> rfl

theorem State.watched_keeps (s : State) (bay : Nat) (old b : Bay) :
    s.keepsBut (s.watched bay old b) bothItems := by
  unfold State.watched
  split
  · exact s.raise_keeps _ _ _
  · exact .refl _ _

/-- R2: everything a bay change can do. The bay takes its new values and, on a new state, the current
second; the other bays stand; the counts follow; WATCH raises its item; nothing else changes. -/
theorem State.putBay_spec {s : State} {bay : Nat} {old : Bay} (h : Table.get s.bays bay = some old) (b : Bay) :
    Table.get (s.putBay bay b).bays bay = some (Bay.stamped s.seconds old b) ∧
    (∀ n, n ≠ bay → Table.get (s.putBay bay b).bays n = Table.get s.bays n) ∧
    (b.zone = old.zone → s.recountsOnly (s.putBay bay b) old.zone) ∧
    (s.watched bay old b).keepsBut (s.putBay bay b) [.bays, .zones, .signs] := by
  unfold State.putBay
  simp only [h]
  split
  · next e =>
    subst e
    refine ⟨by simp [h, Bay.stamped], fun _ _ => rfl, fun _ => .refl s _, ?_⟩
    simp only [State.watched, ne_eq, not_true_eq_false, false_and, if_false]
    exact .refl _ _
  · next hne =>
    have hz : (Bay.stamped s.seconds old b).zone = b.zone := by unfold Bay.stamped; split <;> rfl
    have hbays : ((s.withBays (Table.set s.bays bay (Bay.stamped s.seconds old b))).recount (some old)
        (some (Bay.stamped s.seconds old b))).bays = Table.set s.bays bay (Bay.stamped s.seconds old b) :=
      (State.recount_keeps _ _ _) .bays (by simp)
    have hall : ∀ t : State, t.bays = Table.set s.bays bay (Bay.stamped s.seconds old b) →
        Table.get t.bays bay = some (Bay.stamped s.seconds old b) ∧
        ∀ n, n ≠ bay → Table.get t.bays n = Table.get s.bays n := by
      intro t ht
      rw [ht]
      exact ⟨Table.get_set _ _ _, fun n hn => Table.get_set_ne _ _ hn⟩
    have honly : b.zone = old.zone → s.recountsOnly
        ((s.withBays (Table.set s.bays bay (Bay.stamped s.seconds old b))).recount (some old)
        (some (Bay.stamped s.seconds old b))) old.zone := by
      intro e
      exact (State.recount_same_only (s.withBays (Table.set s.bays bay (Bay.stamped s.seconds old b))) old
        (Bay.stamped s.seconds old b) (hz.trans e)).congr rfl rfl rfl rfl
    have hkeep := (s.withBays_keeps (Table.set s.bays bay (Bay.stamped s.seconds old b))).seq
      (State.recount_keeps _ (some old) (some (Bay.stamped s.seconds old b)))
      (n := [.bays, .zones, .signs]) (by simp) (by simp)
    unfold State.watched
    split
    · refine ⟨(hall _ hbays).1, (hall _ hbays).2, fun e => (honly e).congr rfl rfl rfl rfl, ?_⟩
      intro f hf
      cases f with
      | link p => simp only [Field.same, State.raise_port]; rw [hkeep.port (p := p) (by simp)]
      | places p => simp only [Field.same, State.raise_port]; rw [hkeep.port (p := p) (by simp)]
      | enables p => simp only [Field.same, State.raise_port]; rw [hkeep.port (p := p) (by simp)]
      | items p =>
        simp only [Field.same, State.raise_port]; rw [hkeep.port (p := p) (by simp)]
      | span i => exact hkeep (.span i) hf
      | bays => simp at hf
      | zones => simp at hf
      | signs => simp at hf
      | _ => exact hkeep _ hf
    · exact ⟨(hall _ hbays).1, (hall _ hbays).2, honly, hkeep⟩

end Sys2Proof.Machine
end

