-- ==== Sys2Proof/Tests/Slice0.lean ====
section
/-! SUPPORT. Small checks of the model: the spec's own worked examples, the ill-formed commands that the
well-formedness check refuses, and for every statement with hypotheses a state and operands that meet them,
at the boundaries of their ranges. -/

namespace Sys2Proof.Tests

open Sys2Proof Sys2Proof.Machine

/-! ### Helpers -/

def svc : Head := { port := .main, cls := 3, tag := 1, key := true }
def opr : Head := { port := .panel, cls := 2, tag := 2, key := false }
def fac : Head := { port := .main, cls := 1, tag := 3, key := false }

def zf : ZoneFields :=
  { fullAt := none, hysteresis := none, coWeight := none, no2Weight := none, coStart := none, coFull := none
    no2Start := none, no2Full := none, coWarn := none, coAlarm := none, coHyst := none, no2Warn := none
    no2Alarm := none, no2Hyst := none, alarmConfirm := none, clearConfirm := none, blindLimit := none
    blindDemand := none, arrivalCredit := none, departureCredit := none, decay := none, minDemand := none }
def ff : FanFields := { vmin := none, su := none, sd := none, minRun := none, fireIn := none, fireOut := none }
def lf : LightFields := { economy := none, active := none, hold := none, rampRate := none }
def pf : PartFields :=
  { airPeriod := none, fanPeriod := none, startInterval := none, arrivalConfirm := none, departureConfirm := none
    proofTime := none, missLimit := none, limit0 := none, limit1 := none, limit2 := none, limit3 := none
    revisit := none }
def sf : SignFields :=
  { node := 7, kind := 2, countZones := 1, countKinds := 15, fullAt := 99, termA := 1, termB := 1
    out0 := 0, out1 := 7, out2 := 1, out3 := 2 }
def sc : SignChange :=
  { node := none, kind := none, countZones := none, termA := none, termB := none, countKinds := none
    fullAt := none, out0 := none, out1 := none, out2 := none, out3 := none }

def noMarks : Marks := { hold := false, watch := false, noCount := false, lampTest := false }
def aBay : Bay :=
  { zone := 31, node := 0, channel := 15, kind := .general, marks := noMarks, state := .free, confirm := 0
    reservation := none, since := 0 }
def open0 : Causes := { operator := false, fume := false, air := false, fire := false }
def aZone : Zone :=
  { level := 8
    tallies := { unknown := 0, free := 0, reserved := 0, arriving := 0, occupied := 0, leaving := 0 }
    total := 0, free := { general := 0, family := 0, accessible := 0, charger := 0 }, fill := .full
    causes := open0, settings := ZoneSettings.default, air := AirState.start 10 }
def aFan : Fan :=
  { served := 0x80000000, drives := [{ node := 3, report := none }], settings := FanSettings.default
    state := .stopped, target := 0, commanded := 0, stack := [], grantedAt := none, proof := none
    degraded := false, faultCause := none }
def aSignDef : SignDef :=
  { node := 4, kind := .both, countZones := 0x80000000
    countKinds := { general := true, family := true, accessible := true, charger := true }, fullAt := 0
    termA := 0x80000000, termB := 0x80000000, out0 := .dark, out1 := .left, out2 := .right, out3 := .up }
def aSign : Sign :=
  { config := aSignDef, content := Content.blank, accepted := none, sent := none, dirty := true
    unseen := false, displayFault := none }
def aLight : Light :=
  { zone := 31, node := 2, settings := LightSettings.default, state := .active, policy := 80, holdExpiry := none
    nextRamp := none, ovr := none, level := 80, applied := none, failedLamps := none, unseen := false }
def noHead : GasHead := { coPeak := none, no2Peak := none, status := .unreported }
def aNode (i : SpanId) (address : Nat) (k : NodeKind) (zone : Option Nat) : Node :=
  { span := i, address := address, kind := k, zone := zone, liveness := .live, missCount := 0, lastError := none
    roundsPassed := 0, due := false, suspendPending := false, head := noHead }

/-- One record of every kind, at the top numbers of its table. -/
def site : State := { State.reset with
  bays := [(2047, aBay)]
  zones := [(0, aZone), (31, { aZone with
    tallies := { aZone.tallies with free := 1 }, total := 1, free := { aZone.free with general := 1 } })]
  fans := [(23, aFan)], signs := [(63, aSign)], lights := [(47, aLight)]
  nodes := [(0, aNode .span3 126 .sensor (some 31)), (1, aNode .span0 1 .gas (some 31)),
    (2, aNode .span0 2 .dimmer none), (3, aNode .span1 1 .fan none), (4, aNode .span1 126 .sign none),
    (5, aNode .span2 1 .fan none), (6, aNode .span2 2 .dimmer none), (7, aNode .span2 3 .sign none),
    (255, aNode .span3 1 .sensor none)]
  operatorMap := 0x80000000 }

def siteBay (b : Bay) : State := { site with bays := [(2047, b)] }
def siteZone (z : Zone) : State := { site with zones := [(0, aZone), (31, z)] }
def siteFan (g : Fan) : State := { site with fans := [(23, g)] }
def siteLight (l : Light) : State := { site with lights := [(47, l)] }
def siteNode (n : Node) : State := { site with nodes := Table.set site.nodes 255 n }
/-- Fire mode is active, the latched zone 31. -/
def burning : State := { site with fire := { site.fire with line := true, taken := true, zone := some 31 } }

/-- A condition on the state a command leaves. -/
def after (o : Host.Outcome State Fault Refusal) (p : State → Bool) : Bool :=
  match o with
  | .next t => p t
  | .fault _ => false
  | .refused _ => false

/-- The result and payload of the reply standing in a port's service place. -/
def replied (t : State) (p : Port) : Option (Result × List Byte) :=
  (t.port p).service.map (fun v => (v.reply.result, v.reply.payload))
def resultAt (t : State) (p : Port) : Option Result := (replied t p).map (fun r => r.1)

/-! ### The sample state is an ordinary one -/

theorem test_svc_accepted : site.accepts svc .service := ⟨rfl, rfl⟩
theorem test_opr_accepted : site.accepts opr .operator := ⟨rfl, rfl⟩
theorem test_fac_accepted : site.accepts fac .facility := ⟨rfl, rfl⟩
theorem test_site_tables : site.tablesSound := by unfold State.tablesSound; decide
theorem test_burning_tables : burning.tablesSound := by unfold State.tablesSound; decide
theorem test_site_places : site.placesSound := by unfold State.placesSound; decide

/-! ### Worked examples of the spec -/

def peak (n : Nat) : Option Peak := some { value := n, overRange := false }

/-- The rounding cases under R56. -/
theorem test_rounding : updateAvg 2 (peak 62) (some 991) = some 992 ∧ updateAvg 2 (peak 62) (some 993) = some 992 ∧
    updateAvg 2 (peak 37) (some 599) = some 598 ∧ updateAvg 2 (peak 36) (some 600) = some 594 ∧
    updateAvg 0 (peak 40) (some 1000) = some 640 ∧ updateAvg 5 (peak 999) (some 0) = some 499 ∧
    updateAvg 2 (peak 45) none = some 720 := by decide

/-- The worked computation of 3.12: averages 608 and 132, gas demand 17, traffic demand 46, credit 38. -/
theorem test_evaluation_of_zone_5 :
    let a := (evaluateAir { ZoneSettings.default with
        co := { weight := 2, start := 25, full := 100, warn := 60, alarm := 120, hyst := 10 }
        no2 := { weight := 2, start := 10, full := 50, warn := 30, alarm := 50, hyst := 5 }, minDemand := 10 }
      true (peak 62) (peak 9)
      { AirState.start 10 with coAvg := some 480, no2Avg := some 128, credit := 46 }).air
    a.coAvg = some 608 ∧ a.no2Avg = some 132 ∧ a.gasDemand = 17 ∧ a.trafficDemand = 46 ∧ a.credit = 38 ∧
      a.fume = .clear ∧ a.zoneDemand = 46 := by decide

/-- Evaluations 4 and 8 of 3.13: into FUME at the second alarm count, out of it at the third clear count
without a sample, and the demand of the same evaluation is 93 again. -/
theorem test_fume_entered_and_left :
    let st := fieldsApplied { zf with
      coWeight := some 1, no2Weight := some 1, alarmConfirm := some 2, clearConfirm := some 3 } ZoneSettings.default
    let a := (evaluateAir st true (peak 140) (peak 5) { AirState.start 10 with
      coAvg := some 2030, no2Avg := some 80, fume := .warning, alarmCount := 1 }).air
    let b := (evaluateAir st true none none { AirState.start 10 with
      coAvg := some 1527, no2Avg := some 80, fume := .fume, clearCount := 2 }).air
    (a.coAvg = some 2135 ∧ a.fume = .fume ∧ a.alarmCount = 0 ∧ a.zoneDemand = 100) ∧
      (b.coAvg = some 1527 ∧ b.fume = .warning ∧ b.gasDemand = 93 ∧ b.zoneDemand = 93) := by decide

/-- Evaluation 3 of 3.14: the third evaluation without sample makes the zone BLIND at demand 50. -/
theorem test_zone_goes_blind :
    let r := evaluateAir (fieldsApplied { zf with blindLimit := some 3, blindDemand := some 50 } ZoneSettings.default)
      true none none { AirState.start 10 with coAvg := some 640, no2Avg := some 320, blindCount := 2 }
    r.toBlind = true ∧ r.air.blind = true ∧ r.air.blindCount = 3 ∧ r.air.zoneDemand = 50 := by decide

/-- The example of R23: from 2040 by 4 the walk visits 2040 and 2044. -/
theorem test_walk_up_ends : walk true 4 32 2040 = [2040, 2044] := by decide

/-- Steps 3, 4, 10 and 11 of 2.10: full-at 3 and hysteresis 4. -/
theorem test_fill_sequence : judgeFill .hasRoom 3 3 4 = .full ∧ judgeFill .full 4 3 4 = .full ∧
    judgeFill .full 6 3 4 = .full ∧ judgeFill .full 7 3 4 = .hasRoom := by decide

def watched : Marks := { noMarks with watch := true, noCount := true }

/-- The examples of masking under R13 for REPLACE by OPERATOR and CLEAR by SERVICE. -/
theorem test_masking : after (exec (.changeBay opr 2047 0 1) (siteBay { aBay with marks := watched }))
    (fun t => decide ((Table.get t.bays 2047).map (fun b => b.marks) =
      some { noMarks with hold := true, noCount := true } ∧ resultAt t .panel = some .okMasked)) = true ∧
    after (exec (.changeBay svc 2047 2 4) (siteBay { aBay with marks := watched }))
    (fun t => decide ((Table.get t.bays 2047).map (fun b => b.marks) = some { noMarks with watch := true } ∧
      resultAt t .main = some .ok)) = true := by decide

/-- The examples of lamp codes under R148, zone open and closed. -/
theorem test_lamps : lampOf aBay false = .greenSteady ∧ lampOf aBay true = .amberFlashing ∧
    lampOf { aBay with kind := .charger } false = .greenFlashing ∧
    lampOf { aBay with kind := .accessible, state := .occupied } true = .redSteady ∧
    lampOf { aBay with state := .reserved } false = .whiteSteady ∧
    lampOf { aBay with marks := { noMarks with hold := true } } true = .amberSteady ∧
    lampOf { aBay with state := .unknown, marks := { noMarks with lampTest := true } } false = .whiteFlashing := by
  decide

def shown (n : Nat) : SignWord × Option Nat × Option Nat × Option Nat :=
  let c := (siteZone { aZone with free := { aZone.free with general := n } }).contentOf { aSignDef with fullAt := 4 }
  (c.word, c.hundreds, c.tens, c.units)

/-- The table under R120, full-at 4. -/
theorem test_digits : [0, 4, 5, 40, 305, 999, 1210].map shown =
    [(.full, none, none, none), (.full, none, none, none), (.dark, none, none, some 5),
     (.dark, none, some 4, some 0), (.dark, some 3, some 0, some 5), (.dark, some 9, some 9, some 9),
     (.dark, some 9, some 9, some 9)] := by decide

def stacked (l : List Entry) : State := siteFan { aFan with stack := l }
def entry (c : Cls) (level : Nat) : Entry := { cls := c, level := level, expiry := none, tag := 0 }

/-- Seconds 3120, 3130 and 3300 of 4.11: OUTRANKED comes before STACK_FULL, and a FIRE entry is not popped. -/
theorem test_stack_refusals :
    let full := [entry .facility 40, entry .operator 70, entry .service 20, entry .service 50]
    after (exec (.pushOverride opr 23 60 none 0) (stacked full))
      (fun t => decide (resultAt t .panel = some .outranked)) = true ∧
    after (exec (.pushOverride svc 23 60 none 0) (stacked full))
      (fun t => decide (resultAt t .main = some .stackFull)) = true ∧
    after (exec (.popOverride svc 23) (stacked [entry .service 50, entry .fire 100]))
      (fun t => decide (resultAt t .main = some .outranked)) = true := by decide

/-- The placement of groups 2 and 4 in 5.9: a full stack loses its bottom entry and the first FIRE waiter goes
ahead. -/
theorem test_fire_entry_displaces :
    let g := { aFan with
      state := .waiting
      stack := [entry .facility 30, entry .operator 45, entry .service 70, entry .service 10]
      settings := { FanSettings.default with fireOut := 50 } }
    after (exec .fireFilterDue { siteFan g with
        queue := [4, 23], fire := { site.fire with line := true, change := some 200, codes := 3 } })
      (fun t => decide ((Table.get t.fans 23).map (fun g => (g.stack, g.target)) =
          some ([entry .operator 45, entry .service 70, entry .service 10, entry .fire 50], 50) ∧
        t.queue = [23, 4] ∧ Table.get t.main.att.fan 23 = some .displaced ∧ t.fire.zone = some 3)) = true := by
  decide

/-- 1010 to 1015 in 4.10: commanded closes the last step of 1; 5.9 at 7035: it falls by Sd. -/
theorem test_fan_step_moves :
    let g := { aFan with state := .running, commanded := 45, stack := [entry .service 46] }
    (Table.get ((siteFan g).stepGroup 23).fans 23).map (fun g => g.commanded) = some 46 ∧
    (Table.get ((siteFan { g with commanded := 60, stack := [entry .service 40] }).stepGroup 23).fans 23).map
      (fun g => g.commanded) = some 55 := by decide

/-- 1039 in 4.10: the unproven start of a group ends in FAULT with START_FAIL. -/
theorem test_start_fails : after (exec (.proofTimerExpiry 23) { siteFan { aFan with
      state := .running, commanded := 55, proof := some { expiry := 1039, proven := false } } with seconds := 1039 })
    (fun t => decide ((Table.get t.fans 23).map (fun g => (g.state, g.commanded, g.faultCause)) =
      some (.fault, 0, some .startFail) ∧ Table.get t.panel.att.fan 23 = some .fault ∧
      Table.get t.main.att.air 31 = some .airLost)) = true := by decide

/-- 5420 and 5735 in 7.10: hold expiry begins the ramp, and the ramp ends in ECONOMY. -/
theorem test_hold_and_ramp :
    let st := { LightSettings.default with rampRate := 7 }
    after (exec (.holdExpiry 47) { siteLight { aLight with settings := st, holdExpiry := some 5420 } with seconds := 5420 })
      (fun t => decide ((Table.get t.lights 47).map (fun l => (l.state, l.policy, l.level)) =
        some (.ramping, 80, 80))) = true ∧
    after (exec (.rampStep 47) { siteLight { aLight with
        settings := st, state := .ramping, policy := 24, nextRamp := some 5735
        ovr := some { level := 40, expiry := some 6200 }, level := 40 } with seconds := 5735 })
      (fun t => decide ((Table.get t.lights 47).map (fun l => (l.state, l.policy, l.level)) =
        some (.economy, 20, 40))) = true := by decide

/-- 7000 s 000 ms, 7000 s 120 ms and 7030 s in 5.9: a rise is due 200 ms later, a fall 2,000 ms later, and an
edge back cancels. -/
theorem test_fire_filter : (after (exec (.fireLineEdge true) { site with ms := 7000000 })
      (fun t => decide (t.fire.change = some 7000200))) = true ∧
    (after (exec (.fireLineEdge true) { burning with fire := { burning.fire with line := false, change := some 9 } })
      (fun t => decide (t.fire.change = none))) = true ∧
    (after (exec (.fireLineEdge false) { burning with ms := 7030000 })
      (fun t => decide (t.fire.change = some 7032000))) = true := by decide

def aVisit : Visit :=
  { node := 255, address := 1, kind := .sensor, call := [], answer := [], waitFrom := 10, limit := 8
    lastByte := 10, fate := .counted, rebound := false }

/-- A visit to node 255 in flight on span 3, its answer as far as received. -/
def visiting (n : Node) (bytes : List Byte) : State := { siteNode n with
  span3 := { Span.reset with inRound := true, visit := some { aVisit with answer := bytes } } }

/-- Round 43 of 8.9: the third miss in a row silences a node. -/
theorem test_third_miss_silences : after (exec (.answerLimitExpiry .span3)
      (visiting { aNode .span3 1 .sensor none with missCount := 2 } []))
    (fun t => decide ((Table.get t.nodes 255).map (fun n => (n.liveness, n.missCount, n.lastError)) =
      some (.silent, 3, some .noAnswer) ∧ Table.get t.main.att.node 255 = some .silent ∧ t.ms = 18)) = true := by decide

/-- R163: the line of a span that has been silent since reset becomes STUCK once busy for 20 ms, the first
retry 1,000 ms later. -/
theorem test_stuck_after_20_ms : after (exec (.spanStuck .span2) site) (fun t => decide (t.ms = 20 ∧
    t.span2.stuck = some { since := 20, retry := 1020, silenced := false } ∧
    Table.get t.main.att.node 258 = some .stuck)) = true := by decide

/-- R163, R155: a byte more than 1 ms after the last one is no idle line: a SPAN_STUCK at 30 ms is not put off. -/
theorem test_bytes_are_no_break : after (exec (.spanByteReceived .span2 0 true) { site with ms := 30 }) (fun u =>
    after (exec (.spanStuck .span2) u) (fun t => decide (t.ms = 30 ∧
      t.span2.stuck = some { since := 30, retry := 1030, silenced := false }))) = true := by decide

/-- R157, R166: the last node left in a round is suspended between two visits: the round is over. -/
theorem test_round_ends_with_its_last_node :
    (let s := { site with span3 := { Span.reset with inRound := true, position := some 1 } }
     after (exec (.suspendNode svc 0) s) (fun t => decide (t.span3 = Span.reset)) = true ∧
     after (exec (.suspendNode svc 255) s) (fun t => decide (t.span3 = s.span3)) = true) := by decide

/-- R192: the millisecond that completes a second advances the seconds count. -/
theorem test_second_counted : after (step { site with ms := 1999, secondAt := 1000, seconds := 0xffffffff })
    (fun t => decide (t.ms = 2000 ∧ t.seconds = 0 ∧ t.secondAt = 2000)) = true := by decide

/-- R195, R196: the frame of READ_ZONE 31 of class SERVICE and tag 7, its check byte making the bytes from the
length on sum to 0; it is complete and good at its last byte. -/
theorem test_frame : requestFrame 3 7 (.readZone 31) = [5, 3, 9, 7, 31, 201] ∧
    judgeFrame [5, 3, 9, 7, 31, 201] = .good 3 9 7 [31] := by decide

/-- Frame E of 9.8: a bad check byte with tag 25 is answered BAD_FRAME. -/
theorem test_bad_frame : after (exec (.badFrameAnswer .main 25) site)
    (fun t => decide (t.main.service.map (fun v => v.reply) =
      some { tag := 25, result := .badFrame, payload := [] })) = true := by decide

/-- Frame D of 9.8: SERVICE with the key deasserted is answered CLASS. -/
theorem test_class_refused : after (exec (.setPart { svc with key := false } pf) site)
    (fun t => decide (resultAt t .main = some .classRefused)) = true := by decide

/-- Frames A and C of 9.8: a third frame while both places are occupied raises OVERRUN in both sets. -/
theorem test_overrun : after (exec (.readBays fac 0 1 0 1) { site with main := { site.main with
      service := some { item := .badFrame 1, reply := { tag := 1, result := .badFrame, payload := [] } }
      waiting := some (.badFrame 2) } })
    (fun t => decide (Table.get t.panel.att.link 0 = some .overrun ∧ t.main.waiting = some (.badFrame 2))) = true := by
  decide

/-- R183, R193: the defaults after a full reset, and the straps as R173 reads them. -/
theorem test_reset_values : State.reset.settings.airPeriod = 10 ∧ State.reset.airNext = 10 ∧
    State.reset.fanNext = 5 ∧ (State.fresh { pinsLow with rate1 := true } []).rate = 2 := by decide

/-- Log 32: no word spells a command. -/
theorem test_no_word : Sys2Proof.decodeTableWord 8 0 = none ∧ site.withFetchWord 8 0 = site := ⟨rfl, rfl⟩

/-! ### Ill-formed commands are refused, one for each check -/

theorem test_wf_zonefields : zf.wf = true ∧ ([
    { zf with fullAt := some 256 }, { zf with hysteresis := some 256 }, { zf with coWeight := some 256 },
    { zf with no2Weight := some 256 }, { zf with coStart := some 65536 }, { zf with coFull := some 65536 },
    { zf with no2Start := some 256 }, { zf with no2Full := some 256 }, { zf with coWarn := some 65536 },
    { zf with coAlarm := some 65536 }, { zf with coHyst := some 65536 }, { zf with no2Warn := some 256 },
    { zf with no2Alarm := some 256 }, { zf with no2Hyst := some 256 }, { zf with alarmConfirm := some 256 },
    { zf with clearConfirm := some 256 }, { zf with blindLimit := some 256 },
    { zf with blindDemand := some 256 }, { zf with arrivalCredit := some 256 },
    { zf with departureCredit := some 256 }, { zf with decay := some 256 }, { zf with minDemand := some 256 }] : List ZoneFields).all (fun f => !f.wf) = true := by decide

theorem test_wf_fanfields : ff.wf = true ∧ ([
    { ff with vmin := some 256 }, { ff with su := some 256 }, { ff with sd := some 256 },
    { ff with minRun := some 65536 }, { ff with fireIn := some 256 }, { ff with fireOut := some 256 }] : List FanFields).all (fun f => !f.wf) = true := by decide

theorem test_wf_signfields : sf.wf = true ∧ ([
    { sf with node := 256 }, { sf with kind := 256 }, { sf with fullAt := 256 }, { sf with out0 := 256 },
    { sf with out1 := 256 }, { sf with out2 := 256 }, { sf with out3 := 256 }] : List SignFields).all (fun f => !f.wf) = true := by decide

theorem test_wf_signchange : sc.wf = true ∧ ([
    { sc with node := some 256 }, { sc with kind := some 256 }, { sc with fullAt := some 256 },
    { sc with out0 := some 256 }, { sc with out1 := some 256 }, { sc with out2 := some 256 },
    { sc with out3 := some 256 }] : List SignChange).all (fun f => !f.wf) = true := by decide

theorem test_wf_lightfields : lf.wf = true ∧ ([
    { lf with economy := some 256 }, { lf with active := some 256 }, { lf with hold := some 65536 },
    { lf with rampRate := some 256 }] : List LightFields).all (fun f => !f.wf) = true := by decide

theorem test_wf_partfields : pf.wf = true ∧ ([
    { pf with airPeriod := some 256 }, { pf with fanPeriod := some 256 },
    { pf with startInterval := some 256 }, { pf with arrivalConfirm := some 256 },
    { pf with departureConfirm := some 256 }, { pf with proofTime := some 256 },
    { pf with missLimit := some 256 }, { pf with limit0 := some 256 }, { pf with limit1 := some 256 },
    { pf with limit2 := some 256 }, { pf with limit3 := some 256 }, { pf with revisit := some 256 }] : List PartFields).all (fun f => !f.wf) = true := by decide

theorem test_wf_commands_a : ([
    .readBays svc 65536 0 0 0, .readBays svc 0 256 0 0, .readBays svc 0 0 256 0, .readBays svc 0 0 0 256,
    .findBays svc 256 0 0 0 0, .findBays svc 0 0 0 65536 0, .findBays svc 0 0 0 0 256,
    .changeBay svc 65536 0 0, .changeBay svc 0 256 0, .reserveBay svc 65536 0 0, .reserveBay svc 0 65536 0,
    .reserveBay svc 0 0 256, .releaseBay svc 65536 0, .releaseBay svc 0 65536, .defineBay svc 65536 0 0 0 0,
    .defineBay svc 0 256 0 0 0, .defineBay svc 0 0 256 0 0, .defineBay svc 0 0 0 256 0,
    .defineBay svc 0 0 0 0 256, .redefineBay svc 65536 0 0 0 0, .redefineBay svc 0 256 0 0 0,
    .redefineBay svc 0 0 256 0 0, .redefineBay svc 0 0 0 256 0, .redefineBay svc 0 0 0 0 256,
    .retireBay svc 65536, .readZone svc 256, .closeZone svc 256, .openZone svc 256, .defineZone svc 256 0 zf,
    .defineZone svc 0 256 zf, .defineZone svc 0 0 { zf with fullAt := some 256 }, .setZone svc 256 none zf,
    .setZone svc 0 (some 256) zf, .setZone svc 0 none { zf with fullAt := some 256 }, .retireZone svc 256,
    .readFan svc 256, .pushOverride svc 256 0 none 0, .pushOverride svc 0 256 none 0,
    .pushOverride svc 0 0 (some 4294967296) 0, .pushOverride svc 0 0 none 256] : List Instr).all (fun c => !c.wf) = true := by decide

theorem test_wf_commands_b : ([
    .popOverride svc 256, .defineFan svc 256 0 [] ff, .defineFan svc 0 0 [] { ff with vmin := some 256 },
    .defineFan svc 0 0 [256] ff, .setFan svc 256 none none ff,
    .setFan svc 0 none none { ff with vmin := some 256 }, .setFan svc 0 none (some [256]) ff,
    .retireFan svc 256, .readSign svc 256, .defineSign svc 256 sf, .defineSign svc 0 { sf with node := 256 },
    .setSign svc 256 sc, .setSign svc 0 { sc with node := some 256 }, .retireSign svc 256, .readLight svc 256,
    .lightOverride svc 256 none none, .lightOverride svc 0 (some 256) none,
    .lightOverride svc 0 none (some 4294967296), .defineLight svc 256 0 0 lf, .defineLight svc 0 256 0 lf,
    .defineLight svc 0 0 256 lf, .defineLight svc 0 0 0 { lf with economy := some 256 },
    .setLight svc 256 none none lf, .setLight svc 0 (some 256) none lf, .setLight svc 0 none (some 256) lf,
    .setLight svc 0 none none { lf with economy := some 256 }, .retireLight svc 256, .readNode svc 256,
    .defineNode svc 256 0 0 0 none, .defineNode svc 0 256 0 0 none, .defineNode svc 0 0 256 0 none,
    .defineNode svc 0 0 0 256 none, .defineNode svc 0 0 0 0 (some 256), .retireNode svc 256,
    .suspendNode svc 256, .resumeNode svc 256, .setPermit svc 256 0 0, .setPermit svc 0 256 0,
    .setPart svc { pf with airPeriod := some 256 }, .readAttention svc (some 256)] : List Instr).all (fun c => !c.wf) = true := by decide

theorem test_wf_commands_c : ([
    .clearAttention svc 256 0, .clearAttention svc 0 65536, .proofTimerExpiry 24, .overrideExpiry 24,
    .reservationExpiry 2048, .holdExpiry 48, .rampStep 48, .lightOverrideExpiry 48, .unknownRequest svc 256 [],
    .unknownRequest svc 42 []] : List Instr).all (fun c => !c.wf) = true := by decide

theorem test_wf_long_lists (n : Nat) (h : 255 < n) : (Instr.defineFan svc 0 0 (List.replicate n 0) ff).wf = false ∧
    (Instr.setFan svc 0 none (some (List.replicate n 0)) ff).wf = false ∧
    (Instr.unknownRequest svc 43 (List.replicate n 0)).wf = false := by
  have h1 : ¬n < 256 := by omega
  have h2 : ¬n ≤ 240 := by omega
  simp [Instr.wf, listFits, h1, h2]

/-- Every command has a well-formed term. -/
theorem test_wf_accepts : ([
    .readBays svc 0 0 0 0, .findBays svc 0 0 0 0 0, .changeBay svc 0 0 0, .reserveBay svc 0 0 0,
    .releaseBay svc 0 0, .defineBay svc 0 0 0 0 0, .redefineBay svc 0 0 0 0 0, .retireBay svc 0,
    .readZone svc 0, .closeZone svc 0, .openZone svc 0, .defineZone svc 0 0 zf, .setZone svc 0 none zf,
    .retireZone svc 0, .readFan svc 0, .pushOverride svc 0 0 none 0, .popOverride svc 0,
    .fanControlIsolate svc 0, .fanControlRestore svc 0, .fanControlClearFault svc 0, .defineFan svc 0 0 [] ff,
    .setFan svc 0 none none ff, .retireFan svc 0, .readSign svc 0, .defineSign svc 0 sf, .setSign svc 0 sc,
    .retireSign svc 0, .readLight svc 0, .lightOverride svc 0 none none, .defineLight svc 0 0 0 lf,
    .setLight svc 0 none none lf, .retireLight svc 0, .readNode svc 0, .defineNode svc 0 0 0 0 none,
    .retireNode svc 0, .suspendNode svc 0, .resumeNode svc 0, .readStatus svc, .setPermit svc 0 0 0,
    .setPart svc pf, .readAttention svc none, .clearAttention svc 0 0, .setAttentionEnable svc 0, .restart svc,
    .badFrameAnswer .main 0, .linkByteReceived .main 0 true true, .frameGapTimeout .main, .drainingEnd .main,
    .replySent .main true, .fullReset pinsLow, .secondsCountAdvance, .fireLineEdge true, .fireFilterDue,
    .fireZoneCodeChange 0, .pendingZoneDue, .airEvaluationExpiry, .fanStep, .startSlotExpiry,
    .proofTimerExpiry 0, .overrideExpiry 0, .reservationExpiry 0, .holdExpiry 0, .rampStep 0,
    .lightOverrideExpiry 0, .roundStart .span0, .visitStart .span0, .spanByteReceived .span0 0 true,
    .answerLimitExpiry .span0, .answerGapTimeout .span0, .spanStuck .span0, .stuckSilencing .span0,
    .stuckRetry .span0 true, .unknownRequest svc 43 []] : List Instr).all Instr.wf = true := by decide

/-! ### States and operands that meet the hypotheses of the statements -/

theorem witness_BaysAreRead : site.accepts svc .service ∧ site.tablesSound ∧
    (1 ≤ 1 ∧ 1 ≤ 32 ∧ 32 ≤ 32 ∧ 16 ≤ 16 ∧ 2047 ≤ 2047) ∧ Table.has site.zones 31 = true ∧
    (15#8).toNat < 16 ∧ (63#8).toNat < 64 ∧ (65535 ≤ 2047 ∨ 65535 = 65535) :=
  ⟨test_svc_accepted, test_site_tables, by decide⟩

theorem witness_ChangeBayMarks : site.accepts opr .operator ∧ 2047 ≤ 2047 ∧ Mode.ofCode 2 = some .remove ∧
    Marks.ofMask 15 = some { hold := true, watch := true, noCount := true, lampTest := true } ∧
    Table.get site.bays 2047 = some aBay ∧ site.permits .operator (zoneSingle aBay.zone) = true :=
  ⟨test_opr_accepted, by decide⟩

def heldBay : Bay := { aBay with state := .reserved, reservation := some { tag := 65535, expiry := 0 } }

theorem witness_ReserveAndReleaseBay : site.accepts svc .service ∧ site.accepts opr .operator ∧
    (Table.get site.bays 2047 = some aBay ∧ aBay.state = .free ∧ aBay.marks.hold = false ∧ aBay.reservation = none) ∧
    site.permits .operator (zoneSingle 31) = true ∧
    (Table.get (siteBay { aBay with marks := { noMarks with hold := true } }).bays 2047 =
      some { aBay with marks := { noMarks with hold := true } }) ∧
    (Table.get (siteBay heldBay).bays 2047 = some heldBay ∧ (siteBay heldBay).permits .operator (zoneSingle 31) = true ∧
      heldBay.reservation = some { tag := 65535, expiry := 0 } ∧ 65535 ≠ 1) :=
  ⟨test_svc_accepted, test_opr_accepted, by decide⟩

theorem witness_DefineAndRetireBay : site.accepts svc .service ∧ site.tablesSound ∧ Kind.ofCode 3 = some .charger ∧
    Table.get site.bays 0 = none ∧ Table.has site.zones 31 = true ∧ site.kindOf 255 = some .sensor ∧
    (∀ n b, (n, b) ∈ site.bays → ¬(b.node = 255 ∧ b.channel = 15)) ∧
    (Table.get site.bays 2047 = some aBay ∧ site.fire.taken = false ∧ aBay.reservation = none) ∧
    (burning.tablesSound ∧ Table.get burning.bays 2047 = some aBay ∧ burning.fire.taken = true) ∧
    (siteBay heldBay).tablesSound ∧ Table.get (siteBay heldBay).bays 2047 = some heldBay ∧
    (siteBay heldBay).fire.taken = false ∧ heldBay.reservation.isSome = true :=
  ⟨test_svc_accepted, test_site_tables, by decide, by decide, by decide, by decide,
    by rintro n b h; simp only [site, List.mem_singleton, Prod.mk.injEq] at h; rw [h.2]; decide, by decide,
    ⟨test_burning_tables, by decide⟩, by unfold State.tablesSound; decide, by decide⟩

theorem witness_RedefineBayMoves : site.accepts svc .service ∧ Kind.ofCode 0 = some .general ∧
    Table.get site.bays 2047 = some aBay ∧ Table.has site.zones 0 = true ∧ site.kindOf 0 = some .sensor ∧
    site.kindOf 255 = some .sensor ∧
    (∀ node channel n b, (n, b) ∈ site.bays → n ≠ 2047 → ¬(b.node = node ∧ b.channel = channel)) :=
  ⟨test_svc_accepted, by decide, by decide, by decide, by decide, by decide, by
    rintro node channel n b h h'; simp only [site, List.mem_singleton, Prod.mk.injEq] at h; exact absurd h.1 h'⟩

theorem witness_ReservationExpires :
    (Table.get (siteBay heldBay).bays 2047 = some heldBay ∧
      heldBay.reservation = some { tag := 65535, expiry := (siteBay heldBay).seconds }) ∧
    Table.get site.bays 2047 = some aBay ∧ aBay.reservation = none := by decide

theorem witness_ReadingsMoveTheBay :
    (∀ st : BayState, ∀ k : Nat, k ∈ [0, 1, 2, 3] →
      Table.get (siteBay { aBay with state := st, confirm := k }).bays 2047 =
        some { aBay with state := st, confirm := k } ∧
      (∀ e ∈ (siteBay { aBay with state := st, confirm := k }).bays, e.1 ≠ 2047 →
        ¬(e.2.node = aBay.node ∧ e.2.channel = aBay.channel)) ∧
      (siteBay { aBay with state := st, confirm := k }).tablesSound) ∧
    (∃ z, Table.get site.zones aBay.zone = some z) ∧ site.settings.arrivalConfirm = 3 ∧
    site.settings.departureConfirm = 4 := by
  refine ⟨fun st k _ => ⟨rfl, ?_, test_site_tables⟩, ⟨_, rfl⟩, rfl, rfl⟩
  intro e he h'
  simp only [siteBay, List.mem_singleton] at he
  exact absurd (congrArg (fun e => e.1) he) h'

theorem witness_CloseAndOpenZone : site.accepts fac .facility ∧ site.accepts opr .operator ∧
    site.accepts svc .service ∧ (site.operatorMap.getLsbD 0 = false ∧ site.operatorMap.getLsbD 31 = true) ∧
    Table.get site.zones 1 = none ∧ Table.get site.zones 0 = some aZone :=
  ⟨test_fac_accepted, test_opr_accepted, test_svc_accepted, by decide⟩

/-- A warning level above the alarm level. -/
def crossed : ZoneFields := { zf with coWarn := some 900, coAlarm := some 100 }

theorem witness_DefineAndRetireZone : site.accepts svc .service ∧ site.tablesSound ∧ burning.tablesSound ∧
    (fieldsInRange zf = true ∧ fieldsInRange crossed = true ∧ Table.has site.zones 31 = true ∧
      Table.has site.zones 1 = false) ∧
    ((fieldsApplied zf ZoneSettings.default).consistent 8 = true ∧
      (fieldsApplied crossed ZoneSettings.default).consistent 8 = false) ∧
    (Table.get site.zones 0 = some aZone ∧ site.fire.taken = false ∧ burning.fire.taken = true) ∧
    (∀ e ∈ site.bays, e.2.zone ≠ 0) ∧ (∀ e ∈ site.nodes, e.2.zone ≠ some 0) ∧ (∀ e ∈ site.lights, e.2.zone ≠ 0) ∧
    (∀ e ∈ site.fans, e.2.served.getLsbD 0 = false) ∧ (∀ e ∈ site.signs, e.2.config.dependsOn 0 = false) :=
  ⟨test_svc_accepted, test_site_tables, test_burning_tables, by decide, by decide, by decide, by decide, by decide,
    by decide, by decide, by decide⟩

theorem witness_SetZoneApplies : site.accepts svc .service ∧ fieldsInRange zf = true ∧ fieldsInRange crossed = true ∧
    Table.get site.zones 0 = some aZone ∧ (fieldsApplied zf aZone.settings).consistent 1 = true ∧
    (fieldsApplied crossed aZone.settings).consistent 8 = false := ⟨test_svc_accepted, by decide⟩

theorem witness_ReadsReport : site.accepts svc .service ∧
    (Table.get site.zones 1 = none ∧ Table.get site.zones 0 = some aZone) ∧
    (Table.get site.fans 0 = none ∧ Table.get site.fans 23 = some aFan) ∧
    (Table.get site.signs 0 = none ∧ Table.get site.signs 63 = some aSign) ∧
    (Table.get site.lights 0 = none ∧ Table.get site.lights 47 = some aLight) ∧
    (Table.get site.nodes 8 = none ∧ Table.get site.nodes 255 = some (aNode .span3 1 .sensor none)) ∧
    site.slot = none := ⟨test_svc_accepted, by decide⟩

theorem witness_OverridesPushAndPop : site.accepts opr .operator ∧
    (Table.get site.fans 23 = some aFan ∧ site.permits .operator aFan.served = true ∧ aFan.stack = []) ∧
    (let l := [entry .facility 0, entry .facility 100, entry .operator 1, entry .operator 2]
     (Table.get (stacked l).fans 23 = some { aFan with stack := l } ∧ l.length = 4 ∧
      (l.getLast?.map (fun e => e.cls.rank)) = some (Cls.operator).rank)) ∧
    (Cls.operator).rank < (Cls.service).rank ∧ (Cls.service).rank < (Cls.fire).rank :=
  ⟨test_opr_accepted, by decide⟩

def isolatedFan : Fan := { aFan with state := .isolated }
def faultedFan : Fan := { aFan with state := .fault, faultCause := some .allDrives }

theorem witness_IsolateTakesOut : site.accepts svc .service ∧ (0xffffff : BitVec 32).toNat < 16777216 ∧
    ((0x800000 : BitVec 32).getLsbD 23 && (Table.get site.fans 23).isSome) = true ∧
    (∀ n, ((1 : BitVec 32).getLsbD n && (Table.get site.fans n).isSome) = false) ∧
    burning.fire.taken = true ∧ site.fire.taken = false := by
  refine ⟨test_svc_accepted, by decide, by decide, fun n => ?_, rfl, rfl⟩
  by_cases h : n = 23
  · subst h; decide
  · have h' : Table.get site.fans n = none := by simp [site, Table.get, Ne.symm h]
    simp [h']

theorem witness_RestoreAndClearReturn : site.accepts svc .service ∧ site.accepts opr .operator ∧
    Table.get (siteFan isolatedFan).fans 23 = some isolatedFan ∧ Table.get (siteFan faultedFan).fans 23 = some faultedFan ∧
    (∀ n g, (0x800000 : BitVec 32).getLsbD n = true → Table.get (siteFan isolatedFan).fans n = some g →
      (siteFan isolatedFan).permits .operator g.served = true) := by
  refine ⟨test_svc_accepted, test_opr_accepted, rfl, rfl, fun n g _ h => ?_⟩
  have h' : (n, g) ∈ (siteFan isolatedFan).fans := by
    by_cases hn : 23 = n
    · subst hn; simp [siteFan, Table.get] at h; simp [siteFan, h]
    · simp [siteFan, Table.get, hn] at h
  simp only [siteFan, List.mem_singleton, Prod.mk.injEq] at h'
  rw [h'.2]; decide

theorem witness_DefineAndRetireFan : site.accepts svc .service ∧ site.tablesSound ∧
    ((0x80000001 : ZoneSet) ≠ 0 ∧ fanFieldsInRange ff = true ∧ site.zonesDefined 0x80000001 = true) ∧
    (∀ n ∈ [5], n ≤ 255 ∧ site.kindOf n = some .fan) ∧ (∀ n ∈ [3], n ≤ 255 ∧ site.kindOf n = some .fan) ∧
    (∀ e ∈ site.fans, e.1 ≠ 0 → ∀ d ∈ e.2.drives, d.node ∉ [5]) ∧
    (∀ e ∈ site.fans, e.1 ≠ 23 → ∀ d ∈ e.2.drives, d.node ∉ [3]) ∧
    (Table.has site.fans 0 = false ∧ Table.has burning.fans 23 = true ∧ burning.fire.taken = true) ∧
    Table.get site.fans 23 = some aFan :=
  ⟨test_svc_accepted, test_site_tables, by decide, by decide, by decide, by decide, by decide, by decide, by decide⟩

theorem witness_SetFanApplies : site.accepts svc .service ∧ fanFieldsInRange ff = true ∧
    Table.get site.fans 23 = some aFan ∧ site.zonesDefined 0x80000001 = true ∧
    (∀ n ∈ [3, 5], n ≤ 255 ∧ site.kindOf n = some .fan) ∧
    (∀ e ∈ site.fans, e.1 ≠ 23 → ∀ d ∈ e.2.drives, d.node ∉ [3, 5]) ∧
    burning.fire.taken = true ∧ site.fire.taken = false :=
  ⟨test_svc_accepted, by decide, by decide, by decide, by decide, by decide, by decide⟩

theorem witness_FanStepMovesOneGroup :
    (∀ st : FanState, Table.get (siteFan { aFan with state := st }).fans 23 = some { aFan with state := st }) ∧
    (siteFan aFan).targetOf aFan = 10 ∧
    (stacked [entry .service 0]).targetOf { aFan with stack := [entry .service 0] } = 0 ∧ site.slot = none ∧
    ({ site with slot := some 5 } : State).slot ≠ none ∧
    (Table.get (stacked [entry .fire 60]).fans 23 = some { aFan with stack := [entry .fire 60] } ∧
      0 < (stacked [entry .fire 60]).targetOf { aFan with stack := [entry .fire 60] }) := by
  refine ⟨fun _ => rfl, by decide⟩

/-- R90, R91, R89: a head whose FIRE entry has level 0 is granted at the slot's expiry and runs at Vmin; the next
fan step stops it (log 43). -/
theorem test_granted_at_target_0 :
    (let s : State := { burning with
      fans := [(23, { aFan with state := .waiting, stack := [entry .fire 0], target := 0 })]
      slot := some 0, queue := [23], fanNext := 0 }
     after (exec .startSlotExpiry s) (fun t => decide (
       (Table.get t.fans 23).map (fun g => (g.state, g.commanded)) = some (.running, 25) ∧ t.queue = [] ∧
       t.slot = some 5) && after (exec .fanStep t) (fun u => decide (
         (Table.get u.fans 23).map (fun g => (g.state, g.commanded)) = some (.stopped, 0))))) = true := by decide

theorem witness_FanStepAndStartSlot : ({ site with fanNext := 0 } : State).fanNext = site.seconds ∧
    (let s : State := { siteFan { aFan with state := .waiting } with slot := some 0, queue := [23] }
     s.slot = some s.seconds ∧ s.queue = 23 :: [] ∧ 23 ∉ ([] : List Nat) ∧
      Table.get s.fans 23 = some { aFan with state := .waiting }) ∧
    ({ site with slot := some 0 } : State).slot = some site.seconds ∧ site.queue = [] ∧ site.slot = none := by decide

theorem witness_ProofAndOverrideExpire :
    (let p : Proof := { expiry := 0, proven := true }
     let g := { aFan with state := .running, commanded := 25, proof := some p }
     Table.get (siteFan g).fans 23 = some g ∧ p.expiry = (siteFan g).seconds) ∧
    (let l := [{ entry .operator 1 with expiry := some 0 }, { entry .service 2 with expiry := some 1 }]
     Table.get (stacked l).fans 23 = some { aFan with stack := l } ∧ (∃ e ∈ l, e.expiry = some (stacked l).seconds) ∧
      ∀ e ∈ l, ∀ v, e.expiry = some v → v = (stacked l).seconds ∨ reached (stacked l).seconds v = false) ∧
    Table.get site.fans 23 = some aFan ∧ aFan.proof = none ∧ ∀ e ∈ aFan.stack, e.expiry = none := by
  refine ⟨by decide, ⟨rfl, by decide, ?_⟩, by decide⟩
  intro e he v hv
  simp only [List.mem_cons, List.not_mem_nil, or_false] at he
  rcases he with rfl | rfl <;> simp only [Option.some.injEq] at hv <;> subst hv <;> decide

/-- Every clause's condition, at its boundary, for an alarm confirm of 2 and, where it passes through, 1. -/
theorem witness_FumeStateMoves :
    let st := { ZoneSettings.default with alarmConfirm := 2, clearConfirm := 3 }
    let judge := fun (n a : Nat) (f : Fume) (k c : Nat) =>
      judgeFume { st with alarmConfirm := n } true false (some a) none { fume := f, alarm := k, clear := c }
    let is := fun (f : Fume) (k c : Nat) => ({ fume := f, alarm := k, clear := c } : FumeCounts)
    let x := 16 * st.co.alarm
    let w := 16 * st.co.warn
    judge 2 (w - 1) .clear 0 0 = is .clear 0 0 ∧ judge 2 w .clear 0 0 = is .warning 0 0 ∧
    judge 2 x .clear 0 0 = is .warning 1 0 ∧ judge 1 x .clear 0 0 = is .fume 0 0 ∧
    judge 2 x .warning 1 0 = is .fume 0 0 ∧ judge 2 x .warning 0 0 = is .warning 1 0 ∧
    judge 2 (16 * (st.co.warn - st.co.hyst) - 1) .warning 1 0 = is .clear 0 0 ∧
    judge 2 (16 * (st.co.warn - st.co.hyst)) .warning 1 0 = is .warning 0 0 ∧
    judge 2 (16 * (st.co.alarm - st.co.hyst) - 1) .fume 0 2 = is .warning 0 0 ∧
    judge 2 (16 * (st.co.alarm - st.co.hyst) - 1) .fume 0 1 = is .fume 0 2 ∧
    judge 2 (16 * (st.co.alarm - st.co.hyst)) .fume 0 2 = is .fume 0 0 := by decide

theorem witness_AirEvaluationRuns : ({ site with airNext := 0 } : State).airNext = site.seconds ∧
    reached site.seconds site.airNext = false ∧ Table.get site.zones 0 = some aZone ∧ site.headCount 0 = 0 ∧
    site.headCount 31 = 1 ∧ sampleOf [none, none] = none ∧
    (let p : Peak := { value := 30, overRange := false }
     sampleOf [some p, none, some { p with value := 9, overRange := true }] = some { p with overRange := true }) ∧
    (let st := ZoneSettings.default
     gasDemandOf st.co false 50 (some (16 * st.co.start)) = 0 ∧ gasDemandOf st.co false 50 (some (16 * st.co.full)) = 100 ∧
      gasDemandOf st.co false 50 (some (16 * st.co.full - 1)) = 99 ∧ gasDemandOf st.co false 50 none = 50 ∧
      gasDemandOf st.co true 50 (some 0) = 50) := by decide

theorem witness_SignShowsItsZones : burning.fire.taken = true ∧ site.fire.taken = false ∧
    (∃ k z, aSignDef.countZones.getLsbD k = true ∧ Table.get site.zones k = some z ∧ z.causes = open0) ∧
    (let s := siteZone { aZone with causes := { open0 with operator := true } }
     ∀ k z, aSignDef.countZones.getLsbD k = true → Table.get s.zones k = some z → z.causes ≠ open0) ∧
    (∃ k z, aSignDef.termA.getLsbD k = true ∧ Table.get (siteZone { aZone with fill := .hasRoom }).zones k = some z ∧
      z.causes = open0 ∧ z.fill = .hasRoom) := by
  refine ⟨rfl, rfl, ⟨31, _, rfl, rfl, rfl⟩, ?_, ⟨31, _, rfl, rfl, rfl, rfl⟩⟩
  intro s k z hk hz
  by_cases h0 : 0 = k
  · subst h0; exact absurd hk (by decide)
  · by_cases h1 : 31 = k
    · subst h1
      have : z = { aZone with causes := { open0 with operator := true } } := by
        simpa [s, siteZone, Table.get] using hz.symm
      rw [this]; decide
    · simp [s, siteZone, Table.get, h0, h1] at hz

def sfDef : SignDef :=
  { node := 7, kind := .both, countZones := 1
    countKinds := { general := true, family := true, accessible := true, charger := true }, fullAt := 99, termA := 1
    termB := 1, out0 := .dark, out1 := .cross, out2 := .left, out3 := .right }

/-- A BOTH sign without count zones. -/
def sfBad : SignFields := { sf with countZones := 0 }

theorem witness_DefineAndRetireSign : site.accepts svc .service ∧ site.tablesSound ∧
    (signDefOf sf = some sfDef ∧ sfDef.consistent = true ∧ signDefOf sfBad = some { sfDef with countZones := 0 } ∧
      ({ sfDef with countZones := 0 } : SignDef).consistent = false) ∧
    (Table.get site.signs 0 = none ∧ site.kindOf 7 = some .sign ∧ site.zonesDefined 1 = true) ∧
    (∀ e ∈ site.signs, e.2.config.node ≠ sfDef.node) ∧
    (signDefOf { sf with node := 4 } = some { sfDef with node := 4 } ∧ ∃ e ∈ site.signs, e.2.config.node = 4) ∧
    Table.get site.signs 63 = some aSign ∧ burning.fire.taken = true :=
  ⟨test_svc_accepted, test_site_tables, by decide, by decide, by decide, by decide, by decide⟩

theorem witness_SetSignApplies : site.accepts svc .service ∧
    (let moved : SignChange := { sc with node := some 7, countZones := some 1 }
     signChangeInRange moved = true ∧ signDefOf (signFieldsOver moved aSign.config) =
        some { aSignDef with node := 7, countZones := 1 } ∧
      ({ aSignDef with node := 7, countZones := 1 } : SignDef).consistent = true) ∧
    (let bare : SignChange := { sc with countZones := some 0 }
     signChangeInRange bare = true ∧ signDefOf (signFieldsOver bare aSign.config) = some { aSignDef with countZones := 0 } ∧
      ({ aSignDef with countZones := 0 } : SignDef).consistent = false) ∧
    (signChangeInRange sc = true ∧ signDefOf (signFieldsOver sc aSign.config) = some aSignDef) ∧
    (site.kindOf 7 = some .sign ∧ ∀ e ∈ site.signs, e.1 ≠ 63 → e.2.config.node ≠ 7) ∧
    site.zonesDefined 1 = true ∧ Table.get site.signs 63 = some aSign :=
  ⟨test_svc_accepted, by decide⟩

theorem witness_LightOverrideComesAndGoes : site.accepts opr .operator ∧
    (Table.get site.lights 47 = some aLight ∧ site.permits .operator (zoneSingle aLight.zone) = true ∧ aLight.ovr = none) ∧
    (let l := { aLight with ovr := some { level := 100, expiry := some 0 } }
     Table.get (siteLight l).lights 47 = some l ∧
      ∃ o, l.ovr = some o ∧ o.expiry = some (siteLight l).seconds) :=
  ⟨test_opr_accepted, by decide, rfl, _, rfl, rfl⟩

theorem witness_HoldEndsAndRampFalls :
    (let l := { aLight with holdExpiry := some 0 }
     Table.get (siteLight l).lights 47 = some l ∧ l.state = .active ∧ l.holdExpiry = some (siteLight l).seconds) ∧
    (let l := { aLight with state := .ramping, policy := 21, nextRamp := some 0 }
     Table.get (siteLight l).lights 47 = some l ∧ l.state = .ramping ∧ l.nextRamp = some (siteLight l).seconds) ∧
    aLight.state ≠ .ramping ∧ LightState.economy ≠ .active := by decide

theorem witness_DefineAndRetireLight : site.accepts svc .service ∧ site.tablesSound ∧
    (lightFieldsInRange lf = true ∧ lightFieldsInRange { lf with economy := some 100 } = true ∧
      (lightFieldsApplied { lf with economy := some 100 } LightSettings.default).active < 100 ∧
      (lightFieldsApplied lf LightSettings.default).economy ≤ (lightFieldsApplied lf LightSettings.default).active) ∧
    (Table.get site.lights 0 = none ∧ Table.has site.zones 31 = true ∧ site.kindOf 6 = some .dimmer) ∧
    (∀ e ∈ site.lights, e.2.node ≠ 6) ∧ (∃ e ∈ site.lights, e.2.node = 2) ∧ site.kindOf 2 = some .dimmer ∧
    Table.get site.lights 47 = some aLight ∧ burning.fire.taken = true :=
  ⟨test_svc_accepted, test_site_tables, by decide, by decide, by decide, by decide, by decide⟩

theorem witness_SetLightApplies : site.accepts svc .service ∧ lightFieldsInRange lf = true ∧
    lightFieldsInRange { lf with economy := some 100 } = true ∧ Table.get site.lights 47 = some aLight ∧
    (Table.has site.zones 0 = true ∧ site.kindOf 6 = some .dimmer) ∧
    (∀ e ∈ site.lights, e.1 ≠ 47 → e.2.node ≠ 6) ∧
    (lightFieldsApplied { lf with economy := some 100 } aLight.settings).active <
      (lightFieldsApplied { lf with economy := some 100 } aLight.settings).economy :=
  ⟨test_svc_accepted, by decide⟩

theorem witness_DefineNodePlaces : site.accepts svc .service ∧
    (spanOfNumber 0 = some .span0 ∧ NodeKind.ofCode 1 = some .gas ∧ (some 31).isSome = decide (NodeKind.gas = .gas) ∧
      Table.has site.zones 31 = true) ∧
    (Table.get site.nodes 8 = none ∧ (∀ e ∈ site.nodes, ¬(e.2.span = .span0 ∧ e.2.address = 126)) ∧
      (site.nodes.filter (fun e => decide (e.2.span = .span0))).length < 96) ∧
    (∃ e ∈ site.nodes, e.2.span = .span0 ∧ e.2.address = 1) ∧
    (let s : State := { site with nodes := (List.range 4).map (fun k => (k, aNode .span1 (k + 1) .gas (some 31))) }
     4 ≤ (s.nodes.filter (fun e =>
      decide (e.1 ≠ 8) && decide (e.2.kind = .gas) && decide (e.2.zone = some 31))).length) ∧
    (let s : State := { site with nodes := (List.range 96).map (fun k => (k + 10, aNode .span0 (k + 2) .sign none)) }
     s.accepts svc .service ∧ Table.get s.nodes 8 = none ∧
      96 ≤ (s.nodes.filter (fun e => decide (e.2.span = .span0))).length) ∧
    (Table.get site.nodes 1 = some (aNode .span0 1 .gas (some 31)) ∧ Table.has site.zones 0 = true) :=
  ⟨test_svc_accepted, by decide, by decide, by decide, by decide, ⟨⟨rfl, rfl⟩, by decide, by decide⟩, by decide⟩

theorem witness_NodesLeaveAndReturn : site.accepts svc .service ∧ site.tablesSound ∧ site.placesSound ∧
    Table.get site.nodes 255 = some (aNode .span3 1 .sensor none) ∧
    (∀ e ∈ site.bays, e.2.node ≠ 255) ∧ (∀ e ∈ site.fans, ∀ d ∈ e.2.drives, d.node ≠ 255) ∧
    (∀ e ∈ site.lights, e.2.node ≠ 255) ∧ (∀ e ∈ site.signs, e.2.config.node ≠ 255) ∧ burning.fire.taken = true ∧
    ((visiting (aNode .span3 1 .sensor none) []).span3.visit = some aVisit ∧ aVisit.node = 255 ∧
      aVisit.fate = .counted) ∧
    (∀ m ∈ [0, 1, 2, 3, 4], (Table.get site.nodes m).map (fun n =>
      decide (n.liveness ≠ .suspended) && !n.suspendPending && (site.span n.span).visit.isNone) = some true) ∧
    (Span.reset.stuck = none ∧ Span.reset.visit = none ∧
      ({ Span.reset with inRound := true } : Span).inRound = true) ∧
    (let s := siteNode { aNode .span3 1 .sensor none with liveness := .suspended }
     Table.get s.nodes 255 = some { aNode .span3 1 .sensor none with liveness := .suspended } ∧ s.tablesSound ∧
      s.placesSound) := by
  refine ⟨test_svc_accepted, test_site_tables, test_site_places, by decide, by decide, by decide, by decide, by decide,
    by decide, by decide, by decide, by decide, by decide, ?_, ?_⟩
  · unfold State.tablesSound; decide
  · unfold State.placesSound; decide

theorem witness_PermitsAndSettings : site.accepts svc .service ∧ site.accepts opr .operator ∧
    partFieldsInRange { pf with limit0 := some 16, airPeriod := some 60 } = true ∧
    partFieldsInRange { pf with limit0 := some 5 } = false := ⟨test_svc_accepted, test_opr_accepted, by decide⟩

/-- Items pending on MAIN in two classes, one of them enabled. -/
def items : State := { site with main := { site.main with
  att := { site.main.att with enables := 2, air := [(31, .blind)], link := [(1, .overrun)] }, attn := true } }

theorem witness_AttentionServed : items.accepts svc .service ∧
    (items.main.att.enabled .air = true ∧ items.main.att.items .air = [(31, .blind)] ∧
      (∀ j : AttClass, j.code < AttClass.air.code → items.main.att.enabled j = false ∨ items.main.att.items j = [])) ∧
    (∀ k : AttClass, site.main.att.enabled k = false ∨ site.main.att.items k = []) ∧
    (31 < AttClass.air.objects ∧ Table.get (items.main.att.items .air) 31 = some .blind ∧
      Table.get (items.main.att.items .air) 0 = none ∧ AttClass.air.objects ≤ 32) ∧ (63#8).toNat < 64 ∧
    items.main.att.sound :=
  ⟨⟨rfl, rfl⟩, ⟨rfl, rfl, fun j => by cases j <;> decide⟩, fun k => by cases k <;> decide, by decide, by decide,
    fun k => by cases k <;> decide⟩

/-- A RESTART answered OK, its reply being sent on MAIN. -/
def restarting : State := { site with main := { site.main with
  service := some (answer svc .restart .ok []) } }

theorem witness_RestartTakesEffect : site.accepts svc .service ∧ site.accepts fac .facility ∧
    restarting.main.service = some { item := .request 3 1 .restart, reply := { tag := 1, result := .ok, payload := [] } } ∧
    (restarting.span3.visit = none ∧ restarting.tablesSound ∧ restarting.placesSound) ∧
    (visiting (aNode .span3 1 .sensor none) []).span3.visit = some aVisit :=
  ⟨test_svc_accepted, test_fac_accepted, rfl, ⟨rfl, test_site_tables, test_site_places⟩, rfl⟩

/-- R172: a visit in flight goes on, to be discarded; a span without one begins a round at once. -/
theorem test_restart_meets_a_visit :
    (let s := visiting (aNode .span3 1 .sensor none) []
     let u := { s with ms := 50, main := { s.main with service := some (answer svc .restart .ok []) } }
     after (exec (.replySent .main false) u) (fun t => decide (
       t.span3.visit = some { aVisit with fate := .restarted } ∧ t.span0.roundStart = 50 ∧ t.span0.inRound = true))) =
      true := by decide

theorem witness_FireFiltersWatch : true ≠ site.fire.line ∧ false ≠ burning.fire.line ∧ site.fire.change = none ∧
    (31 : BitVec 5) ≠ site.fire.codes ∧ burning.fire.taken = true ∧ site.fire.taken = false ∧
    burning.fire.zone = some (31 : BitVec 5).toNat ∧ burning.fire.pendingZone = none := by decide

/-- A queue that holds the one waiting group. -/
theorem queue_of_waiter {s : State} {g : Fan} (h : s.fans = [(23, g)]) (hq : s.queue = [23])
    (hg : g.state = .waiting) : s.queueSound := by
  refine ⟨by rw [hq]; decide, fun n => ?_⟩
  rw [hq, h]
  by_cases hn : 23 = n
  · subst hn; simp [Table.get, hg]
  · simp [Table.get, hn, Ne.symm hn]

theorem witness_FireModeEntered :
    (let s : State := { siteFan { aFan with
        state := .waiting, stack := [entry .facility 1, entry .facility 2, entry .operator 3, entry .service 4] } with
        fire := { site.fire with line := true, change := some 200 }, queue := [23] }
     (s.tablesSound ∧ s.fire.change = some 200 ∧ s.fire.taken = false) ∧ s.queueSound ∧ s.stacksSound) ∧
    Table.get (siteFan isolatedFan).fans 23 = some isolatedFan := by
  refine ⟨⟨⟨?_, rfl, rfl⟩, queue_of_waiter rfl rfl rfl, ?_⟩, rfl⟩
  · unfold State.tablesSound; decide
  · unfold State.stacksSound stackSound; decide

theorem witness_FireModeLeftAndZoneChanged :
    (let s : State := { burning with fire := { burning.fire with line := false, change := some 2000 } }
     s.tablesSound ∧ s.fire.taken = true ∧ s.fire.change = some 2000) ∧
    (let s : State := { burning with fire := { burning.fire with codes := 0, pendingZone := some (0, 200) } }
     s.tablesSound ∧ s.fire.taken = true ∧ s.fire.pendingZone = some (0, 200)) := by
  refine ⟨⟨?_, rfl, rfl⟩, ⟨?_, rfl, rfl⟩⟩ <;> (unfold State.tablesSound; decide)

def stuck : State := { site with span3 := { Span.reset with
  stuck := some { since := 5, retry := 1005, silenced := false } } }

def roundOpen : State := { site with span3 := { Span.reset with inRound := true } }

theorem witness_RoundsAndVisitsBegin :
    (site.span3.stuck = none ∧ site.span3.visit = none ∧ site.span3.inRound = false) ∧
    (roundOpen.span3.inRound = true ∧ roundOpen.span3.position = none ∧ roundOpen.tablesSound ∧ roundOpen.placesSound) ∧
    (Table.get roundOpen.nodes 255 = some (aNode .span3 1 .sensor none) ∧
      Table.get roundOpen.nodes 0 = some (aNode .span3 126 .sensor (some 31))) ∧
    (∀ e ∈ roundOpen.nodes, e.2.span = .span3 → ¬e.2.address < 1) ∧
    (∀ e ∈ site.nodes, e.2.span = .span1 → e.2.address < 126 → e.2.address ≤ 1) ∧
    (visiting (aNode .span3 1 .sensor none) []).span3.visit ≠ none ∧ stuck.span3.stuck ≠ none ∧
    ¬site.nodeLeft .span3 (some 126) ∧ site.nodeLeft .span3 none := by
  refine ⟨by decide, ⟨rfl, rfl, test_site_tables, test_site_places⟩, by decide, by decide, by decide, by decide,
    by decide, ?_, ⟨(0, aNode .span3 126 .sensor (some 31)), by decide, rfl, .inl rfl, fun a h => by cases h⟩⟩
  rintro ⟨e, he, -, -, h⟩
  exact absurd (h 126 rfl) (by revert e; decide)

/-- The answer of a sensor head with one bay present, but for its check byte. -/
def heard : List Byte := [1, 0, 18, 1] ++ List.replicate 15 3 ++ [0]

/-- The visit to node 255, its outcome to be discarded, a suspension pending. -/
def discarding (f : VisitFate) (answer : List Byte) : State :=
  let s := visiting { aNode .span3 1 .sensor none with suspendPending := true } answer
  { s with span3 := { s.span3 with visit := s.span3.visit.map (fun v => { v with fate := f }), inRound := true } }

theorem witness_AnswerBytesJudged :
    (∀ l : Liveness, ∀ pend : Bool,
      let n := { aNode .span3 1 .sensor none with liveness := l, suspendPending := pend }
      (visiting n heard).span3.visit = some { aVisit with answer := heard } ∧
        Table.get (visiting n heard).nodes 255 = some n) ∧ aVisit.fate = .counted ∧
    (let full := heard ++ [checkByte heard]
     (full.length = 3 + 18 ∧ byteSum full = 0 ∧ byteAt full 0 = byte 1 ∧ byteAt full 1 = byte NodeKind.sensor.code ∧
      18 = answerLength .sensor) ∧ byteSum (heard ++ [checkByte heard + 1]) ≠ 0) ∧
    (let short := [1, 0, 1] ++ [checkByte [1, 0, 1]]
     byteSum short = 0 ∧ short.length = 3 + 1 ∧ 1 ≠ answerLength .sensor) ∧
    ([1, 0, 19] : List Byte).length = 3 ∧ 18 < (byteAt [1, 0, 19] 2).toNat ∧ ([1] : List Byte).length < 3 ∧
    (byteAt [1, 0, 0] 2).toNat = 0 ∧ site.span3.visit = none ∧
    (∀ f ∈ [VisitFate.retired, .restarted, .restartedRetired], f ≠ .counted ∧
      (discarding f heard).span3.visit = some { aVisit with answer := heard, fate := f }) := by
  refine ⟨fun l pend => ⟨rfl, rfl⟩, by decide⟩

/-- A node of every kind, each with the record that lists it. -/
theorem witness_AnswersAndNoticesReachTheOwners : site.tablesSound ∧ site.placesSound ∧
    Table.get site.nodes 0 = some (aNode .span3 126 .sensor (some 31)) ∧
    Table.get site.nodes 1 = some (aNode .span0 1 .gas (some 31)) ∧
    Table.get site.nodes 2 = some (aNode .span0 2 .dimmer none) ∧
    Table.get site.nodes 3 = some (aNode .span1 1 .fan none) ∧
    Table.get site.nodes 4 = some (aNode .span1 126 .sign none) ∧
    byteAt (List.replicate 17 (1 : Byte)) 16 ≠ 0 ∧ byteAt (List.replicate 17 (0 : Byte)) 16 = 0 :=
  ⟨test_site_tables, test_site_places, by decide⟩

theorem witness_VisitsFail : site.span3.visit = none ∧
    (let s := visiting { aNode .span3 1 .sensor none with missCount := 2 } []
     s.span3.visit = some aVisit ∧ aVisit.answer = [] ∧ aVisit.fate = .counted ∧
      Table.get s.nodes 255 = some { aNode .span3 1 .sensor none with missCount := 2 } ∧
      s.settings.missLimit ≤ min 15 (2 + 1)) ∧
    (let s := visiting { aNode .span3 1 .sensor none with suspendPending := true } [1]
     s.span3.visit = some { aVisit with answer := [1] } ∧ ¬s.settings.missLimit ≤ min 15 (0 + 1) ∧
      Table.get s.nodes 255 = some { aNode .span3 1 .sensor none with suspendPending := true }) ∧
    (∀ f ∈ [VisitFate.retired, .restarted, .restartedRetired], f ≠ .counted ∧
      (discarding f []).span3.visit = some { aVisit with fate := f } ∧
      (discarding f [1]).span3.visit = some { aVisit with answer := [1], fate := f }) := by decide

theorem witness_SpanSticksAndFrees : (site.span3.stuck = none ∧ site.span3.visit = none) ∧
    (let s := visiting (aNode .span3 1 .sensor none) []
     s.span3.stuck = none ∧ s.span3.visit = some aVisit ∧ aVisit.answer = [] ∧ aVisit.fate = .counted ∧
      Table.get s.nodes 255 = some (aNode .span3 1 .sensor none)) ∧
    ((visiting (aNode .span3 1 .sensor none) [1]).span3.visit = some { aVisit with answer := [1] } ∧ [1] ≠ ([] : List Byte)) ∧
    stuck.span3.stuck = some { since := 5, retry := 1005, silenced := false } ∧ stuck.tablesSound ∧ stuck.placesSound ∧
    Table.get stuck.nodes 255 = some (aNode .span3 1 .sensor none) ∧
    (∀ f ∈ [VisitFate.retired, .restarted, .restartedRetired], f ≠ .counted ∧
      (discarding f []).span3.stuck = none ∧ (discarding f []).span3.visit = some { aVisit with fate := f } ∧
      aVisit.answer = []) ∧
    (discarding .restarted []).tablesSound ∧ (discarding .restarted []).placesSound := by
  refine ⟨by decide, by decide, by decide, rfl, test_site_tables, test_site_places, by decide, by decide, ?_, ?_⟩
  · unfold State.tablesSound; decide
  · unfold State.placesSound; decide

def hearing (r : Receiver) : State := { site with main := { site.main with receiver := r } }

theorem witness_ReceiverTakesBytes : site.main.receiver = .hunting ∧ (hearing .draining).main.receiver = .draining ∧
    (hearing (.receiving [5])).main.receiver = .receiving [5] ∧ (byteAt ([] ++ [3]) 0).toNat < 4 ∧
    (4 ≤ (byteAt ([] ++ [244]) 0).toNat ∧ (byteAt ([] ++ [244]) 0).toNat ≤ 244) ∧
    (244 < (byteAt ([245, 3] ++ [9]) 0).toNat ∧ ([245, 3] ++ [9] : List Byte).length < 4) := by decide

theorem witness_CompletedFramesArrive :
    (hearing (.receiving [5, 3, 9, 7, 31])).main.receiver = .receiving [5, 3, 9, 7, 31] ∧
    (let f : List Byte := [5, 3, 9, 7, 31] ++ [201]
     (byteAt f 0).toNat = 5 ∧ f.length = 5 + 1 ∧ byteSum f = 0) ∧
    requestRow (.readZone { port := .main, cls := 3, tag := 7, key := true } 31) =
      some ({ port := .main, cls := 3, tag := 7, key := true }, parseRequest 9 [31]) ∧
    byteSum ([5, 3, 9, 7, 31] ++ [202]) ≠ 0 ∧
    (let f : List Byte := [245, 3, 9] ++ [7]
     244 < (byteAt f 0).toNat ∧ 4 ≤ f.length) := ⟨rfl, by decide, rfl, by decide, by decide⟩

/-- Both places of MAIN are occupied. -/
def busy : State := { site with main := { site.main with
  service := some (answer svc (.readZone 0) .noSuch []), waiting := some (.badFrame 2) } }

theorem witness_RequestsArrive :
    (busy.main.service ≠ none ∧ busy.main.waiting ≠ none ∧ restarting.main.service ≠ none ∧
      restarting.main.waiting = none ∧ site.main.service = none) ∧
    requestRow (.readZone svc 31) = some (svc, .readZone 31) ∧
    admitted .main false 3 = none ∧ admitted .panel true 3 = none ∧ site.accepts svc .service ∧ 42 < 43 := by
  refine ⟨by decide, rfl, rfl, rfl, test_svc_accepted, by decide⟩

theorem witness_ReplySentFreesThePlace : site.main.service = none ∧
    busy.main.service = some (answer svc (.readZone 0) .noSuch []) ∧
    (answer svc (.readZone 0) .noSuch []).isRestart = false ∧ busy.main.waiting = some (.badFrame 2) ∧
    (let s : State := { busy with main := { busy.main with waiting := some (.request 3 9 (.readZone 31)) } }
     s.main.waiting = some (.request 3 9 (.readZone 31))) ∧
    requestRow (.readZone { port := .main, cls := 3, tag := 9, key := true } 31) =
      some ({ port := .main, cls := 3, tag := 9, key := true }, .readZone 31) := by
  refine ⟨rfl, rfl, rfl, rfl, rfl, rfl⟩

theorem witness_RequestsRoundTrip : requestFits (.readBays 2047 32 1 16) = true ∧
    requestFits (.defineFan 23 0x80000001 [3, 5] ff) = true ∧ requestFits (.lightOverride 47 none none) = true ∧
    (encodeRequest (.defineFan 23 0x80000001 [3, 5] ff)).2.length ≤ 240 := by decide

theorem witness_StepRunsTheFrontCommand : site.pending = [] ∧ (site.secondAt ≤ site.ms ∧ site.ms < site.secondAt + 1000) ∧
    (let s : State := { site with ms := 999 }
     s.pending = [] ∧ s.ms < s.secondAt + 1000 ∧ s.ms + 1 = s.secondAt + 1000) := by decide

theorem witness_SecondsAndFullReset : site.timeSound ∧ ({ site with ms := 1999 } : State).ms < site.secondAt + 2000 := by
  refine ⟨⟨rfl, rfl⟩, by decide⟩


/-! ### The sample state meets every invariant, and so does one in fire mode -/

/-- Fire mode in zone 31: every cause, entry, light and sign stands as R106 leaves it. -/
def ablaze : State := { burning with
  fireFlag := true
  zones := [(0, { aZone with causes := { open0 with fire := true } }),
    (31, { aZone with
      tallies := { aZone.tallies with free := 1 }, total := 1, free := { aZone.free with general := 1 }
      causes := { open0 with fire := true } })]
  fans := [(23, { aFan with state := .waiting, stack := [entry .service 5, entry .fire 100], target := 100 })]
  queue := [23]
  lights := [(47, { aLight with state := .forced, policy := 100, level := 100 })]
  signs := [(63, { aSign with content := { Content.blank with word := .closed, arrow := .cross } })] }

theorem witness_LinesFollowTheSets : site.linesSound ∧ items.linesSound :=
  ⟨fun p => by cases p <;> rfl, fun p => by cases p <;> decide⟩

theorem witness_TablesAndSettingsStaySound : (site.tablesSound ∧ site.settings.sound) ∧ site.levelsConsistent ∧
    (items.tablesSound ∧ items.setsSound) ∧ site.placesSound := by
  refine ⟨⟨test_site_tables, by decide, by decide, by decide, by decide, by decide, by decide, by decide, by decide,
    fun i => by cases i <;> decide⟩, ?_, ⟨test_site_tables, fun p k => ?_⟩, test_site_places⟩
  · unfold State.levelsConsistent; decide
  · cases p <;> cases k <;> decide

theorem witness_FireAndClosureRecordsAgree : (site.fireSound ∧ site.filterSound) ∧
    (ablaze.fireSound ∧ ablaze.filterSound) ∧ ablaze.tablesSound ∧ ablaze.causesSound ∧ ablaze.fumeSetSound := by
  refine ⟨⟨?_, rfl⟩, ⟨?_, rfl⟩, ?_, ?_, ?_⟩
  · unfold State.fireSound; decide
  · unfold State.fireSound; decide
  · unfold State.tablesSound; decide
  · unfold State.causesSound Zone.causesSound; decide
  · intro k
    by_cases h0 : 0 = k
    · subst h0; decide
    · by_cases h1 : 31 = k
      · subst h1; decide
      · simp [ablaze, burning, site, State.reset, State.fresh, Table.get, h0, h1]

theorem witness_QueueAndAirStatusFollowTheGroups : ablaze.tablesSound ∧ ablaze.queueSound ∧ ablaze.fansPlaced ∧
    ablaze.airSound ∧ ablaze.stacksSound ∧ ablaze.queueOrdered := by
  refine ⟨?_, queue_of_waiter rfl rfl rfl, ?_, ?_, ?_, ?_⟩
  · unfold State.tablesSound; decide
  · unfold State.fansPlaced; decide
  · unfold State.airSound; decide
  · unfold State.stacksSound stackSound; decide
  · unfold State.queueOrdered; decide

theorem witness_LightsFollowForcing : ablaze.fireSound ∧ ablaze.forcingSound ∧ ablaze.levelsSound := by
  refine ⟨?_, ?_, ?_⟩
  · unfold State.fireSound; decide
  · unfold State.forcingSound; decide
  · unfold State.levelsSound Light.levelSound; decide

/-- Zone 31 is in FUME, and the group that serves it targets 100. -/
def fuming : State := { siteFan { aFan with stack := [entry .service 5], target := 100 } with
  zones := [(31, { aZone with air := { aZone.air with fume := .fume, zoneDemand := 100 } })] }

theorem witness_StacksAndSpeedsStaySound : ablaze.tablesSound ∧ ablaze.stacksSound ∧ ablaze.speedsSound ∧
    fuming.tablesSound ∧ fuming.targetsSound ∧
    (∃ z, aFan.served.getLsbD 31 = true ∧ Table.get fuming.zones 31 = some z ∧ z.air.fume = .fume) := by
  refine ⟨?_, ?_, ⟨?_, ?_⟩, ?_, ?_, ⟨_, by decide, rfl, rfl⟩⟩
  · unfold State.tablesSound; decide
  · unfold State.stacksSound stackSound; decide
  · unfold Zone.demandSound; decide
  · unfold Fan.speedSound; decide
  · unfold State.tablesSound; decide
  · intro e he _ _
    rw [List.mem_singleton.1 he]

theorem witness_CountsFollowTheBays : site.tablesSound ∧ site.baysPlaced ∧ site.countsSound ∧ site.reservationsSound := by
  refine ⟨test_site_tables, ?_, ?_, ?_⟩
  · unfold State.baysPlaced; decide
  · intro e he
    simp only [site, List.mem_cons, List.not_mem_nil, or_false] at he
    rcases he with rfl | rfl
    · exact ⟨fun st => by cases st <;> decide, fun k => by cases k <;> decide, by decide, by decide⟩
    · exact ⟨fun st => by cases st <;> decide, fun k => by cases k <;> decide, by decide, by decide⟩
  · unfold State.reservationsSound; decide

theorem witness_SignsStayCurrent : ablaze.signsPlaced ∧ ablaze.signsSound := by
  refine ⟨?_, ?_⟩
  · unfold State.signsPlaced; decide
  · unfold State.signsSound Sign.soundIn; decide

/-- Each of these invariants is asked of a state that steps. -/
theorem witness_steps : after (step { ablaze with pending := [.startSlotExpiry] }) (fun _ => true) = true := by decide

theorem witness_RefusalsChangeNothing : (serveRequest .main (.closeZone 0) .facility site).result = .denied := by decide

theorem witness_ClassesKeepToTheirZones :
    (serveRequest .panel (.closeZone 31) .operator site).result = .ok ∧
    (serveRequest .panel (.closeZone 0) .operator site).result = .denied ∧ site.operatorMap.getLsbD 0 = false ∧
    site.facilityMap.getLsbD 31 = false := by decide

end Sys2Proof.Tests
end

/-! ## Proofs: the bay table (spec/01) -/

namespace Sys2Proof.Machine

/-! ### Reading a table -/

section Tables

variable {α : Type}

/-- In a table of rising numbers every entry is the one its number reads. -/
theorem Table.get_of_mem {t : Table α} (hw : (Table.keys t).Pairwise (· < ·)) {k : Nat} {a : α}
    (h : (k, a) ∈ t) : Table.get t k = some a := by
  induction t with
  | nil => simp at h
  | cons e t ih =>
    obtain ⟨hlt, hw⟩ := List.pairwise_cons.1 hw
    rcases List.mem_cons.1 h with rfl | h
    · simp [Table.get]
    · have hne : e.1 ≠ k := Nat.ne_of_lt (hlt k (List.mem_map_of_mem h))
      simp [Table.get, hne, ih hw h]

theorem Table.mem_iff_get {t : Table α} (hw : (Table.keys t).Pairwise (· < ·)) {k : Nat} {a : α} :
    (k, a) ∈ t ↔ Table.get t k = some a :=
  ⟨Table.get_of_mem hw, Table.mem_of_get⟩

/-! ### Counting over a table that gains or loses a record -/

@[simp] theorem Table.countOf_cons (e : Nat × α) (t : Table α) (p : Nat → α → Bool) :
    Table.countOf (e :: t) p = (p e.1 e.2).toNat + Table.countOf t p := by
  cases h : p e.1 e.2 <;> simp [Table.countOf, h, Nat.add_comm]

theorem Table.countOf_set_new {t : Table α} {k : Nat} (h : Table.get t k = none) (a : α) (p : Nat → α → Bool) :
    Table.countOf (Table.set t k a) p = Table.countOf t p + (p k a).toNat := by
  induction t with
  | nil => simp [Table.set, Table.countOf_cons, Nat.add_comm]
  | cons e t ih =>
    by_cases he : e.1 = k
    · simp [Table.get, he] at h
    · simp only [Table.get, he, if_false] at h
      simp only [Table.set, he, if_false]
      split
      · simp only [Table.countOf_cons]; omega
      · simp only [Table.countOf_cons, ih h]; omega

theorem Table.countOf_erase {t : Table α} {k : Nat} {a : α} (h : Table.get t k = some a) (p : Nat → α → Bool) :
    Table.countOf (Table.erase t k) p + (p k a).toNat = Table.countOf t p := by
  induction t with
  | nil => simp [Table.get] at h
  | cons e t ih =>
    by_cases he : e.1 = k
    · simp only [Table.get, he, if_true, Option.some.injEq] at h
      simp only [Table.erase, he, if_true, Table.countOf_cons, h]
      omega
    · simp only [Table.get, he, if_false] at h
      simp only [Table.erase, he, if_false, Table.countOf_cons]
      have := ih h
      omega

theorem Table.get_eq_none_of_lt {t : Table α} {k : Nat} (h : ∀ n ∈ Table.keys t, k < n) :
    Table.get t k = none := by
  cases hk : Table.get t k with
  | none => rfl
  | some a => exact absurd (h k (Table.mem_keys_of_get hk)) (Nat.lt_irrefl k)

theorem Table.get_erase_self {t : Table α} (hw : (Table.keys t).Pairwise (· < ·)) (k : Nat) :
    Table.get (Table.erase t k) k = none := by
  induction t with
  | nil => rfl
  | cons e t ih =>
    obtain ⟨hlt, hw⟩ := List.pairwise_cons.1 hw
    by_cases he : e.1 = k
    · simpa [Table.erase, he] using Table.get_eq_none_of_lt (he ▸ hlt)
    · simp [Table.erase, Table.get, he, ih hw]

/-- Replacing a record is taking the old one out and putting the new one in. -/
theorem Table.set_erase {t : Table α} (hw : (Table.keys t).Pairwise (· < ·)) {k : Nat} {a : α}
    (h : Table.get t k = some a) (b : α) : Table.set (Table.erase t k) k b = Table.set t k b := by
  induction t with
  | nil => simp [Table.get] at h
  | cons e t ih =>
    obtain ⟨hlt, hw⟩ := List.pairwise_cons.1 hw
    by_cases he : e.1 = k
    · have front : Table.set t k b = (k, b) :: t := by
        cases t with
        | nil => rfl
        | cons e' t =>
          have : k < e'.1 := he ▸ hlt e'.1 List.mem_cons_self
          simp [Table.set, this]
      simp [Table.erase, Table.set, he, front]
    · simp only [Table.get, he, if_false] at h
      have hek : ¬k < e.1 := Nat.not_lt_of_gt (hlt k (Table.mem_keys_of_get h))
      simp [Table.erase, Table.set, he, hek, ih hw h]

end Tables

/-! ### Reads of the bay table (R23, R24) -/

/-- A request that changes nothing, read or refused: its answer, and what stands (R177 to R179). -/
theorem State.arrive_unchanged {s : State} {h : Head} {c : Cls} (ha : s.accepts h c) (body : Request)
    {serve : Cls → State → Served} {r : Result} {l : List Byte}
    (hs : serve c (s.withKey h.key) = { state := s.withKey h.key, result := r, payload := l }) :
    s.answers (s.arrive h body serve) h body r l ∧
    s.keepsBut (s.arrive h body serve) [.serviceKey, .places h.port] :=
  have ⟨hans, hkeep, _⟩ := State.arrive_served ha body hs (s.withKey_keeps h.key) (by simp) rfl
  ⟨hans, hkeep⟩

theorem exec_readBays (h : Head) (start count direction step : Nat) (s : State) :
    exec (.readBays h start count direction step) s = .next (s.arrive h (.readBays start count direction step)
      (fun _ s => serveReadBays start count direction step s)) := rfl

theorem exec_findBays (h : Head) (zone after maximum : Nat) (kinds states : Byte) (s : State) :
    exec (.findBays h zone kinds states after maximum) s =
      .next (s.arrive h (.findBays zone kinds states after maximum)
        (fun _ s => serveFindBays zone kinds states after maximum s)) := rfl

/-- R23: going up, the walk's numbers are the multiples of the step that stay in the table. -/
theorem walk_up (step count n : Nat) : walk true step count n =
    ((List.range count).map (fun k => n + k * step)).filter (fun m => decide (m < 2048)) := by
  induction count generalizing n with
  | zero => rfl
  | succ count ih =>
    simp only [walk, Config.bays, if_true]
    split
    · next hn =>
      refine (List.filter_eq_nil_iff.2 fun m hm => ?_).symm
      obtain ⟨k, -, rfl⟩ := List.mem_map.1 hm
      simp only [decide_eq_true_eq]
      omega
    · next hn =>
      have shift : ∀ k, n + (k + 1) * step = n + step + k * step := fun k => by ring
      simp [List.range_succ_eq_map, ih, Function.comp_def, shift, Nat.lt_of_not_le hn]

/-- R23: going down, they are those that do not fall below 0. -/
theorem walk_down (step count n : Nat) (hn : n < 2048) : walk false step count n =
    ((List.range count).filter (fun k => decide (k * step ≤ n))).map (fun k => n - k * step) := by
  induction count generalizing n with
  | zero => rfl
  | succ count ih =>
    simp only [walk, Config.bays, Nat.not_le.2 hn, if_false, Bool.false_eq_true,
      List.range_succ_eq_map, List.filter_cons, List.filter_map, Nat.zero_mul, Nat.zero_le, decide_true, if_true,
      List.map_cons, List.map_map, Nat.sub_zero, Function.comp_def, Nat.succ_eq_add_one]
    split
    · next hlt =>
      have below : ∀ k, ¬(k + 1) * step ≤ n := fun k h => by
        have : step ≤ (k + 1) * step := Nat.le_mul_of_pos_left _ k.succ_pos
        omega
      simp [below]
    · next hge =>
      have shift : ∀ k, (k + 1) * step ≤ n ↔ k * step ≤ n - step := fun k => by rw [Nat.succ_mul]; omega
      have less : ∀ k, n - (k + 1) * step = n - step - k * step := fun k => by rw [Nat.succ_mul]; omega
      simp [ih (n - step) (by omega), shift, less]

/-- R23: a read in range is answered with the view of each number the walk visits. -/
theorem serveReadBays_ok {start count direction step : Nat} (s : State) (hstart : start ≤ 2047)
    (hcount : 1 ≤ count ∧ count ≤ 32) (hdir : direction ≤ 1) (hstep : 1 ≤ step ∧ step ≤ 16) :
    serveReadBays start count direction step s =
      serveOk (byte (walk (direction == 0) step count start).length ::
        (walk (direction == 0) step count start).flatMap (fun n => bayView n (Table.get s.bays n))) s := by
  simp [serveReadBays, within, hstart, hcount, hdir, hstep]

/-- The bay numbers of a sound state rise (R1). -/
theorem State.tablesSound.baysRise {s : State} (h : s.tablesSound) : (Table.keys s.bays).Pairwise (· < ·) :=
  have ⟨⟨hrise, _⟩, _⟩ := h
  hrise

/-- R24: the numbers FIND_BAYS lists rise. -/
theorem State.matching_rising {s : State} (hs : s.tablesSound) (zone after : Nat) (kinds states : Byte) :
    (s.matching zone kinds states after).Pairwise (· < ·) :=
  hs.baysRise.sublist (List.filter_sublist.map _)

/-- R24: the numbers FIND_BAYS lists are those of the bays that match. -/
theorem State.mem_matching {s : State} (hs : s.tablesSound) (zone after n : Nat) (kinds states : Byte) :
    n ∈ s.matching zone kinds states after ↔ ∃ b, Table.get s.bays n = some b ∧ b.zone = zone ∧
      kinds.getLsbD b.kind.code = true ∧ states.getLsbD b.state.code = true ∧ (after = 65535 ∨ after < n) := by
  simp [State.matching, Table.keys, Table.mem_iff_get hs.baysRise, and_assoc]

/-- The operands of FIND_BAYS are in their ranges (R24). -/
def findInRange (zone after maximum : Nat) (kinds states : Byte) : Prop :=
  zone ≤ 31 ∧ kinds.toNat < 16 ∧ states.toNat < 64 ∧ (after ≤ 2047 ∨ after = 65535) ∧ 1 ≤ maximum ∧ maximum ≤ 32

/-- R24, R179: with operands in range FIND_BAYS turns on whether the zone is defined. -/
theorem serveFindBays_inRange {zone after maximum : Nat} {kinds states : Byte} (s : State)
    (h : findInRange zone after maximum kinds states) :
    serveFindBays zone kinds states after maximum s =
      if Table.has s.zones zone = true then
        serveOk ([byte (min maximum (s.matching zone kinds states after).length),
            flagByte (decide (maximum < (s.matching zone kinds states after).length))] ++
          ((s.matching zone kinds states after).take maximum).flatMap bytes2) s
      else refuse .noSuch s := by
  obtain ⟨hzone, hkinds, hstates, hafter, hmax⟩ := h
  unfold serveFindBays
  rw [need_pos (by simp [within, hzone, hkinds, hstates, hafter, hmax])]
  split
  · next hz => simp [hz]
  · next hz => simp [hz]

/-- Settles O1: the walks in closed form (`walk_up`, `walk_down`) and the matching bays (`mem_matching`), each
answered as a request that changes nothing. -/
theorem baysAreRead : Obligations.BaysAreRead := by
  refine ⟨fun h c s start count step ha hstart hc1 hc32 hs1 hs16 => ⟨?up, ?down⟩, ?found, ?undefined⟩
  case up =>
    refine ⟨_, exec_readBays .., ?_⟩
    dsimp only
    rw [← walk_up]
    exact State.arrive_unchanged ha _ (serveReadBays_ok _ hstart ⟨hc1, hc32⟩ (by omega) ⟨hs1, hs16⟩)
  case down =>
    refine ⟨_, exec_readBays .., ?_⟩
    dsimp only
    rw [← walk_down step count start (by omega)]
    exact State.arrive_unchanged ha _ (serveReadBays_ok _ hstart ⟨hc1, hc32⟩ (by omega) ⟨hs1, hs16⟩)
  case found =>
    intro h c s zone after maximum kinds states ha hs hzone hdef hkinds hstates hafter hm1 hm32
    refine ⟨_, s.matching zone kinds states after, exec_findBays .., State.matching_rising hs ..,
      fun n => State.mem_matching hs .., ?_⟩
    exact State.arrive_unchanged ha _
      ((serveFindBays_inRange _ ⟨hzone, hkinds, hstates, hafter, hm1, hm32⟩).trans (if_pos hdef))
  case undefined =>
    intro h c s zone after maximum kinds states ha hzone hundef hkinds hstates hafter hm1 hm32
    refine ⟨_, exec_findBays .., State.arrive_unchanged ha _
      ((serveFindBays_inRange _ ⟨hzone, hkinds, hstates, hafter, hm1, hm32⟩).trans (if_neg ?_))⟩
    simpa using hundef

/-! ### The counts of a zone follow its bays (R28 to R30) -/

theorem Tallies.get_change (t : Tallies) (st st' : BayState) (f : Nat → Nat) :
    (t.change st f).get st' = if st = st' then f (t.get st') else t.get st' := by
  cases st <;> cases st' <;> rfl

theorem FreeCounts.get_change (t : FreeCounts) (k k' : Kind) (f : Nat → Nat) :
    (t.change k f).get k' = if k = k' then f (t.get k') else t.get k' := by
  cases k <;> cases k' <;> rfl

/-- A change of one tally moves the sum by as much. -/
theorem Tallies.sum_change (t : Tallies) (st : BayState) (f : Nat → Nat) :
    (t.change st f).sum + t.get st = t.sum + f (t.get st) := by
  cases st <;> simp only [Tallies.change, Tallies.sum, Tallies.get] <;> omega

/-- R30: a bay counted in as it enters the table. -/
theorem Zone.countIn_sound {bays : Table Bay} {n : Nat} (hn : Table.get bays n = none) {b : Bay} {z : Zone}
    (h : z.countsSound bays b.zone) : (z.countIn b).countsSound (Table.set bays n b) b.zone := by
  obtain ⟨htally, hfree, htotal, hsum⟩ := h
  refine ⟨fun st => ?_, fun k => ?_, ?_, ?_⟩
  · rw [Table.countOf_set_new hn, ← htally]
    by_cases hst : b.state = st <;> simp [Zone.countIn, Tallies.get_change, hst]
  · rw [Table.countOf_set_new hn, ← hfree]
    cases hb : b.isFree
    · simp [Zone.countIn, hb]
    · by_cases hk : b.kind = k <;> simp [Zone.countIn, hb, FreeCounts.get_change, hk]
  · rw [Table.countOf_set_new hn, ← htotal]
    simp [Zone.countIn]
  · have := z.tallies.sum_change b.state (fun n => n + 1)
    simp only [Zone.countIn]
    omega

/-- R30: a bay counted out as it leaves the table. -/
theorem Zone.countOut_sound {bays : Table Bay} {n : Nat} {b : Bay} (hn : Table.get bays n = some b) {z : Zone}
    (h : z.countsSound bays b.zone) : (z.countOut b).countsSound (Table.erase bays n) b.zone := by
  obtain ⟨htally, hfree, htotal, hsum⟩ := h
  have hin := Table.countOf_erase hn (fun _ c => decide (c.zone = b.zone) && decide (c.state = b.state))
  refine ⟨fun st => ?_, fun k => ?_, ?_, ?_⟩
  · have := Table.countOf_erase hn (fun _ c => decide (c.zone = b.zone) && decide (c.state = st))
    rw [← htally] at this
    by_cases hst : b.state = st <;> simp [Zone.countOut, Tallies.get_change, hst] at this ⊢ <;> omega
  · have := Table.countOf_erase hn
      (fun _ c => decide (c.zone = b.zone) && decide (c.kind = k) && c.isFree)
    rw [← hfree] at this
    cases hb : b.isFree
    · simp [Zone.countOut, hb] at this ⊢; omega
    · by_cases hk : b.kind = k <;> simp [Zone.countOut, hb, FreeCounts.get_change, hk] at this ⊢ <;> omega
  · have := Table.countOf_erase hn (fun _ c => decide (c.zone = b.zone))
    rw [← htotal] at this
    simp [Zone.countOut] at this ⊢; omega
  · have := z.tallies.sum_change b.state (fun n => n - 1)
    rw [← htally] at hin
    simp [Zone.countOut] at hin this ⊢
    omega

/-- R30: a bay of another zone that enters or leaves the table moves no count. -/
theorem Zone.countsSound_set_other {bays : Table Bay} {n k : Nat} (hn : Table.get bays n = none) {b : Bay}
    (hk : b.zone ≠ k) {z : Zone} (h : z.countsSound bays k) : z.countsSound (Table.set bays n b) k := by
  simpa [Zone.countsSound, Table.countOf_set_new hn, hk] using h

theorem Zone.countsSound_erase_other {bays : Table Bay} {n k : Nat} {b : Bay} (hn : Table.get bays n = some b)
    (hk : b.zone ≠ k) {z : Zone} (h : z.countsSound bays k) : z.countsSound (Table.erase bays n) k := by
  have same : ∀ p : Bay → Bool, Table.countOf (Table.erase bays n) (fun _ c => decide (c.zone = k) && p c) =
      Table.countOf bays (fun _ c => decide (c.zone = k) && p c) := fun p => by
    simpa [hk] using Table.countOf_erase hn (fun _ c => decide (c.zone = k) && p c)
  have all := same (fun _ => true)
  simp only [Bool.and_true] at all
  simpa only [Zone.countsSound, Bool.and_assoc, same, all] using h

/-- R30: a bay that takes new values within its zone, as one adjustment. -/
theorem Zone.countsSound_replace {bays : Table Bay} (hw : (Table.keys bays).Pairwise (· < ·)) {n : Nat} {b b' : Bay}
    (hn : Table.get bays n = some b) (hz : b'.zone = b.zone) {z : Zone} (h : z.countsSound bays b.zone) :
    ((z.countOut b).countIn b').countsSound (Table.set bays n b') b.zone := by
  rw [← Table.set_erase hw hn, ← hz]
  exact Zone.countIn_sound (Table.get_erase_self hw n) (hz ▸ Zone.countOut_sound hn h)

theorem Zone.countsSound_replace_other {bays : Table Bay} (hw : (Table.keys bays).Pairwise (· < ·)) {n k : Nat}
    {b b' : Bay} (hn : Table.get bays n = some b) (hk : b.zone ≠ k) (hk' : b'.zone ≠ k) {z : Zone}
    (h : z.countsSound bays k) : z.countsSound (Table.set bays n b') k := by
  rw [← Table.set_erase hw hn]
  exact Zone.countsSound_set_other (Table.get_erase_self hw n) hk' (Zone.countsSound_erase_other hn hk h)

/-! ### The signs follow the zones (R39, R119 to R122) -/

/-- What a sign sees of a zone: its free counts, its fill state and its closure causes. -/
def Zone.shown (z : Zone) : FreeCounts × Fill × Causes := (z.free, z.fill, z.causes)

/-- Two states show a sign the same of the zones of a set. -/
theorem State.zoneRecords_shown {s t : State} {m : ZoneSet}
    (h : ∀ k, m.getLsbD k = true → (Table.get t.zones k).map Zone.shown = (Table.get s.zones k).map Zone.shown) :
    (t.zoneRecords m).map Zone.shown = (s.zoneRecords m).map Zone.shown := by
  simp only [State.zoneRecords, List.map_filterMap]
  refine List.filterMap_congr fun k hk => h k ?_
  simpa using (List.mem_filter.1 hk).2

/-- The count part reads what the zones show, and nothing else (R119, R120). -/
theorem State.countPart_congr {s t : State} {d : SignDef}
    (h : (t.zoneRecords d.countZones).map Zone.shown = (s.zoneRecords d.countZones).map Zone.shown) :
    t.countPart d = s.countPart d := by
  have closed : ∀ zs : List Zone, zs.all Zone.closed = (zs.map Zone.shown).all (fun v => v.2.2.any) := fun zs => by
    simp only [List.all_map]; rfl
  have count : ∀ zs : List Zone, (zs.filter (fun z => !z.closed)).map (fun z => z.free.ofKinds d.countKinds) =
      ((zs.map Zone.shown).filter (fun v => !v.2.2.any)).map (fun v => v.1.ofKinds d.countKinds) := fun zs => by
    simp only [List.filter_map, List.map_map]; rfl
  simp only [State.countPart, closed, count, h]

/-- So does a term of the arrow part (R121). -/
theorem State.termTrue_congr {s t : State} {m : ZoneSet}
    (h : (t.zoneRecords m).map Zone.shown = (s.zoneRecords m).map Zone.shown) : t.termTrue m = s.termTrue m := by
  have term : ∀ zs : List Zone, zs.any (fun z => decide (z.fill = Fill.hasRoom) && !z.closed) =
      (zs.map Zone.shown).any (fun v => decide (v.2.1 = Fill.hasRoom) && !v.2.2.any) := fun zs => by
    simp only [List.any_map]; rfl
  simp only [State.termTrue, term, h]

/-- A definition has one content in two states that agree on fire mode and on what the zones it depends on
show. -/
theorem State.contentOf_congr {s t : State} {d : SignDef} (hfire : t.fire = s.fire)
    (h : ∀ k, d.dependsOn k = true → (Table.get t.zones k).map Zone.shown = (Table.get s.zones k).map Zone.shown) :
    t.contentOf d = s.contentOf d := by
  have part : ∀ m : ZoneSet, (∀ k, m.getLsbD k = true → d.dependsOn k = true) →
      (t.zoneRecords m).map Zone.shown = (s.zoneRecords m).map Zone.shown :=
    fun m hm => State.zoneRecords_shown fun k hk => h k (hm k hk)
  have hcount := State.countPart_congr (part d.countZones (fun k hk => by simp [SignDef.dependsOn, hk]))
  have hA := State.termTrue_congr (part d.termA (fun k hk => by simp [SignDef.dependsOn, hk]))
  have hB := State.termTrue_congr (part d.termB (fun k hk => by simp [SignDef.dependsOn, hk]))
  have harrow : t.arrowPart d = s.arrowPart d := by unfold State.arrowPart; rw [hA, hB]
  have hactive : t.fireActive = s.fireActive := congrArg FireMonitor.taken hfire
  unfold State.contentOf
  rw [hactive, hcount, harrow]

/-- A sign stands sound in a state that shows it the same. -/
theorem Sign.soundIn.congr {s t : State} {g : Sign} (hg : g.soundIn s) (hfire : t.fire = s.fire)
    (h : ∀ k, g.config.dependsOn k = true →
      (Table.get t.zones k).map Zone.shown = (Table.get s.zones k).map Zone.shown) : g.soundIn t :=
  ⟨hg.1.trans (State.contentOf_congr hfire h).symm, hg.2⟩

/-- R122, R123: a recomputed sign is current, and dirty as its accepted content says. -/
theorem State.recomputed_soundIn {s : State} (t : State) {g : Sign} (hg : g.soundIn s) :
    (t.recomputed g).soundIn t := by
  unfold State.recomputed
  dsimp only
  split
  · next h => exact ⟨h.symm, hg.2⟩
  · exact ⟨rfl, by simp [Sign.judged]⟩

/-! ### Counts and signs after a bay change (R30 to R32, R39) -/

/-- The record that an adjustment by `f` leaves: the fill state judged where the guidance free count is new (R31,
R32). -/
def Zone.adjusted (f : Zone → Zone) (z : Zone) : Zone :=
  if (f z).free.guidance = z.free.guidance then f z else (f z).judged

theorem State.adjustZone_defined {s : State} {zone : Nat} {z : Zone} (hz : Table.get s.zones zone = some z)
    (f : Zone → Zone) : s.adjustZone zone f =
      if (z.adjusted f).free = z.free ∧ (z.adjusted f).fill = z.fill
      then s.withZones (Table.set s.zones zone (z.adjusted f))
      else (s.withZones (Table.set s.zones zone (z.adjusted f))).markSigns zone := by
  simp only [State.adjustZone, hz]; rfl

theorem State.adjustZone_undefined {s : State} {zone : Nat} (hz : Table.get s.zones zone = none) (f : Zone → Zone) :
    s.adjustZone zone f = s := by
  simp only [State.adjustZone, hz]

/-- Of the zones an adjustment changes its own alone. -/
theorem State.adjustZone_zones (s : State) (zone : Nat) (f : Zone → Zone) :
    (s.adjustZone zone f).zones = Table.modify s.zones zone (Zone.adjusted f) := by
  unfold Table.modify
  cases hz : Table.get s.zones zone with
  | none => rw [State.adjustZone_undefined hz]
  | some z => rw [State.adjustZone_defined hz]; split <;> rfl

/-- R39: an adjustment that changes what the zone shows marks its signs, and no other does. -/
theorem State.adjustZone_signs {s : State} {zone : Nat} {z : Zone} (hz : Table.get s.zones zone = some z)
    (f : Zone → Zone) :
    s.signsMarked (s.adjustZone zone f) zone
      (decide ¬((z.adjusted f).free = z.free ∧ (z.adjusted f).fill = z.fill)) := by
  intro n
  rw [State.adjustZone_defined hz]
  split
  · next h => simp [h]
  · next h => simp only [State.markSigns_get, h, not_false_eq_true, decide_true, Bool.true_and]; rfl

/-- What counting a bay in or out leaves of a zone's record (R30). -/
def countsOnly (f : Zone → Zone) : Prop :=
  ∀ z, f z = { z with tallies := (f z).tallies, total := (f z).total, free := (f z).free }

theorem Zone.adjusted_causes {f : Zone → Zone} (hf : countsOnly f) (z : Zone) :
    (z.adjusted f).causes = z.causes := by
  unfold Zone.adjusted
  split
  · rw [hf]
  · rw [Zone.judged, hf]

/-- R31, R32: the fill state an adjustment leaves. -/
theorem Zone.adjusted_fill {f : Zone → Zone} (hf : countsOnly f) (z : Zone) :
    (z.adjusted f).fill = if (z.adjusted f).free.guidance = z.free.guidance then z.fill
      else judgeFill z.fill (z.adjusted f).free.guidance z.settings.fullAt z.settings.hysteresis := by
  unfold Zone.adjusted
  split
  · rw [hf]
  · next h =>
    rw [if_neg (show ¬(f z).judged.free.guidance = z.free.guidance from h), Zone.judged, hf]

/-- The counts of an adjusted record are those the adjustment gave. -/
theorem Zone.adjusted_countsSound {f : Zone → Zone} {bays : Table Bay} {zone : Nat} {z : Zone} :
    (z.adjusted f).countsSound bays zone ↔ (f z).countsSound bays zone := by
  unfold Zone.adjusted
  split <;> rfl

theorem State.recounted.refl (s : State) : s.recounted s :=
  ⟨fun k z z' h h' => by obtain rfl : z = z' := Option.some.inj (h.symm.trans h'); simp,
   fun n g g' h h' hg => by obtain rfl : g = g' := Option.some.inj (h.symm.trans h'); exact hg⟩

/-- A state with the same bays, zones, signs and fire monitor has followed too. -/
theorem State.recounted.congr {s t u : State} (h : s.recounted t) (hbays : u.bays = t.bays)
    (hzones : u.zones = t.zones) (hsigns : u.signs = t.signs) (hfire : u.fire = t.fire) : s.recounted u := by
  obtain ⟨hcounts, hshown⟩ := h
  refine ⟨fun k z z' hz hz' => ?_, fun n g g' hg hg' hs => ?_⟩
  · rw [hbays]; exact hcounts k z z' hz (hzones ▸ hz')
  · exact (hshown n g g' hg (hsigns ▸ hg') hs).congr hfire (fun k _ => by rw [hzones])

/-- R39, R122: an adjustment leaves every sign that was current current. -/
theorem State.adjustZone_soundIn {s : State} {zone : Nat} {f : Zone → Zone} (hf : countsOnly f) {n : Nat}
    {g g' : Sign} (hg : Table.get s.signs n = some g) (hg' : Table.get (s.adjustZone zone f).signs n = some g')
    (hs : g.soundIn s) : g'.soundIn (s.adjustZone zone f) := by
  have hfire : (s.adjustZone zone f).fire = s.fire := s.adjustZone_keeps zone f .fire (by simp)
  have hother : ∀ k, k ≠ zone → Table.get (s.adjustZone zone f).zones k = Table.get s.zones k := fun k hk => by
    rw [State.adjustZone_zones, Table.get_modify_ne _ _ hk]
  cases hz : Table.get s.zones zone with
  | none =>
    rw [State.adjustZone_undefined hz] at hg' ⊢
    exact Option.some.inj (hg.symm.trans hg') ▸ hs
  | some z =>
    have hz' : Table.get (s.adjustZone zone f).zones zone = some (z.adjusted f) := by
      rw [State.adjustZone_zones, Table.get_modify, hz]; rfl
    rw [State.adjustZone_signs hz f n, hg, Option.map_some, Option.some.injEq] at hg'
    subst hg'
    split
    · exact State.recomputed_soundIn _ hs
    · next hmark =>
      refine hs.congr hfire fun k hk => ?_
      by_cases hkz : k = zone
      · subst hkz
        simp only [hk, Bool.and_true, decide_eq_true_eq, not_not] at hmark
        simp [hz, hz', Zone.shown, hmark, Zone.adjusted_causes hf]
      · rw [hother k hkz]

/-- R30 to R32, R39: after the bays of one zone have changed, its adjustment makes the counts and the signs
follow, given that it counts that change. -/
theorem State.adjustZone_recounted {s : State} {bays : Table Bay} {zone : Nat} {f : Zone → Zone} (hf : countsOnly f)
    (hzone : s.tablesSound → ∀ z : Zone, z.countsSound s.bays zone → (f z).countsSound bays zone)
    (hother : s.tablesSound → ∀ (k : Nat) (z : Zone), k ≠ zone →
      z.countsSound s.bays k → z.countsSound bays k) :
    s.recounted ((s.withBays bays).adjustZone zone f) := by
  refine ⟨fun k z z' hz hz' => ?_, fun n g g' hg hg' hs => ?_⟩
  · have hbays : ((s.withBays bays).adjustZone zone f).bays = bays :=
      State.adjustZone_keeps _ zone f .bays (by simp)
    rw [hbays]
    rw [State.adjustZone_zones] at hz'
    by_cases hk : k = zone
    · subst hk
      rw [Table.get_modify, State.withBays_zones, hz, Option.map_some, Option.some.injEq] at hz'
      subst hz'
      exact ⟨fun hw hc => Zone.adjusted_countsSound.2 (hzone hw z hc), Zone.adjusted_fill hf z⟩
    · rw [Table.get_modify_ne _ _ hk, State.withBays_zones, hz, Option.some.injEq] at hz'
      subst hz'
      exact ⟨fun hw => hother hw k z hk, by simp⟩
  · exact State.adjustZone_soundIn hf hg hg' (hs.congr (s := s) rfl fun _ _ => rfl)

/-- R2, R30: a bay that takes new values within its zone takes the counts and the signs with it. -/
theorem State.putBay_recounted {s : State} {bay : Nat} {old b : Bay} (h : Table.get s.bays bay = some old)
    (hz : b.zone = old.zone) : s.recounted (s.putBay bay b) := by
  have hstamp : (Bay.stamped s.seconds old b).zone = old.zone := by
    unfold Bay.stamped; split <;> exact hz
  unfold State.putBay
  simp only [h]
  split
  · exact .refl s
  · have hrec : s.recounted ((s.withBays (Table.set s.bays bay (Bay.stamped s.seconds old b))).recount (some old)
        (some (Bay.stamped s.seconds old b))) := by
      simp only [State.recount, hstamp, if_true]
      refine State.adjustZone_recounted (fun _ => rfl) (fun hw z hc => ?_) (fun hw k z hk hc => ?_)
      · exact Zone.countsSound_replace hw.baysRise h hstamp hc
      · exact Zone.countsSound_replace_other hw.baysRise h hk.symm (hstamp ▸ hk.symm) hc
    split
    · exact hrec.congr rfl rfl rfl rfl
    · exact hrec

/-! ### Items raised over a bay change (R187) -/

/-- The same item raised on both sides of a change that leaves the ports alone. -/
theorem State.keepsBut.raise {s t : State} {l : List Field} (h : s.keepsBut t l)
    (hl : ∀ p, ∀ f ∈ portParts p, f ∉ l) (c : AttClass) (o : Nat) (r : Reason) :
    (s.raise c o r).keepsBut (t.raise c o r) l := by
  have hport : ∀ p, (t.raise c o r).port p = (s.raise c o r).port p := fun p => by simp [h.port (hl p)]
  intro f hf
  cases f with
  | link p => simp only [Field.same, hport]
  | places p => simp only [Field.same, hport]
  | enables p => simp only [Field.same, hport]
  | items p => simp only [Field.same, hport]
  | span i => exact h (.span i) hf
  | _ => exact h _ hf

/-- A BAY item is entered among the BAY items of both sets. -/
theorem State.raise_bayItems (s : State) (o : Nat) (r : Reason) (p : Port) :
    ((s.raise .bay o r).port p).att.bay = Table.set (s.port p).att.bay o r := by
  rw [State.raise_port]; rfl

/-- A bay change raises no item of another bay (R2). -/
theorem State.watched_bayItems_ne (s : State) {bay n : Nat} (old b : Bay) (p : Port) (hn : n ≠ bay) :
    Table.get ((s.watched bay old b).port p).att.bay n = Table.get (s.port p).att.bay n := by
  unfold State.watched
  split
  · rw [State.raise_bayItems, Table.get_set_ne _ _ hn]
  · rfl

/-! ### RESERVATION_EXPIRY (R17) -/

/-- An expiry is due in the second it names (R192). -/
theorem dueNow_self (now : Seconds) : dueNow now (some now) = true := by simp [dueNow, reached]

theorem exec_reservationExpiry (bay : Nat) (s : State) :
    exec (.reservationExpiry bay) s = .next (s.expireReservation bay) := rfl

/-- R2, R16: the record a bay has once its reservation is gone. -/
theorem Bay.stamped_unreserved (now : Seconds) (b : Bay) : Bay.stamped now b b.unreserved =
    { b with
      state := if b.state = .reserved then .free else b.state
      reservation := none
      since := if b.state = .reserved then now else b.since } := by
  by_cases h : b.state = .reserved <;> simp [Bay.stamped, Bay.unreserved, h]

/-- R17: an expiry that is due removes the reservation and raises its item. -/
theorem State.expireReservation_due {s : State} {bay : Nat} {b : Bay} {r : Reservation}
    (hb : Table.get s.bays bay = some b) (hr : b.reservation = some r) (hdue : r.expiry = s.seconds) :
    s.expireReservation bay = (s.putBay bay b.unreserved).raise .bay bay .reservationExpired := by
  simp [State.expireReservation, hb, hr, hdue, dueNow_self]

/-- R17: a bay without a reservation has none to lose. -/
theorem State.expireReservation_none {s : State} {bay : Nat} {b : Bay} (hb : Table.get s.bays bay = some b)
    (hr : b.reservation = none) : s.expireReservation bay = s := by
  simp [State.expireReservation, hb, hr, dueNow]

/-- Settles O6: the expiry is a bay change (`putBay_spec`, `putBay_recounted`) with one more item raised after
it. -/
theorem reservationExpires : Obligations.ReservationExpires := by
  intro s bay b r hb
  refine ⟨fun hr hdue => ?_, fun hr => by rw [exec_reservationExpiry, State.expireReservation_none hb hr]⟩
  obtain ⟨hbay, hothers, honly, hkeep⟩ := State.putBay_spec hb b.unreserved
  have hrec := State.putBay_recounted hb (show b.unreserved.zone = b.zone from rfl)
  have hraised := hkeep.raise (fun p => by simp) .bay bay .reservationExpired
  refine ⟨_, (exec_reservationExpiry bay s).trans (congrArg _ (State.expireReservation_due hb hr hdue)), ?_,
    hothers, fun p => ⟨?_, fun n hn => ?_⟩, (honly rfl).congr rfl rfl rfl rfl, hrec.congr rfl rfl rfl rfl, hraised⟩
  · rw [← Bay.stamped_unreserved]; exact hbay
  · rw [State.raise_bayItems, Table.get_set]
  · rw [State.raise_bayItems, Table.get_set_ne _ _ hn, hkeep.port (p := p) (by simp),
      State.watched_bayItems_ne _ _ _ _ hn]

end Sys2Proof.Machine

/-! ## Proofs: the air evaluation (spec/03) -/

namespace Sys2Proof.Machine

/-! ### The average of one gas (R56) -/

/-- R56: the step over the signed distance `d`, whose size `avgStep` gives (`signedStep_natCast`,
`signedStep_neg`). -/
def signedStep (w : Nat) (d : Int) : Int := if d ≠ 0 ∧ d.tdiv (2 ^ w) = 0 then d.sign else d.tdiv (2 ^ w)

theorem signedStep_natCast (w d : Nat) : signedStep w d = avgStep w d := by
  have hdiv : (d : Int).tdiv (2 ^ w) = (d / 2 ^ w : Nat) := by
    rw [Int.tdiv_eq_ediv_of_nonneg (Int.natCast_nonneg d)]; push_cast; rfl
  simp only [signedStep, avgStep, hdiv, Nat.cast_eq_zero, ne_eq]
  split
  · next h => exact Int.sign_natCast_of_ne_zero h.1
  · rfl

/-- The fraction is dropped on both sides alike, toward 0. -/
theorem signedStep_neg (w : Nat) (d : Int) : signedStep w (-d) = -signedStep w d := by
  simp only [signedStep, Int.neg_tdiv, Int.sign_neg, ne_eq, neg_eq_zero]
  split <;> rfl

/-- An average off its sample always moves. -/
theorem signedStep_ne_zero {w : Nat} {d : Int} (hd : d ≠ 0) : signedStep w d ≠ 0 := by
  unfold signedStep
  split
  · exact mt Int.sign_eq_zero_iff_zero.1 hd
  · next h => exact fun hstep => h ⟨hd, hstep⟩

/-- The step stays within the distance. -/
theorem avgStep_le (w d : Nat) : avgStep w d ≤ d := by
  unfold avgStep
  split
  · next h => exact Nat.one_le_iff_ne_zero.2 h.1
  · exact Nat.div_le_self _ _

theorem updateAvg_below (w : Nat) {a : Nat} {p : Peak} (h : a ≤ 16 * p.value) :
    updateAvg w (some p) (some a) = some (a + avgStep w (16 * p.value - a)) := if_pos h

theorem updateAvg_above (w : Nat) {a : Nat} {p : Peak} (h : 16 * p.value < a) :
    updateAvg w (some p) (some a) = some (a - avgStep w (a - 16 * p.value)) := if_neg (Nat.not_le.2 h)

/-- A present average moves by the signed step and stays between where it was and its sample. -/
theorem updateAvg_moves (w a : Nat) (p : Peak) :
    ∃ b : Nat, updateAvg w (some p) (some a) = some b ∧
      (b : Int) = a + signedStep w (16 * (p.value : Int) - a) ∧
      min a (16 * p.value) ≤ b ∧ b ≤ max a (16 * p.value) := by
  rcases Nat.lt_or_ge (16 * p.value) a with h | h
  · have hd : 16 * (p.value : Int) - a = -(a - 16 * p.value : Nat) := by omega
    have hle := avgStep_le w (a - 16 * p.value)
    refine ⟨_, updateAvg_above w h, ?_, by omega, by omega⟩
    rw [hd, signedStep_neg, signedStep_natCast]
    omega
  · have hd : 16 * (p.value : Int) - a = (16 * p.value - a : Nat) := by omega
    have hle := avgStep_le w (16 * p.value - a)
    refine ⟨_, updateAvg_below w h, ?_, by omega, by omega⟩
    rw [hd, signedStep_natCast, Nat.cast_add]

/-- Under a steady sample the average reaches it: each update that does not start there brings it nearer. -/
theorem updateAvg_reaches (w a : Nat) (p : Peak) :
    ∃ n, (updateAvg w (some p))^[n] (some a) = some (16 * p.value) := by
  induction hdist : (16 * (p.value : Int) - a).natAbs using Nat.strong_induction_on generalizing a with
  | _ dist ih =>
    by_cases ha : a = 16 * p.value
    · exact ⟨0, congrArg some ha⟩
    · obtain ⟨b, hb, hstep, hmin, hmax⟩ := updateAvg_moves w a p
      have hne : signedStep w (16 * (p.value : Int) - a) ≠ 0 := signedStep_ne_zero (by omega)
      have hcloser : (16 * (p.value : Int) - b).natAbs < dist := by omega
      obtain ⟨n, hn⟩ := ih _ hcloser b rfl
      exact ⟨n + 1, by rw [Function.iterate_succ_apply, hb, hn]⟩

/-- Settles O20: one update by `updateAvg_moves`, the steady sample by `updateAvg_reaches`; both hold at every
weight. -/
theorem averageFollowsSample : Obligations.AverageFollowsSample := by
  refine ⟨fun w p a => ⟨by cases a <;> rfl, rfl⟩, fun w a p _ => ⟨updateAvg_moves w a p, updateAvg_reaches w a p⟩,
    fun st co no2 a => ⟨rfl, rfl⟩⟩

end Sys2Proof.Machine

/-! ## Proofs: the signs (spec/06) -/

namespace Sys2Proof.Machine

/-! ### The zones a sign counts (R119 to R121) -/

theorem Zone.closed_eq_false {z : Zone} :
    z.closed = false ↔ z.causes = { operator := false, fume := false, air := false, fire := false } := by
  rw [Zone.closed]
  cases z.causes
  simp [Causes.any, and_assoc]

theorem State.mem_zoneRecords {s : State} {m : ZoneSet} {z : Zone} :
    z ∈ s.zoneRecords m ↔ ∃ k, m.getLsbD k = true ∧ Table.get s.zones k = some z := by
  have inRange : ∀ k, m.getLsbD k = true → k < 32 := fun k => BitVec.lt_of_getLsbD
  simp only [State.zoneRecords, zonesIn, List.mem_filterMap, List.mem_filter, List.mem_range]
  exact exists_congr fun k => and_congr_left fun _ => and_iff_right_of_imp (inRange k)

/-- Zone `k` is defined, in the set, and its closure set is empty. -/
def State.openIn (s : State) (m : ZoneSet) (k : Nat) (z : Zone) : Prop :=
  m.getLsbD k = true ∧ Table.get s.zones k = some z ∧
    z.causes = { operator := false, fume := false, air := false, fire := false }

theorem State.exists_openIn {s : State} {m : ZoneSet} {p : Zone → Prop} :
    (∃ k z, s.openIn m k z ∧ p z) ↔ ∃ z ∈ s.zoneRecords m, z.closed = false ∧ p z := by
  simp only [State.openIn, State.mem_zoneRecords, Zone.closed_eq_false]
  constructor
  · rintro ⟨k, z, ⟨hm, hz, hc⟩, hp⟩
    exact ⟨z, ⟨k, hm, hz⟩, hc, hp⟩
  · rintro ⟨z, ⟨k, hm, hz⟩, hc, hp⟩
    exact ⟨k, z, ⟨hm, hz, hc⟩, hp⟩

/-- R119: every zone of a set is closed when none is open. -/
theorem State.all_closed_iff {s : State} {m : ZoneSet} :
    (s.zoneRecords m).all Zone.closed = true ↔ ¬∃ k z, s.openIn m k z := by
  have h := State.exists_openIn (s := s) (m := m) (p := fun _ => True)
  simp only [and_true] at h
  simp [h]

/-- R121: a term is true when some zone of its mask is OPEN with an empty closure set. -/
theorem State.termTrue_iff {s : State} {m : ZoneSet} :
    s.termTrue m = true ↔ ∃ k z, s.openIn m k z ∧ z.fill = .hasRoom := by
  rw [State.exists_openIn]
  simp [State.termTrue, and_comm]

/-! ### The number of free bays (R119) -/

/-- The counted free bays of the count zones that are not closed. -/
def State.openFree (s : State) (d : SignDef) : Nat :=
  (((s.zoneRecords d.countZones).filter (fun z => !z.closed)).map (fun z => z.free.ofKinds d.countKinds)).sum

/-- What zone number `k` adds to a sign's count. -/
def State.openFreeOf (s : State) (d : SignDef) (k : Nat) : Nat :=
  (Table.get s.zones k).elim 0 fun z =>
    if d.countZones.getLsbD k = true ∧ z.closed = false then z.free.ofKinds d.countKinds else 0

theorem State.openFree_eq (s : State) (d : SignDef) :
    s.openFree d = ((List.range 32).map (s.openFreeOf d)).sum := by
  unfold State.openFree State.zoneRecords zonesIn
  induction List.range 32 with
  | nil => rfl
  | cons k ks ih =>
    rw [List.map_cons, List.sum_cons, ← ih]
    cases hm : d.countZones.getLsbD k with
    | false => cases hz : Table.get s.zones k <;> simp [State.openFreeOf, hm, hz]
    | true =>
      cases hz : Table.get s.zones k with
      | none => simp [State.openFreeOf, hm, hz]
      | some z => cases hc : z.closed <;> simp [State.openFreeOf, hm, hz, hc]

/-! ### The number in its digit positions (R120) -/

theorem Content.number_capped {n : Nat} (h : 999 < n) : Content.number n = Content.number 999 := by
  simp [Content.number, h]

theorem Content.number_three {n : Nat} (h : 100 ≤ n) (h' : n ≤ 999) :
    Content.number n = { Content.blank with
      hundreds := some (n / 100), tens := some (n / 10 % 10), units := some (n % 10) } := by
  simp [Content.number, Content.blank, show ¬999 < n by omega, show ¬n < 100 by omega, show ¬n < 10 by omega]

theorem Content.number_two {n : Nat} (h : 10 ≤ n) (h' : n ≤ 99) :
    Content.number n = { Content.blank with tens := some (n / 10), units := some (n % 10) } := by
  simp [Content.number, Content.blank, show ¬999 < n by omega, show n < 100 by omega, show ¬n < 10 by omega]
  omega

theorem Content.number_one {n : Nat} (h : n ≤ 9) :
    Content.number n = { Content.blank with units := some n } := by
  simp [Content.number, Content.blank, show ¬999 < n by omega, show n < 100 by omega, show n < 10 by omega]

/-! ### The parts of a content (R117, R119, R121) -/

theorem SignKind.showsCount_eq (k : SignKind) : k.showsCount = decide (k ≠ .arrow) := by cases k <;> rfl

theorem SignKind.showsArrow_eq (k : SignKind) : k.showsArrow = decide (k ≠ .count) := by cases k <;> rfl

section CountPart

variable {s : State} {d : SignDef}

theorem State.countPart_none (hk : d.kind.showsCount = false) : s.countPart d = Content.blank := by
  simp [State.countPart, hk]

theorem State.countPart_closed (hk : d.kind.showsCount = true) (h : ¬∃ k z, s.openIn d.countZones k z) :
    s.countPart d = { Content.blank with word := .closed } := by
  simp only [State.countPart, hk, State.all_closed_iff.2 h, Bool.not_true, Bool.false_eq_true, if_false, if_true]

theorem State.countPart_open (hk : d.kind.showsCount = true) (h : ∃ k z, s.openIn d.countZones k z) :
    s.countPart d = if s.openFree d ≤ d.fullAt then { Content.blank with word := .full }
      else Content.number (s.openFree d) := by
  have hall : ¬(s.zoneRecords d.countZones).all Zone.closed = true := fun hc => State.all_closed_iff.1 hc h
  simp only [State.countPart, hk, hall, Bool.not_true, Bool.false_eq_true, if_false]
  rfl

end CountPart

theorem State.contentOf_fire {s : State} (h : s.fire.taken = true) (d : SignDef) :
    s.contentOf d = d.kind.fireContent := if_pos h

theorem State.contentOf_normal {s : State} (h : s.fire.taken = false) (d : SignDef) :
    s.contentOf d = { s.countPart d with arrow := s.arrowPart d } := if_neg (by simp [State.fireActive, h])

/-- R121: the outcome for the two terms. -/
theorem State.arrowPart_shown {s : State} {d : SignDef} (hk : d.kind.showsArrow = true) :
    s.arrowPart d = if s.termTrue d.termA then (if s.termTrue d.termB then d.out3 else d.out2)
      else (if s.termTrue d.termB then d.out1 else d.out0) := by
  cases hA : s.termTrue d.termA <;> cases hB : s.termTrue d.termB <;> simp [State.arrowPart, hk, hA, hB]

theorem State.arrowPart_none {s : State} {d : SignDef} (hk : d.kind.showsArrow = false) : s.arrowPart d = .dark := by
  simp [State.arrowPart, hk]

/-- Settles O23: the fire content, the arrow by `arrowPart_shown`, and the count part by `countPart_open`, its
number by the digits it needs. -/
theorem signShowsItsZones : Obligations.SignShowsItsZones := by
  intro s d count arrow openZone free n term c
  have hcount : d.kind.showsCount = count := d.kind.showsCount_eq
  have harrow : d.kind.showsArrow = arrow := d.kind.showsArrow_eq
  have holds : ∀ {m}, term m → s.termTrue m = true := State.termTrue_iff.2
  have fails : ∀ {m}, ¬term m → ¬s.termTrue m = true := mt State.termTrue_iff.1
  have hn : s.openFree d = n := by
    rw [State.openFree_eq]
    refine congrArg List.sum (List.map_congr_left fun k _ => ?_)
    simp only [State.openFreeOf, Zone.closed_eq_false]
    cases Table.get s.zones k <;> rfl
  refine ⟨fun hfire => ?_, fun hfire => ?_⟩
  · rw [show c = _ from State.contentOf_fire hfire d, SignKind.fireContent, hcount, harrow]; rfl
  have hc : c = { s.countPart d with arrow := s.arrowPart d } := State.contentOf_normal hfire d
  refine ⟨fun ha => ?_, fun ha => ?_, fun hk => ?_,
    fun hk => ⟨fun hnone => ?_, fun hopen hle => ?_, fun hopen hlt => ?_⟩⟩
  · rw [hc]; exact State.arrowPart_none (harrow.trans ha)
  · rw [hc, State.arrowPart_shown (harrow.trans ha)]
    exact ⟨fun hA hB => by rw [if_pos (holds hA), if_pos (holds hB)],
      fun hA hB => by rw [if_pos (holds hA), if_neg (fails hB)],
      fun hA hB => by rw [if_neg (fails hA), if_pos (holds hB)],
      fun hA hB => by rw [if_neg (fails hA), if_neg (fails hB)]⟩
  · rw [hc, State.countPart_none (hcount.trans hk)]; exact ⟨rfl, rfl, rfl, rfl⟩
  · rw [hc, State.countPart_closed (hcount.trans hk) hnone]; exact ⟨rfl, rfl, rfl, rfl⟩
  · rw [hc, State.countPart_open (hcount.trans hk) hopen, hn, if_pos hle]; exact ⟨rfl, rfl, rfl, rfl⟩
  · rw [hc, State.countPart_open (hcount.trans hk) hopen, hn, if_neg (Nat.not_le.2 hlt)]
    refine ⟨rfl, fun h => ?_, fun h h' => ?_, fun h h' => ?_, fun h => ?_⟩
    · rw [Content.number_capped h]; exact ⟨rfl, rfl, rfl⟩
    · rw [Content.number_three h h']; exact ⟨_, _, _, rfl, rfl, rfl, by omega⟩
    · rw [Content.number_two h h']; exact ⟨_, _, rfl, rfl, rfl, by omega⟩
    · rw [Content.number_one h]; exact ⟨rfl, rfl, rfl⟩

end Sys2Proof.Machine

/-! ## Proofs: the attention lines (spec/10) -/

namespace Sys2Proof.Machine

/-! ### Changes that leave the lines judged (R189)

Every change of a port's items or enables judges its line anew, so a raise gives sound lines whatever stood
before, and a change that touches neither keeps them (`State.linesSound.frame`). -/

/-- A part of the state on which no attention line depends. -/
def Field.offLines : Field → Bool
  | .items _ => false
  | .enables _ => false
  | _ => true

/-- Two ports with the same enables and the same items part have the same set and line. -/
theorem PortState.att_attn_eq {a b : PortState} (he : a.att.enables = b.att.enables)
    (hi : a.itemsPart = b.itemsPart) : a.att = b.att ∧ a.attn = b.attn :=
  have ⟨hatt, hattn⟩ := Prod.mk.inj hi
  ⟨congrArg₂ (fun x e => ({ x with enables := e } : AttSet)) hatt he, hattn⟩

/-- A change that touches no items and no enables keeps the lines. -/
theorem State.linesSound.frame {s t : State} {l : List Field} (h : s.linesSound) (hk : s.keepsBut t l)
    (hl : l.all Field.offLines = true := by rfl) : t.linesSound := by
  intro p
  have untouched : ∀ f : Field, f.offLines = false → f ∉ l :=
    fun f hf hm => Bool.false_ne_true (hf.symm.trans (List.all_eq_true.1 hl f hm))
  obtain ⟨hatt, hattn⟩ :=
    PortState.att_attn_eq (hk (.enables p) (untouched _ rfl)) (hk (.items p) (untouched _ rfl))
  rw [hatt, hattn]
  exact h p

/-- A port may be replaced by one whose line is judged. -/
theorem State.linesSound.withPort {s : State} (h : s.linesSound) (p : Port) {v : PortState}
    (hv : v.attn = v.att.asserted) : (s.withPort p v).linesSound := by
  intro q
  by_cases hq : q = p
  · subst hq; rwa [State.withPort_port]
  · rw [State.withPort_port_ne s v hq]; exact h q

/-- R187, R189: a raise judges both lines. -/
theorem State.raise_linesSound (s : State) (c : AttClass) (o : Nat) (r : Reason) : (s.raise c o r).linesSound :=
  fun p => by rw [State.raise_port]; rfl

theorem State.linesSound.ite {s t : State} {b : Prop} [Decidable b] (hs : s.linesSound) (ht : t.linesSound) :
    (if b then s else t).linesSound := by
  split
  · exact hs
  · exact ht

theorem State.linesSound.raiseIf {s : State} (h : s.linesSound) (b : Prop) [Decidable b] (c : AttClass) (o : Nat)
    (r : Reason) : (if b then s.raise c o r else s).linesSound :=
  .ite (s.raise_linesSound c o r) h

theorem State.linesSound.forEach {f : Nat → State → State}
    (hf : ∀ n s, State.linesSound s → (f n s).linesSound) (ns : List Nat) {s : State} (h : s.linesSound) :
    (State.forEach f ns s).linesSound := by
  induction ns generalizing s with
  | nil => exact h
  | cons n ns ih => exact ih (hf n s h)

/-! ### Fan groups and the zones' air status (R70, R77 to R80, R84, R87 to R96) -/

theorem State.linesSound.judgeStatus {s : State} (h : s.linesSound) (zone : Nat) : (s.judgeStatus zone).linesSound := by
  unfold State.judgeStatus
  split
  · exact h
  · exact .ite h ((State.raise_linesSound _ _ _ _).frame (State.judgeAirCause_keeps _ _))

theorem State.linesSound.availabilityNotice {s : State} (h : s.linesSound) (m : ZoneSet) :
    (s.availabilityNotice m).linesSound :=
  .forEach (fun zone _ h => h.judgeStatus zone) _ h

theorem State.linesSound.changeFan {s : State} (h : s.linesSound) (group : Nat) (f : Fan → Fan) :
    (s.changeFan group f).linesSound :=
  h.frame (s.changeFan_keeps group f)

theorem State.linesSound.retarget {s : State} (h : s.linesSound) (group : Nat) : (s.retarget group).linesSound :=
  h.frame (s.retarget_keeps group)

theorem State.linesSound.leaveQueue {s : State} (h : s.linesSound) (group : Nat) :
    (s.leaveQueue group).linesSound :=
  h.frame (s.leaveQueue_keeps group)

theorem State.linesSound.enterFault {s : State} (h : s.linesSound) (group : Nat) (c : FaultCause) :
    (s.enterFault group c).linesSound := by
  unfold State.enterFault
  split
  · exact h
  · exact (State.raise_linesSound _ _ _ _).availabilityNotice _

theorem State.linesSound.judgeDrives {s : State} (h : s.linesSound) (group : Nat) :
    (s.judgeDrives group).linesSound := by
  unfold State.judgeDrives
  split
  · exact h
  · have h1 : ∀ b, (s.changeFan group (fun g => { g with degraded := b })).linesSound := fun _ => h.changeFan _ _
    exact .ite (h1 _) (.ite (.ite ((h1 _).enterFault _ _) (h1 _)) (.ite (h1 _) (State.raise_linesSound _ _ _ _)))

theorem State.linesSound.placeFire {s : State} (h : s.linesSound) (group : Nat) : (s.placeFire group).linesSound := by
  unfold State.placeFire
  split
  · exact h
  · next g _ =>
    have raised := fun f => (((h.changeFan group f).retarget group).raiseIf (Config.stackDepth ≤ g.stack.length)
      .fan group .displaced).raiseIf (g.state = .isolated) .fan group .isolatedInFire
    exact .ite ((raised _).frame (State.moveForward_keeps _ _)) (raised _)

theorem State.linesSound.driveAnswer {s : State} (h : s.linesSound) (node : Nat) (r : DriveReport) :
    (s.driveAnswer node r).linesSound := by
  unfold State.driveAnswer
  split
  · exact h
  · exact (h.changeFan _ _).judgeDrives _

theorem State.linesSound.driveLost {s : State} (h : s.linesSound) (node : Nat) : (s.driveLost node).linesSound := by
  unfold State.driveLost
  split
  · exact h
  · exact (h.changeFan _ _).judgeDrives _

theorem State.linesSound.driveRestored {s : State} (h : s.linesSound) (node : Nat) :
    (s.driveRestored node).linesSound := by
  unfold State.driveRestored
  split
  · exact h
  · exact h.judgeDrives _

theorem State.linesSound.isolate {s : State} (h : s.linesSound) (group : Nat) (g : Fan) :
    (s.isolate group g).linesSound :=
  have h1 := (h.changeFan group _).leaveQueue group
  .ite (h1.availabilityNotice _) h1

theorem State.linesSound.returnToService {s : State} (h : s.linesSound) (group : Nat) (g : Fan) :
    (s.returnToService group g).linesSound :=
  have h1 := (h.changeFan group _).judgeDrives group
  .ite (h1.availabilityNotice _) h1

theorem State.linesSound.control {s : State} (h : s.linesSound) (a : FanAction) (group : Nat) :
    (s.control a group).linesSound := by
  unfold State.control
  split
  · exact h
  · split
    · exact h
    · cases a with
      | isolate => exact h.isolate _ _
      | restore => exact h.returnToService _ _
      | clearFault => exact h.returnToService _ _

theorem State.linesSound.removeFan {s : State} (h : s.linesSound) (group : Nat) : (s.removeFan group).linesSound :=
  h.frame (s.removeFan_keeps group)

theorem State.linesSound.installFan {s : State} (h : s.linesSound) (group : Nat) (g : Fan) (m : ZoneSet) :
    (s.installFan group g m).linesSound :=
  have h1 := (h.removeFan group).frame (State.withFans_keeps _ _)
  (((State.linesSound.ite (h1.placeFire group) h1).retarget group).judgeDrives group).availabilityNotice m

theorem State.linesSound.changeFanWhole {s : State} (h : s.linesSound) (group : Nat) (g : Fan) (zones : ZoneSet)
    (drives : List Nat) (st : FanSettings) : (s.changeFanWhole group g zones drives st).linesSound :=
  have h1 := h.frame (s.withFans_keeps _)
  have h2 := State.linesSound.ite h1 (h1.retarget group)
  have h3 := State.linesSound.ite h2 (h2.judgeDrives group)
  .ite h3 (h3.availabilityNotice _)

/-- R87 to R89: of a fan step's actions judging the drives alone can raise an item. -/
theorem State.linesSound.stepAction {s : State} (h : s.linesSound) (group : Nat) (g : Fan) :
    (s.stepAction group g).linesSound := by
  unfold State.stepAction
  split
  · exact h
  · exact h
  · exact .ite (h.frame (s.joinQueue_keeps _)) h
  · exact .ite ((h.leaveQueue _).changeFan _ _) h
  · exact .ite ((h.changeFan _ _).judgeDrives _) (h.changeFan _ _)

theorem State.linesSound.stepGroup {s : State} (h : s.linesSound) (group : Nat) : (s.stepGroup group).linesSound := by
  unfold State.stepGroup
  dsimp only
  split
  · exact h.retarget group
  · exact (h.retarget group).stepAction group _

theorem State.linesSound.fanStepAll {s : State} (h : s.linesSound) : s.fanStepAll.linesSound :=
  .forEach (fun group _ h => h.stepGroup group) _ (h.frame (s.withFanNext_keeps _))

theorem State.linesSound.slotExpires {s : State} (h : s.linesSound) : s.slotExpires.linesSound := by
  unfold State.slotExpires
  split
  · split
    · exact h.frame (s.withSlot_keeps _)
    · exact (h.frame (s.grant_keeps _)).frame (State.takeSlot_keeps _)
  · exact h

theorem State.linesSound.proofExpires {s : State} (h : s.linesSound) (group : Nat) :
    (s.proofExpires group).linesSound := by
  unfold State.proofExpires
  split
  · exact h
  · split
    · exact h
    · exact .ite (h.enterFault _ _) h

/-! ### Bays (R2 to R9, R17) -/

theorem State.linesSound.putBay {s : State} (h : s.linesSound) (bay : Nat) (b : Bay) : (s.putBay bay b).linesSound := by
  unfold State.putBay
  split
  · exact h
  · exact .ite h (((h.frame (s.withBays_keeps _)).frame (State.recount_keeps _ _ _)).raiseIf _ _ _ _)

theorem State.linesSound.applyReading {s : State} (h : s.linesSound) (node channel : Nat) (r : Reading) :
    (s.applyReading node channel r).linesSound := by
  unfold State.applyReading
  split
  · exact h
  · split
    · exact h
    · dsimp only
      split
      · exact h.putBay _ _
      · exact (h.putBay _ _).frame (State.movementNotice_keeps _ _ _)

theorem State.linesSound.applyReadings {s : State} (h : s.linesSound) (node : Nat) (content : List Byte) :
    (s.applyReadings node content).linesSound :=
  .forEach (fun _ _ h => h.applyReading _ _ _) _ h

theorem State.linesSound.loseBay {s : State} (h : s.linesSound) (node channel : Nat) :
    (s.loseBay node channel).linesSound := by
  unfold State.loseBay
  split
  · exact h
  · split
    · exact h
    · exact h.putBay _ _

theorem State.linesSound.loseHead {s : State} (h : s.linesSound) (node : Nat) : (s.loseHead node).linesSound :=
  .forEach (fun _ _ h => h.loseBay _ _) _ h

theorem State.linesSound.expireReservation {s : State} (h : s.linesSound) (bay : Nat) :
    (s.expireReservation bay).linesSound := by
  unfold State.expireReservation
  split
  · exact h
  · exact .ite (State.raise_linesSound _ _ _ _) h

/-! ### The air evaluator (R48 to R68) -/

theorem State.linesSound.gasAnswer {s : State} (h : s.linesSound) (node co no2 : Nat) (st : HeadStatus) :
    (s.gasAnswer node co no2 st).linesSound := by
  unfold State.gasAnswer
  split
  · exact h
  · exact (h.frame (s.withNodes_keeps _)).raiseIf _ _ _ _

theorem State.linesSound.fumeEffects {s : State} (h : s.linesSound) (zone : Nat) (old new : Fume) :
    (s.fumeEffects zone old new).linesSound :=
  have entered := ((State.raise_linesSound _ _ _ _).frame (State.fumeReported_keeps _ _)).frame
    (State.retargetServing_keeps _ _)
  have left := ((State.raise_linesSound _ _ _ _).frame (State.fumeEnded_keeps _ _)).frame
    (State.retargetServing_keeps _ _)
  .ite h ((State.linesSound.ite entered (.ite left h)).frame (State.judgeAirCause_keeps _ _))

theorem State.linesSound.evaluateZone {s : State} (h : s.linesSound) (zone : Nat) :
    (s.evaluateZone zone).linesSound := by
  unfold State.evaluateZone
  split
  · exact h
  · have h1 := fun t => (h.frame (s.clearPeaks_keeps zone)).frame (State.withZones_keeps _ t)
    exact ((h1 _).raiseIf _ _ _ _).fumeEffects _ _ _

theorem State.linesSound.evaluateAll {s : State} (h : s.linesSound) : s.evaluateAll.linesSound :=
  .forEach (fun zone _ h => h.evaluateZone zone) _
    ((h.frame (s.withAirNext_keeps _)).frame (State.withFreeCount_keeps _ _))

/-! ### Nodes and their owners (R160 to R162, R166, R167) -/

theorem State.linesSound.changeNode {s : State} (h : s.linesSound) (node : Nat) (f : Node → Node) :
    (s.changeNode node f).linesSound :=
  h.frame (s.changeNode_keeps node f)

theorem State.linesSound.noticeLost {s : State} (h : s.linesSound) (node : Nat) (k : NodeKind) :
    (s.noticeLost node k).linesSound := by
  cases k with
  | sensor => exact h.loseHead node
  | gas => exact h.frame (s.loseGasHead_keeps node)
  | dimmer => exact h.frame (s.changeLightOn_keeps node _)
  | fan => exact h.driveLost node
  | sign => exact h.frame (s.changeSignOn_keeps node _)

theorem State.linesSound.noticeRestored {s : State} (h : s.linesSound) (node : Nat) (k : NodeKind) :
    (s.noticeRestored node k).linesSound := by
  cases k with
  | sensor => exact h
  | gas => exact h
  | dimmer => exact h.frame (s.changeLightOn_keeps node _)
  | fan => exact h.driveRestored node
  | sign => exact h.frame (s.changeSignOn_keeps node _)

theorem State.linesSound.silenceNode {s : State} (h : s.linesSound) (node : Nat) : (s.silenceNode node).linesSound := by
  unfold State.silenceNode
  split
  · exact h
  · exact State.raise_linesSound _ _ _ _

theorem State.linesSound.suspendNow {s : State} (h : s.linesSound) (node : Nat) : (s.suspendNow node).linesSound := by
  unfold State.suspendNow
  split
  · exact h
  · exact (h.changeNode _ _).noticeLost _ _

theorem State.linesSound.resumeNow {s : State} (h : s.linesSound) (node : Nat) : (s.resumeNow node).linesSound := by
  unfold State.resumeNow
  split
  · exact h
  · exact (h.changeNode _ _).noticeRestored _ _

theorem State.linesSound.aislePresence {s : State} (h : s.linesSound) (node : Nat) :
    (s.aislePresence node).linesSound := by
  unfold State.aislePresence
  split
  · exact h
  · exact h.frame (s.movement_keeps _)

theorem State.linesSound.handAnswer {s : State} (h : s.linesSound) (node : Nat) (k : NodeKind) (content : List Byte)
    (rebound : Bool) : (s.handAnswer node k content rebound).linesSound := by
  cases k with
  | sensor => exact .ite ((h.applyReadings node content).aislePresence node) (h.applyReadings node content)
  | gas => exact .ite h (h.gasAnswer _ _ _ _)
  | dimmer => exact h.frame (s.changeLightOn_keeps node _)
  | fan => exact h.driveAnswer node _
  | sign => exact h.frame (s.changeSignOn_keeps node _)

theorem State.linesSound.goodVisit {s : State} (h : s.linesSound) (node : Nat) (content : List Byte) (rebound : Bool) :
    (s.goodVisit node content rebound).linesSound := by
  unfold State.goodVisit
  split
  · exact h
  · refine State.linesSound.handAnswer ?_ _ _ _ _
    split
    · exact h.changeNode _ _
    · exact State.raise_linesSound _ _ _ _
    · exact h.changeNode _ _
    · exact h.changeNode _ _

theorem State.linesSound.failedVisit {s : State} (h : s.linesSound) (node : Nat) (e : VisitError) :
    (s.failedVisit node e).linesSound := by
  unfold State.failedVisit
  split
  · exact h
  · exact .ite ((h.changeNode _ _).silenceNode _) (h.changeNode _ _)

theorem State.linesSound.applySuspension {s : State} (h : s.linesSound) (node : Nat) :
    (s.applySuspension node).linesSound := by
  unfold State.applySuspension
  split
  · exact h
  · exact .ite (h.suspendNow _) h

theorem State.linesSound.applyOutcome {s : State} (h : s.linesSound) (v : Visit) (e : VisitEnd) :
    (s.applyOutcome v e).linesSound := by
  cases e with
  | good content => exact (h.goodVisit _ _ _).applySuspension _
  | failed e => exact (h.failedVisit _ _).applySuspension _

/-! ### The spans (R155 to R165) -/

theorem State.linesSound.atMs {s : State} (h : s.linesSound) (t : Millis) : (s.atMs t).linesSound :=
  h.frame (s.atMs_keeps t)

theorem State.linesSound.changeSpan {s : State} (h : s.linesSound) (i : SpanId) (f : Span → Span) :
    (s.changeSpan i f).linesSound :=
  h.frame (s.changeSpan_keeps i f)

theorem State.linesSound.closeRound {s : State} (h : s.linesSound) (i : SpanId) : (s.closeRound i).linesSound :=
  h.frame (s.closeRound_keeps i)

theorem State.linesSound.beginRound {s : State} (h : s.linesSound) (i : SpanId) : (s.beginRound i).linesSound :=
  h.frame (s.beginRound_keeps i)

theorem State.linesSound.endVisit {s : State} (h : s.linesSound) (i : SpanId) (e : VisitEnd) :
    (s.endVisit i e).linesSound := by
  unfold State.endVisit
  split
  · exact h
  · have h1 := h.changeSpan i (fun p => { p with visit := none })
    dsimp only
    split
    · exact ((h1.applyOutcome _ _).changeSpan _ _).closeRound _
    · exact (h1.changeSpan _ _).closeRound _
    · exact (h1.applySuspension _).beginRound _
    · exact h1.beginRound _

theorem State.linesSound.spanByte {s : State} (h : s.linesSound) (i : SpanId) (b : Byte) (stopOk : Bool) :
    (s.spanByte i b stopOk).linesSound := by
  have h0 := h.changeSpan i (Span.lineByte s.ms)
  have h1 := State.linesSound.ite (b := stopOk = true) h0 (h0.frame (State.withFreeCount_keeps _ (s.freeCount + 1)))
  unfold State.spanByte
  dsimp only
  split
  · exact h0
  · split
    · exact h1
    · split
      · exact h1.changeSpan _ _
      · exact (h1.changeSpan _ _).endVisit _ _

theorem State.linesSound.startRound {s : State} (h : s.linesSound) (i : SpanId) : (s.startRound i).linesSound :=
  .ite ((h.atMs _).beginRound _) h

theorem State.linesSound.startVisit {s : State} (h : s.linesSound) (i : SpanId) : (s.startVisit i).linesSound := by
  unfold State.startVisit
  split
  · dsimp only
    split
    · exact (h.atMs _).closeRound _
    · exact (h.atMs _).frame (State.beginVisit_keeps _ _ _)
  · exact h

theorem State.linesSound.answerLimitPasses {s : State} (h : s.linesSound) (i : SpanId) :
    (s.answerLimitPasses i).linesSound := by
  unfold State.answerLimitPasses
  split
  · exact h
  · exact .ite ((h.atMs _).endVisit _ _) h

theorem State.linesSound.answerGapPasses {s : State} (h : s.linesSound) (i : SpanId) :
    (s.answerGapPasses i).linesSound := by
  unfold State.answerGapPasses
  split
  · exact h
  · exact .ite h ((h.atMs _).endVisit _ _)

/-- R163: a span that becomes STUCK raises its item last. -/
theorem State.linesSound.lineStuck {s : State} (h : s.linesSound) (i : SpanId) : (s.lineStuck i).linesSound :=
  .ite (State.raise_linesSound _ _ _ _) h

theorem State.linesSound.silenceAt {s : State} (h : s.linesSound) (i : SpanId) (address : Nat) :
    (s.silenceAt i address).linesSound := by
  unfold State.silenceAt
  split
  · exact h
  · split
    · exact h
    · exact .ite (h.silenceNode _) h

theorem State.linesSound.silenceStuck {s : State} (h : s.linesSound) (i : SpanId) : (s.silenceStuck i).linesSound := by
  unfold State.silenceStuck
  split
  · exact h
  · exact .ite h (.forEach (fun address _ h => h.silenceAt i address) _ ((h.atMs _).changeSpan _ _))

theorem State.linesSound.retryStuck {s : State} (h : s.linesSound) (i : SpanId) (idle : Bool) :
    (s.retryStuck i idle).linesSound := by
  unfold State.retryStuck
  split
  · exact h
  · exact .ite ((State.raise_linesSound _ _ _ _).closeRound _) ((h.atMs _).changeSpan _ _)

/-! ### The fire monitor (R103 to R110): each change of fire mode raises its item last -/

theorem State.linesSound.filterDue {s : State} (h : s.linesSound) : s.filterDue.linesSound := by
  unfold State.filterDue
  split
  · exact h
  · exact .ite (State.raise_linesSound _ _ _ _) (State.raise_linesSound _ _ _ _)

theorem State.linesSound.pendingZoneDue {s : State} (h : s.linesSound) : s.pendingZoneDue.linesSound := by
  unfold State.pendingZoneDue
  split
  · exact h
  · exact .ite (State.raise_linesSound _ _ _ _) h

/-! ### RESTART (R194) and the full reset (R193) -/

/-- RESTART empties both sets and judges both lines, and a standing fire mode raises its item. -/
theorem State.restartPorts_linesSound (s : State) : s.restartPorts.linesSound :=
  .ite (State.raise_linesSound _ _ _ _) (fun p => by cases p <;> rfl)

theorem State.linesSound.restartSpan {s : State} (h : s.linesSound) (i : SpanId) : (s.restartSpan i).linesSound :=
  have h1 := h.changeSpan i _
  .ite (h1.beginRound i) h1

theorem State.restartEffect_linesSound (s : State) : s.restartEffect.linesSound :=
  ((((State.restartPorts_linesSound _).restartSpan _).restartSpan _).restartSpan _).restartSpan _

theorem PortState.reset_attn : PortState.reset.attn = PortState.reset.att.asserted := by decide

theorem State.fullReset_linesSound (s : State) (pins : Pins) : (s.fullReset pins).linesSound := by
  intro p
  have hp : (s.fullReset pins).port p = PortState.reset := by cases p <;> rfl
  rw [hp]
  exact PortState.reset_attn

/-! ### Requests (R179) -/

theorem need_linesSound {s : State} {b : Bool} {r : Result} {v : Served} (h : s.linesSound)
    (hv : v.state.linesSound) : (need b r s v).state.linesSound := by
  cases b with
  | false => exact h
  | true => exact hv

theorem serveChangeBay_linesSound {s : State} (h : s.linesSound) (c : Cls) (bay mode : Nat) (marks : Byte) :
    (serveChangeBay c bay mode marks s).state.linesSound := by
  unfold serveChangeBay
  split
  · refine need_linesSound h (need_linesSound h ?_)
    split
    · exact h
    · exact h.putBay _ _
  · exact h

theorem serveReserveBay_linesSound {s : State} (h : s.linesSound) (c : Cls) (bay holder hold : Nat) :
    (serveReserveBay c bay holder hold s).state.linesSound := by
  unfold serveReserveBay
  refine need_linesSound h (need_linesSound h ?_)
  split
  · exact h
  · exact need_linesSound h (h.putBay _ _)

theorem serveReleaseBay_linesSound {s : State} (h : s.linesSound) (c : Cls) (bay holder : Nat) :
    (serveReleaseBay c bay holder s).state.linesSound := by
  unfold serveReleaseBay
  refine need_linesSound h (need_linesSound h ?_)
  split
  · exact h
  · split
    · exact h
    · exact need_linesSound h (h.putBay _ _)

theorem serveRedefineBay_linesSound {s : State} (h : s.linesSound) (c : Cls) (bay zone node channel kind : Nat) :
    (serveRedefineBay c bay zone node channel kind s).state.linesSound := by
  unfold serveRedefineBay
  split
  · exact h
  · refine need_linesSound h (need_linesSound h ?_)
    split
    · exact h
    · exact need_linesSound h (need_linesSound h (h.putBay _ _))

theorem serveFanControl_linesSound {s : State} (h : s.linesSound) (c : Cls) (groups : BitVec 32) (action : Nat) :
    (serveFanControl c groups action s).state.linesSound := by
  unfold serveFanControl
  split
  · exact h
  · next a _ =>
    exact need_linesSound h (need_linesSound h (need_linesSound h (need_linesSound h (need_linesSound h
      (State.linesSound.forEach (fun group _ h => h.control a group) _ h)))))

theorem serveDefineFan_linesSound {s : State} (h : s.linesSound) (c : Cls) (group : Nat) (zones : ZoneSet)
    (drives : List Nat) (fields : FanFields) : (serveDefineFan c group zones drives fields s).state.linesSound :=
  need_linesSound h (need_linesSound h (need_linesSound h (need_linesSound h (need_linesSound h
    (h.installFan _ _ _)))))

theorem serveSetFan_linesSound {s : State} (h : s.linesSound) (c : Cls) (group : Nat) (zones : Option ZoneSet)
    (drives : Option (List Nat)) (fields : FanFields) :
    (serveSetFan c group zones drives fields s).state.linesSound := by
  unfold serveSetFan
  refine need_linesSound h (need_linesSound h (need_linesSound h ?_))
  split
  · exact h
  · exact need_linesSound h (need_linesSound h (h.changeFanWhole _ _ _ _ _))

theorem serveRetireFan_linesSound {s : State} (h : s.linesSound) (c : Cls) (group : Nat) :
    (serveRetireFan c group s).state.linesSound := by
  unfold serveRetireFan
  refine need_linesSound h (need_linesSound h ?_)
  split
  · exact h
  · exact need_linesSound h ((h.removeFan _).availabilityNotice _)

theorem State.linesSound.suspend {s : State} (h : s.linesSound) (node : Nat) (n : Node) :
    (s.suspend node n).linesSound :=
  .ite h (.ite (h.changeNode _ _) ((h.suspendNow _).closeRound _))

theorem State.linesSound.resume {s : State} (h : s.linesSound) (node : Nat) (n : Node) :
    (s.resume node n).linesSound :=
  .ite (h.resumeNow _) (h.changeNode _ _)

theorem serveSuspendNode_linesSound {s : State} (h : s.linesSound) (c : Cls) (node : Nat) :
    (serveSuspendNode c node s).state.linesSound := by
  unfold serveSuspendNode
  refine need_linesSound h (need_linesSound h ?_)
  split
  · exact h
  · exact h.suspend _ _

theorem serveResumeNode_linesSound {s : State} (h : s.linesSound) (c : Cls) (node : Nat) :
    (serveResumeNode c node s).state.linesSound := by
  unfold serveResumeNode
  refine need_linesSound h (need_linesSound h ?_)
  split
  · exact h
  · exact h.resume _ _

/-- R191: the line is judged again when an item leaves the set. -/
theorem serveClearAttention_linesSound {s : State} (h : s.linesSound) (p : Port) (cls object : Nat) :
    (serveClearAttention p cls object s).state.linesSound := by
  unfold serveClearAttention
  split
  · exact h
  · refine need_linesSound h ?_
    dsimp only
    split
    · exact h
    · exact h.withPort p rfl

/-- R188: the line is judged again by the new enables. -/
theorem serveSetAttentionEnable_linesSound {s : State} (h : s.linesSound) (p : Port) (classes : Byte) :
    (serveSetAttentionEnable p classes s).state.linesSound :=
  need_linesSound h (h.withPort p rfl)

/-- No request leaves a line other than its set has it: most touch no attention set at all. -/
theorem serveRequest_linesSound {s : State} (h : s.linesSound) (p : Port) (body : Request) (c : Cls) :
    (serveRequest p body c s).state.linesSound := by
  cases body with
  | readBays => exact h.frame (serveReadBays_keeps _ _ _ _ _)
  | findBays => exact h.frame (serveFindBays_keeps _ _ _ _ _ _)
  | changeBay => exact serveChangeBay_linesSound h _ _ _ _
  | reserveBay => exact serveReserveBay_linesSound h _ _ _ _
  | releaseBay => exact serveReleaseBay_linesSound h _ _ _
  | defineBay => exact h.frame (serveDefineBay_keeps _ _ _ _ _ _ _)
  | redefineBay => exact serveRedefineBay_linesSound h _ _ _ _ _ _
  | retireBay => exact h.frame (serveRetireBay_keeps _ _ _)
  | readZone => exact h.frame (serveReadZone_keeps _ _)
  | closeZone => exact h.frame (serveOperatorCause_keeps _ _ _ _)
  | openZone => exact h.frame (serveOperatorCause_keeps _ _ _ _)
  | defineZone => exact h.frame (serveDefineZone_keeps _ _ _ _ _)
  | setZone => exact h.frame (serveSetZone_keeps _ _ _ _ _)
  | retireZone => exact h.frame (serveRetireZone_keeps _ _ _)
  | readFan => exact h.frame (serveReadFan_keeps _ _)
  | pushOverride => exact h.frame (servePushOverride_keeps _ _ _ _ _ _)
  | popOverride => exact h.frame (servePopOverride_keeps _ _ _)
  | fanControl => exact serveFanControl_linesSound h _ _ _
  | defineFan => exact serveDefineFan_linesSound h _ _ _ _ _
  | setFan => exact serveSetFan_linesSound h _ _ _ _ _
  | retireFan => exact serveRetireFan_linesSound h _ _
  | readSign => exact h.frame (serveReadSign_keeps _ _)
  | defineSign => exact h.frame (serveDefineSign_keeps _ _ _ _)
  | setSign => exact h.frame (serveSetSign_keeps _ _ _ _)
  | retireSign => exact h.frame (serveRetireSign_keeps _ _ _)
  | readLight => exact h.frame (serveReadLight_keeps _ _)
  | lightOverride => exact h.frame (serveLightOverride_keeps _ _ _ _ _)
  | defineLight => exact h.frame (serveDefineLight_keeps _ _ _ _ _ _)
  | setLight => exact h.frame (serveSetLight_keeps _ _ _ _ _ _)
  | retireLight => exact h.frame (serveRetireLight_keeps _ _ _)
  | readNode => exact h.frame (serveReadNode_keeps _ _)
  | defineNode => exact h.frame (serveDefineNode_keeps _ _ _ _ _ _ _)
  | retireNode => exact h.frame (serveRetireNode_keeps _ _ _)
  | suspendNode => exact serveSuspendNode_linesSound h _ _
  | resumeNode => exact serveResumeNode_linesSound h _ _
  | readStatus => exact h.frame (serveReadStatus_keeps _ _)
  | setPermit => exact h.frame (serveSetPermit_keeps _ _ _ _ _)
  | setPart => exact h.frame (serveSetPart_keeps _ _ _)
  | readAttention => exact h.frame (serveReadAttention_keeps _ _ _)
  | clearAttention => exact serveClearAttention_linesSound h _ _ _
  | setAttentionEnable => exact serveSetAttentionEnable_linesSound h _ _
  | restart => exact h.frame (serveRestart_keeps _ _)
  | unknown => exact h
  | badLength => exact h
  | badPresence => exact h

/-! ### The request links and their places (R174 to R178) -/

theorem State.linesSound.take {s : State} (h : s.linesSound) (hd : Head) (item : Placed) (body : Request) :
    (s.take hd item (serveRequest hd.port body)).linesSound := by
  have h1 := h.frame (s.withKey_keeps hd.key)
  refine State.linesSound.frame ?_ (State.occupy_keeps _ _ _ _)
  split
  · exact h1
  · exact serveRequest_linesSound h1 _ _ _

theorem State.linesSound.wait {s : State} (h : s.linesSound) (p : Port) (item : Placed) :
    (s.wait p item).linesSound := by
  unfold State.wait
  split
  · exact h.withPort p (h p)
  · exact State.raise_linesSound _ _ _ _

theorem State.linesSound.arrive {s : State} (h : s.linesSound) (hd : Head) (body : Request) :
    (s.arrive hd body (serveRequest hd.port body)).linesSound := by
  unfold State.arrive
  split
  · exact h.take _ _ _
  · exact h.wait _ _

theorem State.linesSound.takeBad {s : State} (h : s.linesSound) (p : Port) (tag : Byte) :
    (s.takeBad p tag).linesSound :=
  h.frame (s.occupy_keeps _ _ _)

theorem State.linesSound.arriveBad {s : State} (h : s.linesSound) (p : Port) (tag : Byte) :
    (s.arriveBad p tag).linesSound := by
  unfold State.arriveBad
  split
  · exact h.takeBad _ _
  · exact h.wait _ _

theorem State.linesSound.setReceiver {s : State} (h : s.linesSound) (p : Port) (r : Receiver) :
    (s.setReceiver p r).linesSound :=
  h.frame (s.setReceiver_keeps p r)

theorem State.linesSound.linkByte {s : State} (h : s.linesSound) (p : Port) (b : Byte) (stopOk key : Bool) :
    (s.linkByte p b stopOk key).linesSound := by
  unfold State.linkByte
  split
  · exact h.setReceiver _ _
  · exact (h.setReceiver _ _).arriveBad _ _
  · exact (h.setReceiver _ _).arrive _ _

theorem State.linesSound.frameGap {s : State} (h : s.linesSound) (p : Port) : (s.frameGap p).linesSound := by
  unfold State.frameGap
  split
  · exact h
  · exact h
  · exact (h.atMs _).withPort p (h.atMs _ p)

theorem State.linesSound.drained {s : State} (h : s.linesSound) (p : Port) : (s.drained p).linesSound := by
  unfold State.drained
  split
  · exact h
  · exact h
  · exact (h.atMs _).withPort p (h.atMs _ p)

theorem State.linesSound.takePlaced {s : State} (h : s.linesSound) (p : Port) (item : Placed) (key : Bool) :
    (s.takePlaced p item key).linesSound := by
  cases item with
  | badFrame tag => exact h.takeBad _ _
  | request cls tag body => exact h.take { port := p, cls := cls, tag := tag, key := key } _ body

theorem State.linesSound.replySent {s : State} (h : s.linesSound) (p : Port) (key : Bool) :
    (s.replySent p key).linesSound := by
  unfold State.replySent
  split
  · exact h
  · have h1 : (s.withPort p { s.port p with service := none }).linesSound := h.withPort p (h p)
    refine .ite (State.restartEffect_linesSound _) ?_
    split
    · exact h1
    · refine State.linesSound.takePlaced (h1.withPort p ?_) _ _ _
      exact h1 p

/-! ### Every command (R189) -/

/-- R179: a command that is a request's arrival serves that request. -/
theorem exec_request {cmd : Instr} {hd : Head} {body : Request} (hr : requestRow cmd = some (hd, body)) (s : State) :
    exec cmd s = .next (s.arrive hd body (serveRequest hd.port body)) := by
  cases cmd <;> cases hr <;> rfl

/-- The lines follow the sets through every command: the requests together, each event by its own lemma. -/
theorem exec_linesSound {s t : State} (h : s.linesSound) {cmd : Instr} (he : exec cmd s = .next t) :
    t.linesSound := by
  cases hr : requestRow cmd with
  | some r => exact Host.Outcome.next.inj ((exec_request hr s).symm.trans he) ▸ h.arrive _ _
  | none =>
    cases cmd with
    | badFrameAnswer p tag => cases he; exact h.arriveBad p tag
    | linkByteReceived p b stopOk key => cases he; exact h.linkByte p b stopOk key
    | frameGapTimeout p => cases he; exact h.frameGap p
    | drainingEnd p => cases he; exact h.drained p
    | replySent p key => cases he; exact h.replySent p key
    | fullReset pins => cases he; exact s.fullReset_linesSound pins
    | secondsCountAdvance => cases he; exact h.atMs _
    | fireLineEdge level => cases he; exact h.frame (s.withFire_keeps _)
    | fireFilterDue => cases he; exact h.filterDue
    | fireZoneCodeChange value => cases he; exact h.frame (s.withFire_keeps _)
    | pendingZoneDue => cases he; exact h.pendingZoneDue
    | airEvaluationExpiry => cases he; exact .ite h.evaluateAll h
    | fanStep => cases he; exact .ite h.fanStepAll h
    | startSlotExpiry => cases he; exact h.slotExpires
    | proofTimerExpiry group => cases he; exact h.proofExpires group
    | overrideExpiry group => cases he; exact .ite ((h.changeFan _ _).retarget _) h
    | reservationExpiry bay => cases he; exact h.expireReservation bay
    | holdExpiry group => cases he; exact h.frame (s.withLights_keeps _)
    | rampStep group => cases he; exact h.frame (s.withLights_keeps _)
    | lightOverrideExpiry group => cases he; exact h.frame (s.withLights_keeps _)
    | roundStart i => cases he; exact h.startRound i
    | visitStart i => cases he; exact h.startVisit i
    | spanByteReceived i b stopOk => cases he; exact h.spanByte i b stopOk
    | answerLimitExpiry i => cases he; exact h.answerLimitPasses i
    | answerGapTimeout i => cases he; exact h.answerGapPasses i
    | spanStuck i => cases he; exact h.lineStuck i
    | stuckSilencing i => cases he; exact h.silenceStuck i
    | stuckRetry i idle => cases he; exact h.retryStuck i idle
    | _ => cases hr

/-- Settles O51: a step is an idle millisecond, which touches no port, or a command (`exec_linesSound`);
after a full reset both sets are empty and both lines deasserted. -/
theorem linesFollowTheSets : Obligations.LinesFollowTheSets := by
  refine ⟨fun s t h hstep => ?_, fun s pins => ⟨s.fullReset pins, rfl, rfl, rfl⟩⟩
  unfold step at hstep
  split at hstep
  · cases hstep; exact h.atMs _
  · next rest _ =>
    have waiting : ({ s with pending := rest } : State).linesSound := h
    exact exec_linesSound waiting hstep

end Sys2Proof.Machine

/-! ## Proofs: what a step is made of

Every step is a run of moves, each one change that the rules take whole. An invariant that every move keeps is
kept by every step (`State.step_keeps`); a move that touches none of its parts keeps it by its frame. -/

namespace Sys2Proof.Machine

/-! ### The moves -/

/-- The parts that none of the invariants below reads. -/
abbrev quietParts : List Field :=
  [.pending, .seconds, .ms, .secondAt, .rate, .serviceKey, .airNext, .slot, .fanNext, .facilityMap, .operatorMap,
   .freeCount, .span .span0, .span .span1, .span .span2, .span .span3, .link .main, .link .panel, .places .main,
   .places .panel]

/-- Both attention sets with their lines. -/
abbrev attParts : List Field := [.enables .main, .enables .panel, .items .main, .items .panel]

/-- R14, of one bay. -/
def Bay.reservationSound (b : Bay) : Prop :=
  (b.state = .reserved → b.reservation.isSome = true) ∧
    (b.reservation.isSome = true → b.state = .reserved ∨ b.state = .arriving ∨ b.state = .unknown)

/-- What the rules ask of a bay's new record: a defined zone, a channel of its own, and R14. -/
structure State.BayMoves (s : State) (bay : Nat) (old b : Bay) : Prop where
  zone : b.zone = old.zone ∨ Table.has s.zones b.zone = true
  place : (b.node = old.node ∧ b.channel = old.channel) ∨
    (b.channel ≤ 15 ∧ s.channelTaken bay b.node b.channel = false)
  reservation : old.reservationSound → b.reservationSound

/-- What the rules ask of a luminaire group's new record: a node of its own, forcing as due, and its level. -/
structure State.LightMoves (s : State) (group : Nat) (l l' : Light) : Prop where
  place : l'.node = l.node ∨ s.lightNodeClash group l'.node = false
  forcing : (l.state = .forced ↔ s.dueForForcing l.zone = true) →
    (l'.state = .forced ↔ s.dueForForcing l'.zone = true)
  level : l.levelSound → l'.levelSound

/-- The zones of a sign's three masks. -/
abbrev SignDef.zones (d : SignDef) : ZoneSet := d.countZones ||| d.termA ||| d.termB

/-- What the rules ask of a sign's new record: a node of its own, defined zones, and current content. -/
structure State.SignMoves (s : State) (sign : Nat) (g g' : Sign) : Prop where
  place : g'.config.node = g.config.node ∨ s.signNodeClash sign g'.config.node = false
  zones : s.zonesDefined g.config.zones = true → s.zonesDefined g'.config.zones = true
  sound : g.soundIn s → g'.soundIn s

/-- The ranges of a group's settings that its speed rests on (4.1). -/
def FanSettings.sound (st : FanSettings) : Prop := st.vmin ≤ 60 ∧ st.fireIn ≤ 100 ∧ st.fireOut ≤ 100

/-- What the rules ask of a fan step's or an answer's change of a RUNNING group: it runs on or stops. -/
structure Fan.RunMoves (g g' : Fan) : Prop where
  only : g' = { g with state := g'.state, commanded := g'.commanded, proof := g'.proof }
  state : g'.state = .running ∨ g'.state = .stopped
  speed : g.speedSound → g'.speedSound

/-- What the rules ask of a stack's new entries. -/
structure StackMoves (fire : Bool) (st st' : List Entry) : Prop where
  sound : stackSound fire st → stackSound fire st'
  levels : (∀ e ∈ st, e.level ≤ 100) → ∀ e ∈ st', e.level ≤ 100

/-- RESTART's effect but for the spans (R194). -/
def State.restartBlocks (s : State) : State :=
  s.restartRecords.restartFans.restartAir.restartOutputs.restartPorts

/-- SET_ZONE's effect (R42). -/
def State.setZone (zone : Nat) (z z' : Zone) (s : State) : State :=
  if z'.fill = z.fill then s.withZones (Table.set s.zones zone z')
  else (s.withZones (Table.set s.zones zone z')).markSigns zone

/-- One change that the rules take whole, with the parts it can touch. -/
inductive State.Move (s : State) : State → List Field → Prop
  | quiet {t : State} (h : s.keepsBut t quietParts) : Move s t quietParts
  | raise (c : AttClass) (o : Nat) (r : Reason) (h : s.tablesSound → o < c.objects) :
      Move s (s.raise c o r) bothItems
  | attention (p : Port) (a : AttSet) (h : (s.port p).att.sound → a.sound) :
      Move s (s.withPort p ((s.port p).withAtt a)) attParts
  | settings (v : PartSettings) (h : s.settings.sound → v.sound) : Move s (s.withSettings v) [.settings]
  | nodes (t : Table Node) (hw : s.tablesSound → Table.wf Config.nodes t)
      (hp : s.tablesSound → s.placesSound → (s.withNodes t).placesSound) : Move s (s.withNodes t) [.nodes]
  | putBay {bay : Nat} {old : Bay} (b : Bay) (h : Table.get s.bays bay = some old) (hm : s.BayMoves bay old b) :
      Move s (s.putBay bay b) bayParts
  | newBay {bay : Nat} (b : Bay) (h : Table.get s.bays bay = none) (hb : bay < 2048)
      (hz : Table.has s.zones b.zone = true) (hc : b.channel ≤ 15)
      (hp : s.channelTaken bay b.node b.channel = false) (hr : b.reservationSound) :
      Move s ((s.withBays (Table.set s.bays bay b)).recount none (some b)) [.bays, .zones, .signs]
  | dropBay {bay : Nat} {b : Bay} (h : Table.get s.bays bay = some b) :
      Move s ((s.withBays (Table.erase s.bays bay)).recount (some b) none) [.bays, .zones, .signs]
  | credit (zone : Nat) (arrival : Bool) : Move s (s.addCredit zone arrival) [.zones]
  | operatorCause (zone : Nat) (present : Bool) :
      Move s (s.changeCauses zone (fun k => { k with operator := present })) [.zones, .signs]
  | newZone {zone : Nat} (level : Nat) (st : ZoneSettings) (h : Table.get s.zones zone = none) (hz : zone < 32)
      (hc : st.consistent level = true) :
      Move s (s.withZones (Table.set s.zones zone (Zone.fresh level st s.fireActive))) [.zones]
  | setZone {zone : Nat} {z : Zone} (level : Nat) (st : ZoneSettings) (h : Table.get s.zones zone = some z)
      (hc : st.consistent level = true) : Move s (s.setZone zone z (z.withSettings level st)) [.zones, .signs]
  | dropZone (zone : Nat) (h : s.zoneInUse zone = false) :
      Move s ((s.withZones (Table.erase s.zones zone)).withFumeSet (s.fumeSet &&& ~~~(zoneSingle zone)))
        [.zones, .fumeSet]
  | evaluate (zone : Nat) : Move s (s.evaluateZone zone) (.nodes :: fumeParts)
  | movement (zone : Nat) : Move s (s.movement zone) [.lights]
  | light {group : Nat} {l : Light} (l' : Light) (h : Table.get s.lights group = some l)
      (hm : s.LightMoves group l l') : Move s (s.withLights (Table.set s.lights group l')) [.lights]
  | newLight {group : Nat} (l : Light) (hg : group < 48) (hp : s.lightNodeClash group l.node = false)
      (hf : l.state = .forced ↔ s.dueForForcing l.zone = true) (hl : l.levelSound) :
      Move s (s.withLights (Table.set s.lights group l)) [.lights]
  | dropLight (group : Nat) : Move s (s.withLights (Table.erase s.lights group)) [.lights]
  | sign {sign : Nat} {g : Sign} (g' : Sign) (h : Table.get s.signs sign = some g) (hm : s.SignMoves sign g g') :
      Move s (s.withSigns (Table.set s.signs sign g')) [.signs]
  | newSign {sign : Nat} (g : Sign) (hg : sign < 64) (hp : s.signNodeClash sign g.config.node = false)
      (hz : s.zonesDefined g.config.zones = true) (hs : g.soundIn s) :
      Move s (s.withSigns (Table.set s.signs sign g)) [.signs]
  | dropSign (sign : Nat) : Move s (s.withSigns (Table.erase s.signs sign)) [.signs]
  | report (group : Nat) (f : Fan → Fan) (h : ∀ g, f g = { g with drives := (f g).drives, proof := (f g).proof })
      (hd : ∀ g, (f g).drives.map (fun d => d.node) = g.drives.map (fun d => d.node)) :
      Move s (s.changeFan group f) [.fans]
  | judgeDrives (group : Nat) : Move s (s.judgeDrives group) fanParts
  | isolate {group : Nat} {g : Fan} (h : Table.get s.fans group = some g) : Move s (s.isolate group g) fanParts
  | returnToService {group : Nat} {g : Fan} (h : Table.get s.fans group = some g)
      (hs : g.state = .isolated ∨ g.state = .fault) : Move s (s.returnToService group g) fanParts
  | installFan {group : Nat} (zones : ZoneSet) (drives : List Nat) (st : FanSettings) (hg : group < 24)
      (hz : s.zonesDefined zones = true) (hd : s.drivesClash group drives = false) (hs : st.sound) :
      Move s (s.installFan group (Fan.fresh zones drives st) (s.fanZones group ||| zones)) fanParts
  | setFan {group : Nat} {g : Fan} (zones : ZoneSet) (drives : List Nat) (st : FanSettings)
      (h : Table.get s.fans group = some g) (hz : zones = g.served ∨ s.zonesDefined zones = true)
      (hd : drives = g.drives.map (fun d => d.node) ∨ s.drivesClash group drives = false)
      (hs : g.settings.sound → st.sound) : Move s (s.changeFanWhole group g zones drives st) fanParts
  | dropFan {group : Nat} {g : Fan} (h : Table.get s.fans group = some g) :
      Move s ((s.removeFan group).availabilityNotice g.served) fanParts
  | restack {group : Nat} {g : Fan} (k : List Entry → List Entry) (h : Table.get s.fans group = some g)
      (hm : StackMoves s.fire.taken g.stack (k g.stack)) :
      Move s ((s.changeFan group (fun g => { g with stack := k g.stack })).retarget group) [.fans]
  | retarget (group : Nat) : Move s (s.retarget group) [.fans]
  | joinQueue {group : Nat} {g : Fan} (h : Table.get s.fans group = some g) (hs : g.state = .stopped) :
      Move s (s.joinQueue group) [.queue, .fans, .slot]
  | quitQueue {group : Nat} {g : Fan} (h : Table.get s.fans group = some g) (hs : g.state = .waiting) :
      Move s ((s.leaveQueue group).changeFan group Fan.stopped) [.queue, .fans]
  | run {group : Nat} {g : Fan} (f : Fan → Fan) (h : Table.get s.fans group = some g) (hs : g.state = .running)
      (hm : g.RunMoves (f g)) : Move s (s.changeFan group f) [.fans]
  | grantHead {group : Nat} {rest : List Nat} (h : s.queue = group :: rest) :
      Move s ((s.grant group).takeSlot) [.queue, .fans, .slot]
  | enterFault {group : Nat} {g : Fan} (cause : FaultCause) (h : Table.get s.fans group = some g)
      (hs : g.state = .running) : Move s (s.enterFault group cause) fanParts
  | watchLine (level : Bool) : Move s (s.withFire (s.fire.edge s.ms level)) [.fire]
  | watchCodes (value : BitVec 5) : Move s (s.withFire (s.fire.codeChange s.ms value)) [.fire]
  | enterFire (hc : s.fire.change.isSome = true) (h : s.fire.taken = false) : Move s s.enterFireMode
      [.fire, .fans, .queue, .zones, .signs, .lights, .fireFlag, .items .main, .items .panel]
  | leaveFire (hc : s.fire.change.isSome = true) (h : s.fire.taken = true) : Move s s.leaveFireMode
      [.fire, .fans, .zones, .signs, .lights, .fireFlag, .items .main, .items .panel]
  | moveFireZone (zone : Nat) (h : s.fire.taken = true) : Move s (s.moveFireZone zone)
      [.fire, .fans, .items .main, .items .panel]
  | restart : Move s s.restartBlocks
      (.bays :: .zones :: .fans :: .queue :: .signs :: .lights :: .fireFlag :: .fumeSet :: .nodes ::
        attParts ++ quietParts)
  | reset (pins : Pins) : Move s (s.fullReset pins)
      (.bays :: .zones :: .fans :: .queue :: .signs :: .lights :: .fireFlag :: .fumeSet :: .nodes :: .fire ::
        .settings :: attParts ++ quietParts)

/-- A run of moves. -/
abbrev State.Runs : State → State → Prop := Relation.ReflTransGen (fun s t => ∃ l, State.Move s t l)

/-- What every move keeps, a run keeps. -/
theorem State.Runs.keeps {P : State → Prop} (hP : ∀ s t l, State.Move s t l → P s → P t) {s t : State}
    (h : s.Runs t) (hs : P s) : P t := by
  induction h with
  | refl => exact hs
  | tail _ hm ih => obtain ⟨l, hm⟩ := hm; exact hP _ _ l hm ih

theorem State.Move.runs {s t : State} {l : List Field} (h : State.Move s t l) : s.Runs t := .single ⟨l, h⟩

theorem State.Runs.ite {s t u : State} {b : Prop} [Decidable b] (ht : b → s.Runs t) (hu : ¬b → s.Runs u) :
    s.Runs (if b then t else u) := by
  split
  · next h => exact ht h
  · next h => exact hu h

theorem State.Runs.forEach {f : Nat → State → State} (hf : ∀ n s, State.Runs s (f n s)) (ns : List Nat) (s : State) :
    s.Runs (State.forEach f ns s) := by
  induction ns generalizing s with
  | nil => exact .refl
  | cons n ns ih => exact (hf n s).trans (ih (f n s))

/-- A change of quiet parts alone. -/
theorem State.keepsBut.quiet {s t : State} {l : List Field} (h : s.keepsBut t l)
    (hl : l ⊆ quietParts := by simp) : s.Runs t :=
  (State.Move.quiet (h.mono hl)).runs

/-! ### The frame of each move -/

theorem State.setZone_keeps (s : State) (zone : Nat) (z z' : Zone) :
    s.keepsBut (s.setZone zone z z') [.zones, .signs] := by
  unfold State.setZone
  split
  · exact (s.withZones_keeps _).mono (by decide)
  · exact (s.withZones_keeps _).seq (State.markSigns_keeps _ _) (by decide) (by decide)

theorem State.isolate_keeps (s : State) (group : Nat) (g : Fan) : s.keepsBut (s.isolate group g) fanParts := by
  unfold State.isolate
  have h : s.keepsBut ((s.changeFan group (fun g =>
      { g with state := .isolated, commanded := 0, proof := none, faultCause := none })).leaveQueue group) fanParts :=
    (s.changeFan_keeps _ _).seq (State.leaveQueue_keeps _ _) (by decide) (by decide)
  dsimp only
  split
  · exact h.trans ((State.availabilityNotice_keeps _ _).mono (by decide))
  · exact h

theorem State.returnToService_keeps (s : State) (group : Nat) (g : Fan) :
    s.keepsBut (s.returnToService group g) fanParts := by
  unfold State.returnToService
  have h : s.keepsBut ((s.changeFan group (fun g =>
      { g with state := .stopped, faultCause := none })).judgeDrives group) fanParts :=
    (s.changeFan_keeps _ _).seq (State.judgeDrives_keeps _ _) (by decide) (List.Subset.refl _)
  dsimp only
  split
  · exact h.trans ((State.availabilityNotice_keeps _ _).mono (by decide))
  · exact h

theorem State.fireCause_keeps (s : State) (present : Bool) :
    s.keepsBut (s.fireCause present) [.zones, .signs] :=
  .forEach (fun _ s => s.changeCauses_keeps _ _) _ _

theorem State.enterFireMode_keeps (s : State) : s.keepsBut s.enterFireMode
    [.fire, .fans, .queue, .zones, .signs, .lights, .fireFlag, .items .main, .items .panel] :=
  (((((s.withFire_keeps _).seq (State.keepsBut.forEach (fun _ s => s.placeFire_keeps _) _ _) (by decide)
    (by decide)).trans ((State.fireCause_keeps _ _).mono (by decide))).trans
    ((State.recomputeSigns_keeps _).mono (by decide))).trans ((State.setFireFlag_keeps _ _).mono (by decide))).trans
    ((State.raise_keeps _ _ _ _).mono (by decide))

theorem State.leaveFireMode_keeps (s : State) : s.keepsBut s.leaveFireMode
    [.fire, .fans, .zones, .signs, .lights, .fireFlag, .items .main, .items .panel] :=
  (((((s.withFire_keeps _).seq (State.keepsBut.forEach (fun _ s => s.removeFire_keeps _) _ _) (by decide)
    (by decide)).trans ((State.fireCause_keeps _ _).mono (by decide))).trans
    ((State.recomputeSigns_keeps _).mono (by decide))).trans ((State.setFireFlag_keeps _ _).mono (by decide))).trans
    ((State.raise_keeps _ _ _ _).mono (by decide))

theorem State.moveFireZone_keeps (s : State) (zone : Nat) : s.keepsBut (s.moveFireZone zone)
    [.fire, .fans, .items .main, .items .panel] :=
  ((s.withFire_keeps _).seq (State.keepsBut.forEach (fun _ s => s.relevelFire_keeps _) _ _) (by decide)
    (by decide)).trans ((State.raise_keeps _ _ _ _).mono (by decide))

theorem State.restartPorts_keeps (s : State) : s.keepsBut s.restartPorts
    [.places .main, .places .panel, .enables .main, .enables .panel, .items .main, .items .panel] := by
  have h : s.keepsBut { s with main := s.main.restarted, panel := s.panel.restarted }
      [.places .main, .places .panel, .enables .main, .enables .panel, .items .main, .items .panel] := by
    intro f hf
    cases f with
    | link p => cases p <;> rfl
    | places p => cases p <;> simp at hf
    | enables p => cases p <;> simp at hf
    | items p => cases p <;> simp at hf
    | _ => rfl
  unfold State.restartPorts
  dsimp only
  split
  · exact h.trans ((State.raise_keeps _ _ _ _).mono (by decide))
  · exact h

theorem State.restartBlocks_keeps (s : State) : s.keepsBut s.restartBlocks
    (.bays :: .zones :: .fans :: .queue :: .signs :: .lights :: .fireFlag :: .fumeSet :: .nodes ::
      attParts ++ quietParts) := by
  have h1 : ∀ s : State, s.keepsBut s.restartRecords [.bays, .zones, .nodes] := fun s =>
    ((s.withBays_keeps _).seq (State.withNodes_keeps _ _) (by decide) (by decide)).seq (State.withZones_keeps _ _)
      (List.Subset.refl _) (by decide)
  have h2 : ∀ s : State, s.keepsBut s.restartFans [.fans, .queue, .slot, .fanNext] := fun s =>
    ((((s.withFans_keeps _).seq (State.withQueue_keeps _ _) (n := [.fans, .queue, .slot, .fanNext]) (by decide)
      (by decide)).trans ((State.withSlot_keeps _ _).mono (by decide))).trans ((State.withFans_keeps _ _).mono
      (by decide))).trans ((State.withFanNext_keeps _ _).mono (by decide))
  have h3 : ∀ s : State, s.keepsBut s.restartAir [.zones, .airNext] := fun s =>
    (s.withZones_keeps _).seq (State.withAirNext_keeps _ _) (by decide) (by decide)
  have h4 : ∀ s : State, s.keepsBut s.restartOutputs [.fireFlag, .fumeSet, .lights, .signs] := fun s =>
    (((s.withFireFlag_keeps _).seq (State.withFumeSet_keeps _ _) (n := [.fireFlag, .fumeSet, .lights, .signs])
      (by decide) (by decide)).trans ((State.withLights_keeps _ _).mono (by decide))).trans
      ((State.withSigns_keeps _ _).mono (by decide))
  exact ((((((h1 s).mono (by decide)).trans ((h2 _).mono (by decide))).trans ((h3 _).mono (by decide))).trans
    ((h4 _).mono (by decide))).trans ((State.restartPorts_keeps _).mono (by decide)))

/-- A move touches the parts it names alone. -/
theorem State.Move.keeps {s t : State} {l : List Field} (h : State.Move s t l) : s.keepsBut t l := by
  cases h with
  | quiet h => exact h
  | raise => exact s.raise_keeps _ _ _
  | attention p a => exact (s.withAtt_keeps p a).mono (by cases p <;> simp)
  | settings => exact s.withSettings_keeps _
  | nodes => exact s.withNodes_keeps _
  | putBay => exact s.putBay_keeps _ _
  | newBay => exact (s.withBays_keeps _).seq (State.recount_keeps _ _ _) (by decide) (by decide)
  | dropBay => exact (s.withBays_keeps _).seq (State.recount_keeps _ _ _) (by decide) (by decide)
  | credit => exact s.addCredit_keeps _ _
  | operatorCause => exact s.changeCauses_keeps _ _
  | newZone => exact s.withZones_keeps _
  | setZone => exact s.setZone_keeps _ _ _
  | dropZone => exact (s.withZones_keeps _).seq (State.withFumeSet_keeps _ _) (by decide) (by decide)
  | evaluate => exact s.evaluateZone_keeps _
  | movement => exact s.movement_keeps _
  | light => exact s.withLights_keeps _
  | newLight => exact s.withLights_keeps _
  | dropLight => exact s.withLights_keeps _
  | sign => exact s.withSigns_keeps _
  | newSign => exact s.withSigns_keeps _
  | dropSign => exact s.withSigns_keeps _
  | report => exact s.changeFan_keeps _ _
  | judgeDrives => exact s.judgeDrives_keeps _
  | isolate => exact s.isolate_keeps _ _
  | returnToService => exact s.returnToService_keeps _ _
  | installFan => exact s.installFan_keeps _ _ _
  | setFan => exact s.changeFanWhole_keeps _ _ _ _ _
  | dropFan => exact (s.removeFan_keeps _).seq (State.availabilityNotice_keeps _ _) (by decide) (by decide)
  | restack => exact (s.changeFan_keeps _ _).trans (State.retarget_keeps _ _)
  | retarget => exact s.retarget_keeps _
  | joinQueue => exact s.joinQueue_keeps _
  | quitQueue => exact (s.leaveQueue_keeps _).seq (State.changeFan_keeps _ _ _) (by decide) (by decide)
  | run => exact s.changeFan_keeps _ _
  | grantHead => exact (s.grant_keeps _).seq (State.takeSlot_keeps _) (by decide) (by decide)
  | enterFault => exact s.enterFault_keeps _ _
  | watchLine => exact s.withFire_keeps _
  | watchCodes => exact s.withFire_keeps _
  | enterFire => exact s.enterFireMode_keeps
  | leaveFire => exact s.leaveFireMode_keeps
  | moveFireZone => exact s.moveFireZone_keeps _
  | restart => exact s.restartBlocks_keeps
  | reset pins => 
    intro f hf
    cases f with
    | span i => cases i <;> simp at hf
    | link p => cases p <;> simp at hf
    | places p => cases p <;> simp at hf
    | enables p => cases p <;> simp at hf
    | items p => cases p <;> simp at hf
    | _ => simp at hf

end Sys2Proof.Machine

namespace Sys2Proof.Machine

/-! ### Tables whose records keep apart (R19, R130, R149, R168) -/

section Apart

variable {α β : Type}

/-- No two records of a table have the same value of `f`. -/
def Table.Apart (f : α → β) (t : Table α) : Prop := ∀ e ∈ t, ∀ e' ∈ t, f e.2 = f e'.2 → e = e'

/-- With rising numbers an entry after a write is the one written, or stood before under another number. -/
theorem Table.mem_set_rising {t : Table α} (hw : (Table.keys t).Pairwise (· < ·)) {k : Nat} {a : α} {e : Nat × α}
    (h : e ∈ Table.set t k a) : e = (k, a) ∨ e ∈ t ∧ e.1 ≠ k := by
  by_cases hk : e.1 = k
  · left
    have he := Table.get_of_mem (Table.rising_set hw k a) (k := e.1) (a := e.2) h
    rw [hk, Table.get_set] at he
    exact Prod.ext hk (Option.some.inj he).symm
  · rcases Table.mem_set h with h | h
    · exact .inl h
    · exact .inr ⟨h, hk⟩

/-- A write of a value that no other record has keeps the records apart. -/
theorem Table.Apart.set {f : α → β} {t : Table α} (h : Table.Apart f t) (hw : (Table.keys t).Pairwise (· < ·))
    {k : Nat} {a : α} (ha : ∀ e ∈ t, e.1 ≠ k → f e.2 ≠ f a) : Table.Apart f (Table.set t k a) := by
  intro e he e' he' hf
  rcases Table.mem_set_rising hw he with rfl | ⟨he, hk⟩ <;>
    rcases Table.mem_set_rising hw he' with rfl | ⟨he', hk'⟩
  · rfl
  · exact absurd hf.symm (ha _ he' hk')
  · exact absurd hf (ha _ he hk)
  · exact h e he e' he' hf

/-- A write that leaves the value of a record keeps the records apart. -/
theorem Table.Apart.set_same {f : α → β} {t : Table α} (h : Table.Apart f t)
    (hw : (Table.keys t).Pairwise (· < ·)) {k : Nat} {a b : α} (hb : Table.get t k = some b) (ha : f a = f b) :
    Table.Apart f (Table.set t k a) :=
  h.set hw (fun e he hk hf => hk (congrArg Prod.fst (h e he (k, b) (Table.mem_of_get hb) (hf.trans ha))))

theorem Table.Apart.modify {f : α → β} {t : Table α} (h : Table.Apart f t) (hw : (Table.keys t).Pairwise (· < ·))
    (k : Nat) {u : α → α} (hu : ∀ a, f (u a) = f a) : Table.Apart f (Table.modify t k u) := by
  unfold Table.modify
  cases hk : Table.get t k with
  | none => exact h
  | some a => exact h.set_same hw hk (hu a)

theorem Table.Apart.update {f : α → β} {t : Table α} (h : Table.Apart f t) {u : Nat → α → α}
    (hu : ∀ k a, f (u k a) = f a) : Table.Apart f (Table.update u t) := by
  intro e he e' he' hf
  obtain ⟨a, ha, hea⟩ := Table.mem_update he
  obtain ⟨b, hb, heb⟩ := Table.mem_update he'
  rw [hea, heb, hu, hu] at hf
  obtain ⟨hk, hab⟩ := Prod.mk.inj (h _ ha _ hb hf)
  exact Prod.ext hk (by rw [hea, heb, hk, hab])

theorem Table.Apart.erase {f : α → β} {t : Table α} (h : Table.Apart f t) (k : Nat) :
    Table.Apart f (Table.erase t k) :=
  fun e he e' he' => h e (Table.mem_erase he) e' (Table.mem_erase he')

/-- A condition that some record meets. -/
theorem Table.exists_iff {t : Table α} {p : Nat → α → Bool} :
    Table.exists t p = true ↔ ∃ e ∈ t, p e.1 e.2 = true := by
  induction t with
  | nil => simp [Table.exists, Table.find]
  | cons e t ih =>
    simp only [Table.exists, Table.find] at ih ⊢
    split
    · next h => simp [h]
    · next h => simpa [h] using ih

theorem Table.exists_eq_false {t : Table α} {p : Nat → α → Bool} :
    Table.exists t p = false ↔ ∀ e ∈ t, p e.1 e.2 = false := by
  rw [← Bool.not_eq_true, Table.exists_iff]
  simp

/-- A number found is that of a record that meets the condition. -/
theorem Table.find_some {t : Table α} {p : Nat → α → Bool} {n : Nat} (h : Table.find p t = some n) :
    ∃ a, (n, a) ∈ t ∧ p n a = true := by
  induction t with
  | nil => simp [Table.find] at h
  | cons e t ih =>
    simp only [Table.find] at h
    split at h
    · next hp => cases h; exact ⟨e.2, List.mem_cons_self, hp⟩
    · obtain ⟨a, ha, hp⟩ := ih h; exact ⟨a, List.mem_cons_of_mem _ ha, hp⟩

theorem Table.find_none {t : Table α} {p : Nat → α → Bool} (h : Table.find p t = none) :
    ∀ e ∈ t, p e.1 e.2 = false :=
  Table.exists_eq_false.1 (by simp [Table.exists, h])

end Apart

/-! ### The nodes (R154, R168) -/

/-- The place of a node: its address on its span. -/
abbrev Node.at (n : Node) : SpanId × Nat := (n.span, n.address)

/-- R154: addresses run from 1 to 126. -/
def Node.addressed (n : Node) : Prop := 1 ≤ n.address ∧ n.address ≤ 126

theorem Node.addressed.congr {n n' : Node} (hn : n.addressed) (h : n'.at = n.at) : n'.addressed := by
  obtain ⟨-, ha⟩ := Prod.mk.inj h
  rwa [Node.addressed, ha]

theorem State.tablesSound.nodes {s : State} (h : s.tablesSound) : Table.wf Config.nodes s.nodes := by
  obtain ⟨_, _, _, _, _, h⟩ := h; exact h
theorem State.tablesSound.lights {s : State} (h : s.tablesSound) : Table.wf Config.lights s.lights := by
  obtain ⟨_, _, _, _, h, _⟩ := h; exact h
theorem State.tablesSound.signs {s : State} (h : s.tablesSound) : Table.wf Config.signs s.signs := by
  obtain ⟨_, _, _, h, _, _⟩ := h; exact h
theorem State.tablesSound.fans {s : State} (h : s.tablesSound) : Table.wf Config.fans s.fans := by
  obtain ⟨_, _, h, _, _, _⟩ := h; exact h
theorem State.tablesSound.zones {s : State} (h : s.tablesSound) : Table.wf Config.zones s.zones := by
  obtain ⟨_, h, _, _, _, _⟩ := h; exact h
theorem State.tablesSound.bays {s : State} (h : s.tablesSound) : Table.wf Config.bays s.bays := by
  obtain ⟨h, _, _, _, _, _⟩ := h; exact h

/-- A record that a read gives has a number below its table's size. -/
theorem Table.wf.lt {α : Type} {size : Nat} {t : Table α} (h : Table.wf size t) {k : Nat} {a : α}
    (hk : Table.get t k = some a) : k < size := h.2 k (Table.mem_keys_of_get hk)

/-- New node records at places that keep apart and in range. -/
theorem State.placesSound.withNodes {s : State} (h : s.placesSound) {t : Table Node}
    (ha : Table.Apart Node.at t) (hr : ∀ e ∈ t, e.2.addressed) :
    (s.withNodes t).placesSound := by
  obtain ⟨hb, hs, hl, hf, _⟩ := h
  exact ⟨hb, hs, hl, hf, fun e he => ⟨hr e he, fun e' he' h1 h2 => ha e he e' he' (Prod.ext h1 h2)⟩⟩

theorem State.placesSound.nodesApart {s : State} (h : s.placesSound) : Table.Apart Node.at s.nodes := by
  obtain ⟨_, _, _, _, h⟩ := h
  exact fun e he e' he' hf => (h e he).2 e' he' (congrArg Prod.fst hf) (congrArg Prod.snd hf)

theorem State.placesSound.addresses {s : State} (h : s.placesSound) :
    ∀ e ∈ s.nodes, e.2.addressed := by
  obtain ⟨_, _, _, _, h⟩ := h
  exact fun e he => (h e he).1

theorem State.changeNode_runs (s : State) (node : Nat) {f : Node → Node} (hf : ∀ n, (f n).at = n.at) :
    s.Runs (s.changeNode node f) := by
  refine (State.Move.nodes _ (fun h => Table.wf_modify h.nodes node f) fun h hp => ?_).runs
  refine hp.withNodes (hp.nodesApart.modify h.nodes.1 node hf)
    (Table.forall_modify (p := Node.addressed) hp.addresses node fun n hn => hn.congr (hf n))

theorem State.updateNodes_runs (s : State) {f : Nat → Node → Node} (hf : ∀ k n, (f k n).at = n.at) :
    s.Runs (s.withNodes (Table.update f s.nodes)) := by
  refine (State.Move.nodes _ (fun h => Table.wf_update h.nodes f) fun h hp => ?_).runs
  refine hp.withNodes (hp.nodesApart.update hf)
    (Table.forall_update (p := Node.addressed) hp.addresses fun k n hn => hn.congr (hf k n))

theorem State.setNode_runs (s : State) {node : Nat} {n n' : Node} (hn : Table.get s.nodes node = some n)
    (ha : n'.at = n.at) : s.Runs (s.withNodes (Table.set s.nodes node n')) := by
  refine (State.Move.nodes _ (fun h => Table.wf_set_of_get h.nodes hn _) fun h hp => ?_).runs
  refine hp.withNodes (hp.nodesApart.set_same h.nodes.1 hn ha)
    (Table.forall_set (p := Node.addressed) hp.addresses node
      ((hp.addresses _ (Table.mem_of_get hn)).congr ha))

theorem State.changeSpan_runs (s : State) (i : SpanId) (f : Span → Span) : s.Runs (s.changeSpan i f) :=
  (s.changeSpan_keeps i f).quiet (by cases i <;> simp)

theorem State.closeRound_runs (s : State) (i : SpanId) : s.Runs (s.closeRound i) :=
  (s.closeRound_keeps i).quiet (by cases i <;> simp)

theorem State.atMs_runs (s : State) (t : Millis) : s.Runs (s.atMs t) := (s.atMs_keeps t).quiet

/-! ### The luminaire groups (R136 to R153) -/

/-- R136: a group that has taken its level from its table. -/
@[simp] theorem Light.relevel_levelSound (l : Light) : l.relevel.levelSound := by
  obtain ⟨_, _, _, st, _, _, _, ovr, _, _, _, _⟩ := l
  cases st <;> cases ovr <;> simp [Light.relevel, Light.levelSound]

@[simp] theorem Light.relevel_state (l : Light) : l.relevel.state = l.state := rfl
@[simp] theorem Light.relevel_zone (l : Light) : l.relevel.zone = l.zone := rfl
@[simp] theorem Light.relevel_node (l : Light) : l.relevel.node = l.node := rfl

/-- A change that leaves a group's place and forcing, its level standing by its table. -/
theorem State.LightMoves.stay {s : State} {group : Nat} {l l' : Light} (hn : l'.node = l.node) (hz : l'.zone = l.zone)
    (hf : l'.state = .forced ↔ l.state = .forced) (hl : l.levelSound → l'.levelSound) : s.LightMoves group l l' :=
  ⟨.inl hn, fun h => by rw [hf, hz]; exact h, hl⟩

theorem State.modifyLight_runs (s : State) (group : Nat) {f : Light → Light}
    (h : ∀ l, s.LightMoves group l (f l)) : s.Runs (s.withLights (Table.modify s.lights group f)) := by
  unfold Table.modify
  cases hg : Table.get s.lights group with
  | none => exact .refl
  | some l => exact (State.Move.light _ hg (h l)).runs

theorem State.changeLightOn_runs (s : State) (node : Nat) {f : Light → Light}
    (h : ∀ group l, s.LightMoves group l (f l)) : s.Runs (s.changeLightOn node f) := by
  unfold State.changeLightOn
  split
  · exact .refl
  · exact s.modifyLight_runs _ (h _)

theorem Light.dropOverride_moves (s : State) (group : Nat) (l : Light) (now : Seconds) :
    s.LightMoves group l (l.dropOverride now) := by
  unfold Light.dropOverride
  split
  · exact .stay rfl rfl Iff.rfl id
  · dsimp only
    split
    · exact .stay rfl rfl Iff.rfl fun _ => Light.relevel_levelSound _
    · next h => exact .stay rfl rfl (by simpa [Light.enterActive] using h) fun _ => Light.relevel_levelSound _

theorem Light.holdExpires_moves (s : State) (group : Nat) (l : Light) (now : Seconds) :
    s.LightMoves group l (l.holdExpires now) := by
  unfold Light.holdExpires Light.holdEnds
  split
  · next h =>
    split
    · exact .stay rfl rfl (by simp [h.1]) fun _ => Light.relevel_levelSound _
    · exact .stay rfl rfl (by simp [h.1, Light.enterEconomy]) fun _ => Light.relevel_levelSound _
  · exact .stay rfl rfl Iff.rfl id

theorem Light.rampStep_moves (s : State) (group : Nat) (l : Light) (now : Seconds) :
    s.LightMoves group l (l.rampStep now) := by
  unfold Light.rampStep
  split
  · exact .stay rfl rfl Iff.rfl id
  · split
    · next h =>
      unfold Light.ramped
      dsimp only
      split
      · exact .stay rfl rfl (by simp [h.1, Light.enterEconomy]) fun _ => Light.relevel_levelSound _
      · exact .stay rfl rfl Iff.rfl fun _ => Light.relevel_levelSound _
    · exact .stay rfl rfl Iff.rfl id

theorem Light.overrideExpires_moves (s : State) (group : Nat) (l : Light) (now : Seconds) :
    s.LightMoves group l (l.overrideExpires now) := by
  unfold Light.overrideExpires
  split
  · exact l.dropOverride_moves s group now
  · exact .stay rfl rfl Iff.rfl id

theorem State.overrideLight_moves (s : State) (group : Nat) (level duration : Option Nat) (l : Light) :
    s.LightMoves group l (s.overrideLight level duration l) := by
  unfold State.overrideLight
  split
  · exact .stay rfl rfl Iff.rfl fun _ => Light.relevel_levelSound _
  · exact l.dropOverride_moves s group _

/-- R149, R153: a group is FORCED exactly where it is due. -/
theorem Light.settled_spec (due : Bool) (now : Seconds) (l : Light) :
    ((l.settled due now).state = .forced ↔ due = true) ∧ (l.settled due now).levelSound ∧
      (l.settled due now).zone = l.zone ∧ (l.settled due now).node = l.node := by
  cases due <;> simp [Light.settled, Light.enterForced, Light.enterActive]

/-- R150: landing leaves a group FORCED or not as it was. -/
theorem Light.landed_spec (l : Light) : (l.landed.state = .forced ↔ l.state = .forced) ∧ l.landed.levelSound ∧
    l.landed.zone = l.zone ∧ l.landed.node = l.node := by
  unfold Light.landed
  split
  · next h => simp [Light.enterEconomy, h.1]
  · simp

/-- R150: forcing judged against a new zone. -/
theorem Light.rezoned_spec (due : Bool) (now : Seconds) (zone : Nat) (l : Light) :
    ((l.rezoned due now zone).state = .forced ↔ due = true) ∧ (l.rezoned due now zone).zone = zone ∧
      (l.rezoned due now zone).node = l.node := by
  cases due
  · simp [Light.rezoned, Light.enterActive]
  · by_cases h : l.state = .forced <;> simp [Light.rezoned, Light.enterForced, h]

theorem State.changedLight_moves (s : State) (group zone node : Nat) (st : LightSettings) (l : Light)
    (hn : node = l.node ∨ s.lightNodeClash group node = false) :
    s.LightMoves group l (s.changedLight zone node st l) := by
  have h2 : ∀ {l2 : Light}, l2 = (if node = l.node then l.relimited st
      else (l.relimited st).renoded node (s.unreachable node)) →
      l2.state = l.state ∧ l2.zone = l.zone ∧ l2.node = node := by
    rintro l2 rfl
    split
    · next h => exact ⟨rfl, rfl, h.symm⟩
    · exact ⟨rfl, rfl, rfl⟩
  unfold State.changedLight
  dsimp only
  generalize hl2 : (if node = l.node then l.relimited st
      else (l.relimited st).renoded node (s.unreachable node)) = l2
  obtain ⟨hst, hz, hnode⟩ := h2 hl2.symm
  split
  · obtain ⟨hf, hl, hz', hn'⟩ := l2.landed_spec
    refine ⟨by rw [hn', hnode]; exact hn, fun h => ?_, fun _ => hl⟩
    rw [hf, hz', hst, hz]; exact h
  · obtain ⟨hf, hl, hz', hn'⟩ := (l2.rezoned (s.dueForForcing zone) s.seconds zone).landed_spec
    obtain ⟨rf, rz, rn⟩ := l2.rezoned_spec (s.dueForForcing zone) s.seconds zone
    refine ⟨by rw [hn', rn, hnode]; exact hn, fun _ => ?_, fun _ => hl⟩
    rw [hf, hz', rz, rf]

/-! ### The signs (R119 to R131) -/

/-- R123: a sign whose content is current is sound once its dirty flag is judged. -/
theorem Sign.judged_soundIn {s : State} {g : Sign} (h : g.content = s.contentOf g.config) : g.judged.soundIn s :=
  ⟨h, by simp [Sign.judged]⟩

/-- A change that leaves a sign's definition, its soundness kept. -/
theorem State.SignMoves.stay {s : State} {sign : Nat} {g g' : Sign} (hc : g'.config = g.config)
    (hs : g.soundIn s → g'.soundIn s) : s.SignMoves sign g g' :=
  ⟨.inl (by rw [hc]), by rw [hc]; exact id, hs⟩

theorem State.changeSignOn_runs (s : State) (node : Nat) {f : Sign → Sign}
    (h : ∀ sign g, s.SignMoves sign g (f g)) : s.Runs (s.changeSignOn node f) := by
  unfold State.changeSignOn
  split
  · exact .refl
  · next n _ =>
    unfold Table.modify
    cases hg : Table.get s.signs n with
    | none => exact .refl
    | some g => exact (State.Move.sign _ hg (h n g)).runs

theorem Sign.lost_moves (s : State) (sign : Nat) (g : Sign) : s.SignMoves sign g g.lost := .stay rfl id

theorem Sign.restored_moves (s : State) (sign : Nat) (g : Sign) : s.SignMoves sign g g.restored :=
  .stay rfl fun h => Sign.judged_soundIn h.1

theorem Sign.answered_moves (s : State) (sign : Nat) (accepted fault : Bool) (g : Sign) :
    s.SignMoves sign g (g.answered accepted fault) := by
  unfold Sign.answered
  dsimp only
  split
  · exact .stay rfl id
  · split
    · exact .stay rfl fun h => Sign.judged_soundIn h.1
    · exact .stay rfl fun h => Sign.judged_soundIn h.1

/-! ### The bays (R2 to R20) -/

/-- A change that leaves a bay's place. -/
theorem State.BayMoves.stay {s : State} {bay : Nat} {old b : Bay} (hz : b.zone = old.zone) (hn : b.node = old.node)
    (hc : b.channel = old.channel) (hr : old.reservationSound → b.reservationSound) : s.BayMoves bay old b :=
  ⟨.inl hz, .inl ⟨hn, hc⟩, hr⟩

theorem Bay.unreserved_moves (s : State) (bay : Nat) (b : Bay) : s.BayMoves bay b b.unreserved := by
  refine .stay rfl rfl rfl fun _ => ?_
  unfold Bay.unreserved Bay.reservationSound
  dsimp only
  split <;> simp_all

theorem Bay.lost_moves (s : State) (bay : Nat) (b : Bay) : s.BayMoves bay b b.lost :=
  .stay rfl rfl rfl fun _ => ⟨by simp [Bay.lost], fun _ => .inr (.inr rfl)⟩

/-- R4 to R7: a reading leaves a bay in its place, and R14 holds of what it makes of it. -/
theorem Bay.read_moves (s : State) (bay na nd : Nat) (r : Reading) (b : Bay) :
    s.BayMoves bay b (b.read na nd r).bay := by
  have occupied : s.BayMoves bay b b.occupied.bay :=
    .stay rfl rfl rfl fun _ => by simp [Bay.occupied, Bay.reservationSound]
  have vacant : s.BayMoves bay b b.vacant := by
    refine .stay rfl rfl rfl fun _ => ?_
    by_cases h : b.reservation.isSome = true <;> simp [Bay.vacant, Bay.reservationSound, h]
  have same : s.BayMoves bay b b := .stay rfl rfl rfl id
  have arriving : s.BayMoves bay b (b.arriving na).bay := by
    unfold Bay.arriving
    split
    · exact occupied
    · exact .stay rfl rfl rfl fun _ => by simp [Bay.reservationSound]
  have noReservation : b.state ≠ .reserved → b.state ≠ .arriving → b.state ≠ .unknown → b.reservationSound →
      b.reservation.isSome = false := fun h1 h2 h3 h => by
    refine Bool.eq_false_iff.2 fun hr => ?_
    rcases h.2 hr with h' | h' | h' <;> contradiction
  have counts : ∀ n, s.BayMoves bay b { b with confirm := n } := fun n => .stay rfl rfl rfl fun h => h
  have moved : ∀ st n, st ≠ .reserved → (b.state = .occupied ∨ b.state = .leaving) →
      s.BayMoves bay b { b with state := st, confirm := n } := fun st n hst hb => by
    refine .stay rfl rfl rfl fun h => ?_
    have hn := noReservation (by rcases hb with hb | hb <;> simp [hb]) (by rcases hb with hb | hb <;> simp [hb])
      (by rcases hb with hb | hb <;> simp [hb]) h
    exact ⟨fun h' => absurd h' hst, fun h' => absurd (hn.symm.trans h') (by decide)⟩
  unfold Bay.read
  split
  · exact arriving
  · exact arriving
  · exact arriving
  · split
    · exact occupied
    · exact counts _
  · exact same
  · next h => exact moved _ _ (by decide) (.inr h)
  · exact vacant
  · exact vacant
  · exact same
  · exact same
  · next h =>
    split
    · exact moved _ _ (by decide) (.inl h)
    · exact moved _ _ (by decide) (.inl h)
  · next h =>
    split
    · exact moved _ _ (by decide) (.inr h)
    · exact counts _
  · exact b.lost_moves s bay
  · exact b.lost_moves s bay

theorem State.applyReading_runs (s : State) (node channel : Nat) (r : Reading) :
    s.Runs (s.applyReading node channel r) := by
  unfold State.applyReading
  split
  · exact .refl
  · split
    · exact .refl
    · next b hb =>
      have h := (State.Move.putBay _ hb (b.read_moves s _ s.settings.arrivalConfirm
        s.settings.departureConfirm r)).runs
      dsimp only
      split
      · exact h
      · exact (h.trans (State.Move.credit _ _).runs).trans (State.Move.movement _).runs

theorem State.loseBay_runs (s : State) (node channel : Nat) : s.Runs (s.loseBay node channel) := by
  unfold State.loseBay
  split
  · exact .refl
  · split
    · exact .refl
    · next b hb => exact (State.Move.putBay _ hb (b.lost_moves s _)).runs

theorem State.expireReservation_runs (s : State) (bay : Nat) : s.Runs (s.expireReservation bay) := by
  unfold State.expireReservation
  split
  · exact .refl
  · next b hb =>
    refine .ite (fun _ => ?_) (fun _ => .refl)
    refine (State.Move.putBay _ hb (b.unreserved_moves s bay)).runs.trans (State.Move.raise _ _ _ fun h => ?_).runs
    exact h.bays.lt (State.putBay_spec hb _).1

/-! ### Fan groups (R76 to R96) -/

theorem Fan.withReport_nodes (node : Nat) (r : Option DriveReport) (g : Fan) :
    (g.withReport node r).drives.map (fun d => d.node) = g.drives.map (fun d => d.node) := by
  simp only [Fan.withReport, List.map_map]
  exact List.map_congr_left fun d _ => by by_cases h : d.node = node <;> simp [h]

theorem State.driveAnswer_runs (s : State) (node : Nat) (r : DriveReport) : s.Runs (s.driveAnswer node r) := by
  unfold State.driveAnswer
  split
  · exact .refl
  · refine (State.Move.report _ _ (fun g => ?_) fun g => ?_).runs.trans (State.Move.judgeDrives _).runs
    · dsimp only; split <;> rfl
    · dsimp only; split <;> exact g.withReport_nodes node _

theorem State.driveLost_runs (s : State) (node : Nat) : s.Runs (s.driveLost node) := by
  unfold State.driveLost
  split
  · exact .refl
  · exact (State.Move.report _ _ (fun _ => rfl) fun g => g.withReport_nodes node _).runs.trans
      (State.Move.judgeDrives _).runs

theorem State.driveRestored_runs (s : State) (node : Nat) : s.Runs (s.driveRestored node) := by
  unfold State.driveRestored
  split
  · exact .refl
  · exact (State.Move.judgeDrives _).runs

/-- R95, R96: an action changes only the groups in the states it names. -/
theorem State.control_runs (s : State) (a : FanAction) (group : Nat) : s.Runs (s.control a group) := by
  unfold State.control
  split
  · exact .refl
  · next g hg =>
    refine .ite (fun _ => .refl) fun h => ?_
    cases a with
    | isolate => exact (State.Move.isolate hg).runs
    | restore => exact (State.Move.returnToService hg (by simp_all [FanAction.changes])).runs
    | clearFault => exact (State.Move.returnToService hg (by simp_all [FanAction.changes])).runs

/-- R88: a running goal lies between Vmin and 100. -/
theorem Fan.moved_moves {g : Fan} (hs : g.state = .running) : g.RunMoves g.moved := by
  refine ⟨rfl, .inl hs, fun ⟨hv, hi, ho, hl, ht, hn, hr⟩ => ⟨hv, hi, ho, hl, ht, fun h => absurd hs h, fun _ => ?_⟩⟩
  obtain ⟨h1, h2⟩ := hr hs
  have hgoal : g.settings.vmin ≤ g.goal ∧ g.goal ≤ 100 := by unfold Fan.goal; omega
  unfold Fan.moved
  dsimp only
  split
  · exact hgoal
  · split <;> omega

theorem Fan.stopped_speed {g : Fan} (h : g.speedSound) : g.stopped.speedSound := by
  obtain ⟨hv, hi, ho, hl, ht, _, _⟩ := h
  exact ⟨hv, hi, ho, hl, ht, fun _ => rfl, fun h => by simp [Fan.stopped] at h⟩

theorem Fan.windDown_moves {g : Fan} (hs : g.state = .running) (now : Seconds) : g.RunMoves (g.windDown now) := by
  have stops : g.RunMoves g.stopped := ⟨rfl, .inr rfl, Fan.stopped_speed⟩
  unfold Fan.windDown
  split
  · exact stops
  · split
    · refine ⟨rfl, .inl hs, fun ⟨hv, hi, ho, hl, ht, hn, hr⟩ => ⟨hv, hi, ho, hl, ht, fun h => absurd hs h, fun _ => ?_⟩⟩
      obtain ⟨h1, h2⟩ := hr hs
      dsimp only
      omega
    · split
      · exact stops
      · exact ⟨rfl, .inl hs, id⟩

theorem State.stepGroup_runs (s : State) (group : Nat) : s.Runs (s.stepGroup group) := by
  have h := (State.Move.retarget (s := s) group).runs
  unfold State.stepGroup
  dsimp only
  split
  · exact h
  · next g hg =>
    refine h.trans ?_
    unfold State.stepAction
    split
    · exact .refl
    · exact .refl
    · next hs => exact State.Runs.ite (fun _ => (State.Move.joinQueue hg hs).runs) fun _ => .refl
    · next hs => exact State.Runs.ite (fun _ => (State.Move.quitQueue hg hs).runs) fun _ => .refl
    · next hs =>
      exact State.Runs.ite (fun _ => (State.Move.run _ hg hs (Fan.moved_moves hs)).runs.trans (State.Move.judgeDrives _).runs)
        fun _ => (State.Move.run _ hg hs (Fan.windDown_moves hs _)).runs

theorem State.fanStepAll_runs (s : State) : s.Runs s.fanStepAll :=
  ((s.withFanNext_keeps _).quiet).trans (State.Runs.forEach (fun n s => s.stepGroup_runs n) _ _)

theorem State.slotExpires_runs (s : State) : s.Runs s.slotExpires := by
  unfold State.slotExpires
  split
  · split
    · exact (s.withSlot_keeps _).quiet
    · next hq => exact (State.Move.grantHead hq).runs
  · exact .refl

theorem State.proofExpires_runs (s : State) (group : Nat) : s.Runs (s.proofExpires group) := by
  unfold State.proofExpires
  split
  · exact .refl
  · next g hg =>
    split
    · exact .refl
    · refine .ite (fun h => ?_) fun _ => .refl
      simp only [Bool.and_eq_true, decide_eq_true_eq] at h
      exact (State.Move.enterFault _ hg h.1).runs

/-! ### Override stacks (R81 to R84) -/

/-- R84: a FIRE entry has no expiry, so the entries that fall due are of the other classes. -/
theorem stackMoves_expire (fire : Bool) (now : Seconds) (st : List Entry) :
    StackMoves fire st (st.filter (fun e => !dueNow now e.expiry)) := by
  refine ⟨fun ⟨hlen, hrise, hfire, hexp⟩ => ?_, fun h e he => h e (List.mem_of_mem_filter he)⟩
  refine ⟨(List.length_filter_le _ _).trans hlen, hrise.filter _, ?_,
    fun e he => hexp e (List.mem_of_mem_filter he)⟩
  rw [List.filter_filter, ← hfire]
  refine congrArg List.length (List.filter_congr fun e he => ?_)
  by_cases hc : e.cls = .fire
  · simp [hc, hexp e he hc, dueNow]
  · simp [hc]

theorem Cls.rank_lt_fire {c : Cls} (h : c ≠ .fire) : c.rank < Cls.rank .fire := by cases c <;> simp_all [Cls.rank]

/-- R82: an entry that the top does not outrank goes on a stack that is not full. -/
theorem stackMoves_push {g : Fan} (fire : Bool) {e : Entry} (he : e.cls ≠ .fire) (hl : e.level ≤ 100)
    (hout : g.outranks e.cls = false) (hlen : g.stack.length < Config.stackDepth) :
    StackMoves fire g.stack (g.stack ++ [e]) := by
  refine ⟨fun ⟨_, hrise, hfire, hexp⟩ => ⟨by simpa using hlen, ?_, ?_, ?_⟩, fun h x hx => ?_⟩
  · refine List.pairwise_append.2 ⟨hrise, List.pairwise_singleton _ _, fun a ha b hb => ?_⟩
    obtain rfl := List.mem_singleton.1 hb
    obtain ⟨x, hx⟩ : ∃ x, g.stack.getLast? = some x := by
      cases h : g.stack.getLast? with
      | none => simp_all
      | some x => exact ⟨x, rfl⟩
    have htop : x.cls.rank ≤ b.cls.rank := by simpa [Fan.outranks, Fan.top, hx] using hout
    refine Nat.le_trans ?_ htop
    obtain ⟨l, hl'⟩ := List.getLast?_eq_some_iff.1 hx
    rw [hl'] at ha hrise
    rcases List.mem_append.1 ha with ha | ha
    · exact (List.pairwise_append.1 hrise).2.2 a ha x (by simp)
    · rw [List.mem_singleton.1 ha]
  · simpa [List.filter_append, he] using hfire
  · intro x hx
    rcases List.mem_append.1 hx with hx | hx
    · exact hexp x hx
    · rw [List.mem_singleton.1 hx]; exact fun h => absurd h he
  · rcases List.mem_append.1 hx with hx | hx
    · exact h x hx
    · rwa [List.mem_singleton.1 hx]

/-- R83: the top entry comes off where it is not FIRE. -/
theorem stackMoves_pop {g : Fan} (fire : Bool) (h : g.fireTop = false) :
    StackMoves fire g.stack g.stack.dropLast := by
  refine ⟨fun ⟨hlen, hrise, hfire, hexp⟩ => ?_, fun h e he => h e (List.mem_of_mem_dropLast he)⟩
  refine ⟨by simp only [List.length_dropLast]; omega, hrise.sublist (List.dropLast_sublist _), ?_,
    fun e he => hexp e (List.mem_of_mem_dropLast he)⟩
  rw [← hfire]
  cases hx : g.stack.getLast? with
  | none => simp_all
  | some x =>
    obtain ⟨l, hl⟩ := List.getLast?_eq_some_iff.1 hx
    have hne : x.cls ≠ .fire := by simpa [Fan.fireTop, Fan.top, hx] using h
    simp [hl, hne]

/-! ### Nodes and their owners (R160 to R167) -/

theorem State.gasAnswer_runs (s : State) (node co no2 : Nat) (st : HeadStatus) :
    s.Runs (s.gasAnswer node co no2 st) := by
  unfold State.gasAnswer
  split
  · exact .refl
  · next n hn =>
    dsimp only
    refine State.Runs.ite (fun _ => ?_) fun _ => s.setNode_runs hn rfl
    refine (s.setNode_runs hn ?_).trans (State.Move.raise .node node _ fun ht => ?_).runs
    · rfl
    · exact Nat.lt_of_lt_of_le (ht.nodes.lt (Table.get_set _ _ _)) (by simp [Config.nodes, AttClass.objects])

theorem State.noticeLost_runs (s : State) (node : Nat) (k : NodeKind) : s.Runs (s.noticeLost node k) := by
  cases k with
  | sensor => exact State.Runs.forEach (fun c s => s.loseBay_runs node c) _ _
  | gas => exact s.changeNode_runs node fun _ => rfl
  | dimmer => exact s.changeLightOn_runs node fun _ _ => .stay rfl rfl Iff.rfl id
  | fan => exact s.driveLost_runs node
  | sign => exact s.changeSignOn_runs node fun n g => g.lost_moves s n

theorem State.noticeRestored_runs (s : State) (node : Nat) (k : NodeKind) : s.Runs (s.noticeRestored node k) := by
  cases k with
  | sensor => exact .refl
  | gas => exact .refl
  | dimmer => exact s.changeLightOn_runs node fun _ _ => .stay rfl rfl Iff.rfl id
  | fan => exact s.driveRestored_runs node
  | sign => exact s.changeSignOn_runs node fun n g => g.restored_moves s n

/-- A node stays defined while its owners are told. -/
theorem State.noticeLost_has {s : State} {node : Nat} {n : Node} (h : Table.get s.nodes node = some n)
    (k : NodeKind) : ∃ n', Table.get (s.noticeLost node k).nodes node = some n' := by
  have kept : ∀ t : State, t.nodes = s.nodes → ∃ n', Table.get t.nodes node = some n' :=
    fun t ht => ⟨n, by rw [ht, h]⟩
  cases k with
  | gas => exact ⟨{ n with head := { n.head with status := .unreported } },
      by simp [State.noticeLost, State.loseGasHead, h]⟩
  | sensor => exact kept _ (s.loseHead_keeps node .nodes (by decide))
  | dimmer => exact kept _ (s.changeLightOn_keeps node _ .nodes (by decide))
  | fan => exact kept _ (s.driveLost_keeps node .nodes (by decide))
  | sign => exact kept _ (s.changeSignOn_keeps node _ .nodes (by decide))

theorem State.changeNode_get {s : State} {node : Nat} {n : Node} (h : Table.get s.nodes node = some n)
    (f : Node → Node) : Table.get (s.changeNode node f).nodes node = some (f n) := by
  simp [State.changeNode, h]

/-- An item of a defined node. -/
theorem State.raiseNode_runs (s : State) {node : Nat} {n : Node} (h : Table.get s.nodes node = some n) (r : Reason) :
    s.Runs (s.raise .node node r) :=
  (State.Move.raise _ _ _ fun ht =>
    Nat.lt_of_lt_of_le (ht.nodes.lt h) (by simp [Config.nodes, AttClass.objects])).runs

theorem State.silenceNode_runs (s : State) (node : Nat) : s.Runs (s.silenceNode node) := by
  unfold State.silenceNode
  split
  · exact .refl
  · next n hn =>
    have h1 := s.changeNode_runs node (f := fun n => { n with liveness := .silent, roundsPassed := 0, due := false })
      fun _ => rfl
    obtain ⟨n', hn'⟩ := State.noticeLost_has (State.changeNode_get hn _) n.kind
    exact (h1.trans (State.noticeLost_runs _ _ _)).trans (State.raiseNode_runs _ hn' _)

theorem State.suspendNow_runs (s : State) (node : Nat) : s.Runs (s.suspendNow node) := by
  unfold State.suspendNow
  split
  · exact .refl
  · refine (s.changeNode_runs node ?_).trans (State.noticeLost_runs _ _ _)
    exact fun _ => rfl

theorem State.resumeNow_runs (s : State) (node : Nat) : s.Runs (s.resumeNow node) := by
  unfold State.resumeNow
  split
  · exact .refl
  · refine (s.changeNode_runs node ?_).trans (State.noticeRestored_runs _ _ _)
    exact fun _ => rfl

theorem State.handAnswer_runs (s : State) (node : Nat) (k : NodeKind) (content : List Byte) (rebound : Bool) :
    s.Runs (s.handAnswer node k content rebound) := by
  cases k with
  | sensor =>
    have h : s.Runs (s.applyReadings node content) := State.Runs.forEach (fun _ s => s.applyReading_runs _ _ _) _ _
    refine .ite (fun _ => h.trans ?_) fun _ => h
    unfold State.aislePresence
    split
    · exact .refl
    · exact (State.Move.movement _).runs
  | gas => exact .ite (fun _ => .refl) fun _ => s.gasAnswer_runs _ _ _ _
  | dimmer => exact s.changeLightOn_runs node fun _ _ => .stay rfl rfl Iff.rfl id
  | fan => exact s.driveAnswer_runs node _
  | sign => exact s.changeSignOn_runs node fun n g => g.answered_moves s n _ _

/-- What the notice of a restored node leaves of the node table. -/
theorem State.noticeRestored_nodes (s : State) (node : Nat) (k : NodeKind) :
    (s.noticeRestored node k).nodes = s.nodes :=
  s.noticeRestored_keeps_own node k .nodes (by cases k <;> simp [ownerParts])

theorem State.goodVisit_runs (s : State) (node : Nat) (content : List Byte) (rebound : Bool) :
    s.Runs (s.goodVisit node content rebound) := by
  unfold State.goodVisit
  split
  · exact .refl
  · next n hn =>
    refine Relation.ReflTransGen.trans ?_ (State.handAnswer_runs _ _ _ _ _)
    split
    · exact s.changeNode_runs node fun _ => rfl
    · refine ((s.changeNode_runs node ?_).trans (State.noticeRestored_runs _ _ _)).trans
        (State.raiseNode_runs _ (n := { n with missCount := 0, liveness := .live, due := false }) ?_ _)
      · exact fun _ => rfl
      · rw [State.noticeRestored_nodes, State.changeNode_get hn]
    · exact s.changeNode_runs node fun _ => rfl
    · exact s.changeNode_runs node fun _ => rfl

theorem State.failedVisit_runs (s : State) (node : Nat) (e : VisitError) : s.Runs (s.failedVisit node e) := by
  unfold State.failedVisit
  split
  · exact .refl
  · next n _ =>
    have h := s.changeNode_runs node
      (f := fun m => { m with missCount := min 15 (n.missCount + 1), lastError := some e }) fun _ => rfl
    exact .ite (fun _ => h.trans (State.silenceNode_runs _ _)) fun _ => h

theorem State.applySuspension_runs (s : State) (node : Nat) : s.Runs (s.applySuspension node) := by
  unfold State.applySuspension
  split
  · exact .refl
  · exact .ite (fun _ => s.suspendNow_runs node) fun _ => .refl

theorem State.applyOutcome_runs (s : State) (v : Visit) (e : VisitEnd) : s.Runs (s.applyOutcome v e) := by
  cases e with
  | good content => exact (s.goodVisit_runs _ _ _).trans (State.applySuspension_runs _ _)
  | failed e => exact (s.failedVisit_runs _ _).trans (State.applySuspension_runs _ _)

end Sys2Proof.Machine

namespace Sys2Proof.Machine

/-! ### The spans (R155 to R165) -/

theorem State.beginRound_runs (s : State) (i : SpanId) : s.Runs (s.beginRound i) := by
  refine ((s.updateNodes_runs ?_).trans (State.changeSpan_runs _ _ _)).trans (State.closeRound_runs _ _)
  intro _ n
  unfold Node.judgeRevisit
  split
  · split
    · split <;> rfl
    · rfl
  · rfl

theorem State.endVisit_runs (s : State) (i : SpanId) (e : VisitEnd) : s.Runs (s.endVisit i e) := by
  unfold State.endVisit
  split
  · exact .refl
  · have h1 := s.changeSpan_runs i (fun p => { p with visit := none })
    dsimp only
    split
    · exact ((h1.trans (State.applyOutcome_runs _ _ _)).trans (State.changeSpan_runs _ _ _)).trans
        (State.closeRound_runs _ _)
    · exact (h1.trans (State.changeSpan_runs _ _ _)).trans (State.closeRound_runs _ _)
    · exact (h1.trans (State.applySuspension_runs _ _)).trans (State.beginRound_runs _ _)
    · exact h1.trans (State.beginRound_runs _ _)

theorem State.spanByte_runs (s : State) (i : SpanId) (b : Byte) (stopOk : Bool) :
    s.Runs (s.spanByte i b stopOk) := by
  have h0 := s.changeSpan_runs i (Span.lineByte s.ms)
  have h1 : s.Runs (if stopOk = true then s.changeSpan i (Span.lineByte s.ms)
      else (s.changeSpan i (Span.lineByte s.ms)).withFreeCount (s.freeCount + 1)) :=
    .ite (fun _ => h0) fun _ => h0.trans ((State.withFreeCount_keeps _ _).quiet)
  unfold State.spanByte
  dsimp only
  split
  · exact h0
  · split
    · exact h1
    · split
      · exact h1.trans (State.changeSpan_runs _ _ _)
      · exact (h1.trans (State.changeSpan_runs _ _ _)).trans (State.endVisit_runs _ _ _)

theorem State.startRound_runs (s : State) (i : SpanId) : s.Runs (s.startRound i) :=
  .ite (fun _ => (s.atMs_runs _).trans (State.beginRound_runs _ _)) fun _ => .refl

theorem State.beginVisit_runs (s : State) (i : SpanId) (node : Nat) : s.Runs (s.beginVisit i node) := by
  unfold State.beginVisit
  split
  · exact .refl
  · next n _ =>
    refine Relation.ReflTransGen.trans ?_ (State.changeSpan_runs _ _ _)
    cases n.kind with
    | sign => exact s.changeSignOn_runs node fun _ _ => .stay rfl id
    | _ => exact .refl

theorem State.startVisit_runs (s : State) (i : SpanId) : s.Runs (s.startVisit i) := by
  unfold State.startVisit
  split
  · dsimp only
    split
    · exact (s.atMs_runs _).trans (State.closeRound_runs _ _)
    · exact (s.atMs_runs _).trans (State.beginVisit_runs _ _ _)
  · exact .refl

theorem State.answerLimitPasses_runs (s : State) (i : SpanId) : s.Runs (s.answerLimitPasses i) := by
  unfold State.answerLimitPasses
  split
  · exact .refl
  · exact .ite (fun _ => (s.atMs_runs _).trans (State.endVisit_runs _ _ _)) fun _ => .refl

theorem State.answerGapPasses_runs (s : State) (i : SpanId) : s.Runs (s.answerGapPasses i) := by
  unfold State.answerGapPasses
  split
  · exact .refl
  · exact .ite (fun _ => .refl) fun _ => (s.atMs_runs _).trans (State.endVisit_runs _ _ _)

/-- The item of a span (R163, R165). -/
theorem State.raiseSpan_runs (s : State) (i : SpanId) (r : Reason) :
    s.Runs (s.raise .node (256 + spanNumber i) r) :=
  (State.Move.raise .node _ _ fun _ => by cases i <;> simp [spanNumber, AttClass.objects]).runs

theorem State.lineStuck_runs (s : State) (i : SpanId) : s.Runs (s.lineStuck i) :=
  .ite (fun _ => (((s.answerLimitPasses_runs i).trans (State.atMs_runs _ _)).trans
    (State.changeSpan_runs _ _ _)).trans (State.raiseSpan_runs _ _ _)) fun _ => .refl

theorem State.silenceAt_runs (s : State) (i : SpanId) (address : Nat) : s.Runs (s.silenceAt i address) := by
  unfold State.silenceAt
  split
  · exact .refl
  · split
    · exact .refl
    · exact .ite (fun _ => s.silenceNode_runs _) fun _ => .refl

theorem State.silenceStuck_runs (s : State) (i : SpanId) : s.Runs (s.silenceStuck i) := by
  unfold State.silenceStuck
  split
  · exact .refl
  · exact .ite (fun _ => .refl) fun _ => ((s.atMs_runs _).trans (State.changeSpan_runs _ _ _)).trans
      (State.Runs.forEach (fun a s => s.silenceAt_runs i a) _ _)

theorem State.retryStuck_runs (s : State) (i : SpanId) (idle : Bool) : s.Runs (s.retryStuck i idle) := by
  unfold State.retryStuck
  split
  · exact .refl
  · exact .ite (fun _ => ((((s.atMs_runs _).trans (State.changeSpan_runs _ _ _)).trans
      (State.raiseSpan_runs _ _ _)).trans (State.closeRound_runs _ _)))
      fun _ => (s.atMs_runs _).trans (State.changeSpan_runs _ _ _)

/-! ### The fire monitor, RESTART (R103 to R110, R194) -/

theorem State.filterDue_runs (s : State) : s.Runs s.filterDue := by
  unfold State.filterDue
  split
  · exact .refl
  · next due hdue =>
    have hc : ∀ t, (s.atMs t).fire.change.isSome = true := fun t => by simp [hdue]
    exact .ite (fun h => (s.atMs_runs _).trans (State.Move.leaveFire (hc _) h).runs)
      fun h => (s.atMs_runs _).trans (State.Move.enterFire (hc _) (by simpa using h)).runs

theorem State.pendingZoneDue_runs (s : State) : s.Runs s.pendingZoneDue := by
  unfold State.pendingZoneDue
  split
  · exact .refl
  · exact .ite (fun h => (s.atMs_runs _).trans (State.Move.moveFireZone (s := s.atMs _) _ h).runs) fun _ => .refl

theorem State.restartSpan_runs (s : State) (i : SpanId) : s.Runs (s.restartSpan i) :=
  .ite (fun _ => (s.changeSpan_runs i _).trans (State.beginRound_runs _ _)) fun _ => s.changeSpan_runs i _

theorem State.restartEffect_runs (s : State) : s.Runs s.restartEffect :=
  ((((State.Move.restart (s := s)).runs.trans (State.restartSpan_runs _ _)).trans (State.restartSpan_runs _ _)).trans
    (State.restartSpan_runs _ _)).trans (State.restartSpan_runs _ _)

/-! ### The requests (R179) -/

theorem need_runs {s : State} {b : Bool} {r : Result} {v : Served} (h : b = true → s.Runs v.state) :
    s.Runs (need b r s v).state := by
  cases b with
  | false => exact .refl
  | true => exact h rfl

theorem within_iff {lo hi n : Nat} : within lo hi n = true ↔ lo ≤ n ∧ n ≤ hi := by simp [within]

theorem optWithin_some {lo hi n : Nat} : optWithin lo hi (some n) = true ↔ lo ≤ n ∧ n ≤ hi := within_iff

/-- A value given in its range, or that of the base. -/
theorem optWithin_getD {lo hi n : Nat} {o : Option Nat} (h : optWithin lo hi o = true) (hn : lo ≤ n ∧ n ≤ hi) :
    lo ≤ o.getD n ∧ o.getD n ≤ hi := by
  cases o with
  | none => exact hn
  | some m => exact optWithin_some.1 h

theorem serveChangeBay_runs (s : State) (c : Cls) (bay mode : Nat) (marks : Byte) :
    s.Runs (serveChangeBay c bay mode marks s).state := by
  unfold serveChangeBay
  split
  · refine need_runs fun _ => need_runs fun _ => ?_
    split
    · exact .refl
    · next b hb =>
      refine (State.Move.putBay _ hb ?_).runs
      exact .stay rfl rfl rfl fun h => h
  · exact .refl

theorem serveReserveBay_runs (s : State) (c : Cls) (bay holder hold : Nat) :
    s.Runs (serveReserveBay c bay holder hold s).state := by
  unfold serveReserveBay
  refine need_runs fun _ => need_runs fun _ => ?_
  split
  · exact .refl
  · next b hb =>
    refine need_runs fun _ => (State.Move.putBay _ hb ?_).runs
    exact .stay rfl rfl rfl fun _ => ⟨fun _ => rfl, fun _ => .inl rfl⟩

theorem serveReleaseBay_runs (s : State) (c : Cls) (bay holder : Nat) :
    s.Runs (serveReleaseBay c bay holder s).state := by
  unfold serveReleaseBay
  refine need_runs fun _ => need_runs fun _ => ?_
  split
  · exact .refl
  · next b hb =>
    split
    · exact .refl
    · exact need_runs fun _ => (State.Move.putBay _ hb (b.unreserved_moves s bay)).runs

theorem serveDefineBay_runs (s : State) (c : Cls) (bay zone node channel kind : Nat) :
    s.Runs (serveDefineBay c bay zone node channel kind s).state := by
  unfold serveDefineBay
  split
  · exact .refl
  · refine need_runs fun hr => need_runs fun _ => need_runs fun hn => need_runs fun hz => need_runs fun hc => ?_
    simp only [Bool.and_eq_true, within_iff, Bool.not_eq_true', decide_eq_true_eq] at hr hz hc hn
    exact (State.Move.newBay _ (by simpa [Table.has] using hn) (by omega) hz.1 hr.2.2 hc.2
      ⟨by simp, by simp⟩).runs

theorem serveRedefineBay_runs (s : State) (c : Cls) (bay zone node channel kind : Nat) :
    s.Runs (serveRedefineBay c bay zone node channel kind s).state := by
  unfold serveRedefineBay
  split
  · exact .refl
  · refine need_runs fun hr => need_runs fun _ => ?_
    split
    · exact .refl
    · next b hb =>
      refine need_runs fun hz => need_runs fun hc => ?_
      simp only [Bool.and_eq_true, within_iff, Bool.not_eq_true', decide_eq_true_eq] at hr hz hc
      refine (State.Move.putBay _ hb ?_).runs
      split
      · exact ⟨.inr hz.1, .inr ⟨hr.2.2, hc.2⟩, fun h => h⟩
      · exact ⟨.inr hz.1, .inr ⟨hr.2.2, hc.2⟩, fun _ => ⟨by simp [Bay.lost], fun _ => .inr (.inr rfl)⟩⟩

theorem serveRetireBay_runs (s : State) (c : Cls) (bay : Nat) : s.Runs (serveRetireBay c bay s).state := by
  unfold serveRetireBay
  refine need_runs fun _ => need_runs fun _ => ?_
  split
  · exact .refl
  · next b hb => exact need_runs fun _ => need_runs fun _ => (State.Move.dropBay hb).runs

theorem serveOperatorCause_runs (s : State) (p : Bool) (c : Cls) (zone : Nat) :
    s.Runs (serveOperatorCause p c zone s).state :=
  need_runs fun _ => need_runs fun _ => need_runs fun _ => need_runs fun _ =>
    (State.Move.operatorCause zone p).runs

theorem serveDefineZone_runs (s : State) (c : Cls) (zone level : Nat) (fields : ZoneFields) :
    s.Runs (serveDefineZone c zone level fields s).state := by
  refine need_runs fun hr => need_runs fun _ => need_runs fun hn => need_runs fun hc => ?_
  simp only [Bool.and_eq_true, within_iff] at hr
  exact (State.Move.newZone level _ (by simpa [Table.has] using hn) (by omega) hc).runs

theorem serveSetZone_runs (s : State) (c : Cls) (zone : Nat) (level : Option Nat) (fields : ZoneFields) :
    s.Runs (serveSetZone c zone level fields s).state := by
  unfold serveSetZone
  refine need_runs fun _ => need_runs fun _ => ?_
  split
  · exact .refl
  · next z hz => exact need_runs fun hc => (State.Move.setZone _ _ hz hc).runs

theorem serveRetireZone_runs (s : State) (c : Cls) (zone : Nat) : s.Runs (serveRetireZone c zone s).state :=
  need_runs fun _ => need_runs fun _ => need_runs fun _ => need_runs fun _ => need_runs fun hu =>
    (State.Move.dropZone zone (by simpa using hu)).runs

theorem servePushOverride_runs (s : State) {c : Cls} (hc : c ≠ .fire) (group level : Nat) (duration : Option Nat)
    (tag : Nat) : s.Runs (servePushOverride c group level duration tag s).state := by
  unfold servePushOverride
  refine need_runs fun hr => need_runs fun _ => ?_
  split
  · exact .refl
  · next g hg =>
    refine need_runs fun ho => need_runs fun hl => ?_
    simp only [Bool.and_eq_true, within_iff, Bool.not_eq_true', decide_eq_true_eq] at hr ho hl
    obtain ⟨⟨⟨-, -, hlevel⟩, -⟩, -⟩ := hr
    exact (State.Move.restack (fun st => st ++ [{ cls := c, level := level, expiry := duration.map s.expiryIn, tag := tag }])
      hg (stackMoves_push _ hc hlevel ho hl)).runs

theorem servePopOverride_runs (s : State) (c : Cls) (group : Nat) : s.Runs (servePopOverride c group s).state := by
  unfold servePopOverride
  refine need_runs fun _ => need_runs fun _ => ?_
  split
  · exact .refl
  · next g hg =>
    refine need_runs fun _ => need_runs fun ho => ?_
    simp only [Bool.not_eq_true', Bool.or_eq_false_iff] at ho
    exact (State.Move.restack List.dropLast hg (stackMoves_pop _ ho.1)).runs

theorem serveFanControl_runs (s : State) (c : Cls) (groups : BitVec 32) (action : Nat) :
    s.Runs (serveFanControl c groups action s).state := by
  unfold serveFanControl
  split
  · exact .refl
  · next a _ =>
    exact need_runs fun _ => need_runs fun _ => need_runs fun _ => need_runs fun _ => need_runs fun _ =>
      State.Runs.forEach (fun n s => s.control_runs a n) _ _

/-- R97, R98: settings in range with the given values stay in range. -/
theorem fanFieldsApplied_sound {f : FanFields} {st : FanSettings} (h : fanFieldsInRange f = true) (hs : st.sound) :
    (fanFieldsApplied f st).sound := by
  simp only [fanFieldsInRange, Bool.and_eq_true] at h
  obtain ⟨⟨⟨⟨⟨hv, -⟩, -⟩, -⟩, hi⟩, ho⟩ := h
  obtain ⟨h1, h2, h3⟩ := hs
  have le : ∀ {lo hi n : Nat} {o : Option Nat}, optWithin lo hi o = true → n ≤ hi → o.getD n ≤ hi := by
    intro lo hi n o ho hn
    cases o with
    | none => exact hn
    | some m => exact (optWithin_some.1 ho).2
  exact ⟨le hv h1, le hi h2, le ho h3⟩

theorem serveDefineFan_runs (s : State) (c : Cls) (group : Nat) (zones : ZoneSet) (drives : List Nat)
    (fields : FanFields) : s.Runs (serveDefineFan c group zones drives fields s).state := by
  refine need_runs fun hr => need_runs fun _ => need_runs fun _ => need_runs fun hz => need_runs fun hd => ?_
  simp only [Bool.and_eq_true, within_iff, Bool.not_eq_true'] at hr hz hd
  obtain ⟨⟨⟨hg, -⟩, -⟩, hf⟩ := hr
  exact (State.Move.installFan zones drives _ (by omega) hz.1 hd
    (fanFieldsApplied_sound hf (by simp [FanSettings.sound, FanSettings.default]))).runs

theorem serveSetFan_runs (s : State) (c : Cls) (group : Nat) (zones : Option ZoneSet) (drives : Option (List Nat))
    (fields : FanFields) : s.Runs (serveSetFan c group zones drives fields s).state := by
  unfold serveSetFan
  refine need_runs fun hr => need_runs fun _ => need_runs fun _ => ?_
  split
  · exact .refl
  · next g hg =>
    refine need_runs fun hz => need_runs fun hd => ?_
    simp only [Bool.and_eq_true, Bool.not_eq_true'] at hr hz hd
    refine (State.Move.setFan _ _ _ hg ?_ ?_ (fanFieldsApplied_sound hr.2)).runs
    · cases zones with
      | none => exact .inl rfl
      | some z => exact .inr hz.1
    · cases drives with
      | none => exact .inl rfl
      | some d => exact .inr (by simpa using hd)

theorem serveRetireFan_runs (s : State) (c : Cls) (group : Nat) : s.Runs (serveRetireFan c group s).state := by
  unfold serveRetireFan
  refine need_runs fun _ => need_runs fun _ => ?_
  split
  · exact .refl
  · next g hg => exact need_runs fun _ => (State.Move.dropFan hg).runs

/-- R119, R130: a new sign is dirty and current. -/
theorem State.freshSign_soundIn (s : State) (d : SignDef) : (s.freshSign d).soundIn s :=
  ⟨rfl, by simp [State.freshSign]⟩

theorem serveDefineSign_runs (s : State) (c : Cls) (sign : Nat) (fields : SignFields) :
    s.Runs (serveDefineSign c sign fields s).state := by
  unfold serveDefineSign
  split
  · exact .refl
  · refine need_runs fun hr => need_runs fun _ => need_runs fun _ => need_runs fun _ => need_runs fun hz =>
      need_runs fun hp => ?_
    simp only [Bool.and_eq_true, within_iff, Bool.not_eq_true'] at hr hz hp
    exact (State.Move.newSign (s.freshSign _) (by omega) hp hz.2 (s.freshSign_soundIn _)).runs

/-- R131: a sign with a new definition is current. -/
theorem State.redefinedSign_soundIn {s : State} {d : SignDef} {g : Sign} (h : g.soundIn s) :
    (s.redefinedSign d g).soundIn s := by
  unfold State.redefinedSign
  split
  · exact h
  · refine Sign.judged_soundIn ?_
    split <;> rfl

theorem State.redefinedSign_config (s : State) (d : SignDef) (g : Sign) : (s.redefinedSign d g).config = d := by
  unfold State.redefinedSign
  split
  · next h => exact h.symm
  · dsimp only
    split <;> rfl

theorem State.zonesDefined_iff {s : State} {m : ZoneSet} :
    s.zonesDefined m = true ↔ ∀ k, m.getLsbD k = true → Table.has s.zones k = true := by
  simp only [State.zonesDefined, zonesIn, List.all_eq_true, List.mem_filter, List.mem_range]
  refine ⟨fun h k hk => h k ⟨?_, hk⟩, fun h k hk => h k hk.2⟩
  by_contra hlt
  rw [BitVec.getLsbD_of_ge m k (by omega)] at hk
  exact Bool.false_ne_true hk

theorem State.zonesDefined_or {s : State} {m m' : ZoneSet} :
    s.zonesDefined (m ||| m') = true ↔ s.zonesDefined m = true ∧ s.zonesDefined m' = true := by
  simp only [State.zonesDefined_iff, BitVec.getLsbD_or, Bool.or_eq_true]
  exact ⟨fun h => ⟨fun k hk => h k (.inl hk), fun k hk => h k (.inr hk)⟩, fun h k hk => hk.elim (h.1 k) (h.2 k)⟩

/-- What a SET_SIGN's settings make of a definition: each field as given, or as it was. -/
theorem signDefOf_fields {f : SignFields} {d : SignDef} (h : signDefOf f = some d) :
    d.node = f.node ∧ d.countZones = f.countZones ∧ d.termA = f.termA ∧ d.termB = f.termB := by
  unfold signDefOf at h
  split at h
  · split at h
    · cases h; exact ⟨rfl, rfl, rfl, rfl⟩
    · cases h
  · cases h

theorem serveSetSign_runs (s : State) (c : Cls) (sign : Nat) (change : SignChange) :
    s.Runs (serveSetSign c sign change s).state := by
  unfold serveSetSign
  refine need_runs fun _ => need_runs fun _ => ?_
  split
  · exact .refl
  · next g hg =>
    refine need_runs fun hz => ?_
    split
    · exact .refl
    · next d hd =>
      refine need_runs fun _ => need_runs fun hp => ?_
      obtain ⟨hnode, hcz, ha, hb⟩ := signDefOf_fields hd
      simp only [State.changeZonesDefined, Bool.and_eq_true] at hz
      refine (State.Move.sign _ hg ⟨?_, fun h => ?_, State.redefinedSign_soundIn⟩).runs
      · rw [State.redefinedSign_config, hnode]
        cases hn : change.node with
        | none => left; simp [signFieldsOver, hn]
        | some n => right; simpa [signFieldsOver, hn] using hp
      · rw [State.redefinedSign_config]
        simp only [SignDef.zones, State.zonesDefined_or, hcz, ha, hb] at h ⊢
        have given : ∀ {o : Option ZoneSet} {m : ZoneSet}, o.all s.zonesDefined = true → s.zonesDefined m = true →
            s.zonesDefined (o.getD m) = true := by
          intro o m ho hm
          cases o with
          | none => exact hm
          | some m' => exact ho
        exact ⟨⟨given hz.2.1.1 h.1.1, given hz.2.1.2 h.1.2⟩, given hz.2.2 h.2⟩

theorem serveRetireSign_runs (s : State) (c : Cls) (sign : Nat) : s.Runs (serveRetireSign c sign s).state :=
  need_runs fun _ => need_runs fun _ => need_runs fun _ => need_runs fun _ => (State.Move.dropSign sign).runs

theorem serveLightOverride_runs (s : State) (c : Cls) (group : Nat) (level duration : Option Nat) :
    s.Runs (serveLightOverride c group level duration s).state :=
  need_runs fun _ => need_runs fun _ => need_runs fun _ =>
    s.modifyLight_runs group fun l => s.overrideLight_moves group level duration l

theorem serveDefineLight_runs (s : State) (c : Cls) (group zone node : Nat) (fields : LightFields) :
    s.Runs (serveDefineLight c group zone node fields s).state := by
  refine need_runs fun hr => need_runs fun _ => need_runs fun _ => need_runs fun _ => need_runs fun _ =>
    need_runs fun hp => ?_
  simp only [Bool.and_eq_true, within_iff, Bool.not_eq_true'] at hr hp
  obtain ⟨hf, hl, hz, hn⟩ := (Light.blank zone node (lightFieldsApplied fields LightSettings.default)
    (s.unreachable node)).settled_spec (s.dueForForcing zone) s.seconds
  refine (State.Move.newLight _ (by omega) ?_ ?_ hl).runs
  · rw [hn]; exact hp
  · rw [hz]; exact hf

theorem serveSetLight_runs (s : State) (c : Cls) (group : Nat) (zone node : Option Nat) (fields : LightFields) :
    s.Runs (serveSetLight c group zone node fields s).state := by
  unfold serveSetLight
  refine need_runs fun _ => need_runs fun _ => ?_
  split
  · exact .refl
  · next l hl =>
    refine need_runs fun _ => need_runs fun _ => need_runs fun hp => ?_
    refine (State.Move.light _ hl (s.changedLight_moves group _ _ _ l ?_)).runs
    cases node with
    | none => exact .inl rfl
    | some n => exact .inr (by simpa using hp)

theorem serveRetireLight_runs (s : State) (c : Cls) (group : Nat) : s.Runs (serveRetireLight c group s).state :=
  need_runs fun _ => need_runs fun _ => need_runs fun _ => need_runs fun _ => (State.Move.dropLight group).runs

/-- R168: no node stands at an address found free. -/
theorem State.nodeAt_none {s : State} {i : SpanId} {address : Nat} (h : s.nodeAt i address = none) :
    ∀ e ∈ s.nodes, e.2.at ≠ (i, address) := by
  intro e he ha
  obtain ⟨hi, ha⟩ := Prod.mk.inj ha
  simpa [hi, ha] using Table.find_none h e he

theorem State.rezoneNode_runs (s : State) (node : Nat) (n : Node) (zone : Option Nat) :
    s.Runs (s.rezoneNode node n zone) := by
  refine State.Runs.ite (fun _ => .refl) fun _ => State.Runs.ite (fun _ => ?_) fun _ => ?_
  · refine (s.changeNode_runs node ?_).trans (State.changeSpan_runs _ _ _)
    exact fun _ => rfl
  · exact s.changeNode_runs node fun _ => rfl

theorem serveDefineNode_runs (s : State) (c : Cls) (node span address kind : Nat) (zone : Option Nat) :
    s.Runs (serveDefineNode c node span address kind zone s).state := by
  unfold serveDefineNode
  split
  · next i k _ _ =>
    refine need_runs fun hr => need_runs fun _ => need_runs fun _ => ?_
    simp only [Bool.and_eq_true, within_iff] at hr
    split
    · refine need_runs fun hp => ?_
      simp only [Bool.not_eq_true', Bool.or_eq_false_iff, State.spanClash, Option.isSome_eq_false_iff,
        Option.isNone_iff_eq_none] at hp
      refine (State.Move.nodes _ (fun h => Table.wf_set h.nodes (by simp only [Config.nodes]; omega) _)
        fun h hs => ?_).runs
      refine hs.withNodes (hs.nodesApart.set h.nodes.1 fun e he _ => State.nodeAt_none hp.1.1 e he)
        (Table.forall_set (p := Node.addressed) hs.addresses node hr.1.1.2)
    · exact need_runs fun _ => s.rezoneNode_runs _ _ _
  · exact .refl

theorem State.retireNode_runs (s : State) (node : Nat) (n : Node) : s.Runs (s.retireNode node n) := by
  refine (Relation.ReflTransGen.trans ?_ (State.changeSpan_runs _ _ _)).trans (State.closeRound_runs _ _)
  exact (State.Move.nodes _ (fun h => Table.wf_erase h.nodes node) fun _ hs =>
    hs.withNodes (hs.nodesApart.erase node) (Table.forall_erase (p := Node.addressed) hs.addresses node)).runs

theorem serveRetireNode_runs (s : State) (c : Cls) (node : Nat) : s.Runs (serveRetireNode c node s).state := by
  unfold serveRetireNode
  refine need_runs fun _ => need_runs fun _ => ?_
  split
  · exact .refl
  · exact need_runs fun _ => need_runs fun _ => s.retireNode_runs _ _

theorem serveSuspendNode_runs (s : State) (c : Cls) (node : Nat) : s.Runs (serveSuspendNode c node s).state := by
  unfold serveSuspendNode
  refine need_runs fun _ => need_runs fun _ => ?_
  split
  · exact .refl
  · exact State.Runs.ite (fun _ => .refl) fun _ => State.Runs.ite (fun _ => s.changeNode_runs node fun _ => rfl)
      fun _ => (s.suspendNow_runs node).trans (State.closeRound_runs _ _)

theorem serveResumeNode_runs (s : State) (c : Cls) (node : Nat) : s.Runs (serveResumeNode c node s).state := by
  unfold serveResumeNode
  refine need_runs fun _ => need_runs fun _ => ?_
  split
  · exact .refl
  · exact State.Runs.ite (fun _ => s.resumeNow_runs node) fun _ => s.changeNode_runs node fun _ => rfl

/-- R183: settings in range with the given values stay in range. -/
theorem partFieldsApplied_sound {f : PartFields} {v : PartSettings} (h : partFieldsInRange f = true) (hs : v.sound) :
    (partFieldsApplied f v).sound := by
  simp only [partFieldsInRange, Bool.and_eq_true] at h
  obtain ⟨⟨⟨⟨⟨⟨⟨⟨⟨⟨⟨ha, hf⟩, ht⟩, hna⟩, hnd⟩, hp⟩, hm⟩, h0⟩, h1⟩, h2⟩, h3⟩, hr⟩ := h
  obtain ⟨sa, sf, st, sna, snd, sp, sm, sr, sl⟩ := hs
  have limit : ∀ {o : Option Nat} {n : Nat}, limitInRange o = true → n ∈ [4, 8, 12, 16] →
      o.getD n ∈ [4, 8, 12, 16] := by
    intro o n ho hn
    cases o with
    | none => exact hn
    | some m => simpa [limitInRange, or_assoc] using ho
  refine ⟨optWithin_getD ha sa, optWithin_getD hf sf, optWithin_getD ht st, optWithin_getD hna sna,
    optWithin_getD hnd snd, optWithin_getD hp sp, optWithin_getD hm sm, optWithin_getD hr sr, fun i => ?_⟩
  cases i with
  | span0 => exact limit h0 (sl .span0)
  | span1 => exact limit h1 (sl .span1)
  | span2 => exact limit h2 (sl .span2)
  | span3 => exact limit h3 (sl .span3)

theorem serveSetPart_runs (s : State) (c : Cls) (fields : PartFields) : s.Runs (serveSetPart c fields s).state :=
  need_runs fun hr => need_runs fun _ => (State.Move.settings _ (partFieldsApplied_sound hr)).runs

/-- A set with one class's items replaced. -/
theorem AttSet.items_withItems (a : AttSet) (c k : AttClass) (t : Table Reason) :
    (a.withItems c t).items k = if k = c then t else a.items k := by
  cases c <;> cases k <;> rfl

theorem AttSet.sound.withItems {a : AttSet} (h : a.sound) {c : AttClass} {t : Table Reason}
    (ht : Table.wf c.objects t) : (a.withItems c t).sound := by
  intro k
  rw [AttSet.items_withItems]
  split
  · next hk => subst hk; exact ht
  · exact h k

theorem serveClearAttention_runs (s : State) (p : Port) (cls object : Nat) :
    s.Runs (serveClearAttention p cls object s).state := by
  unfold serveClearAttention
  split
  · exact .refl
  · refine need_runs fun _ => ?_
    dsimp only
    split
    · exact .refl
    · exact (State.Move.attention p _ fun h => h.withItems (Table.wf_erase (h _) object)).runs

theorem serveSetAttentionEnable_runs (s : State) (p : Port) (classes : Byte) :
    s.Runs (serveSetAttentionEnable p classes s).state :=
  need_runs fun _ => (State.Move.attention p _ fun h k => by cases k <;> exact h _).runs

/-- Every request from a client's class is a run of moves. -/
theorem serveRequest_runs (s : State) (p : Port) (body : Request) {c : Cls} (hc : c ≠ .fire) :
    s.Runs (serveRequest p body c s).state := by
  cases body with
  | readBays => exact (serveReadBays_keeps _ _ _ _ _).quiet
  | findBays => exact (serveFindBays_keeps _ _ _ _ _ _).quiet
  | changeBay => exact serveChangeBay_runs _ _ _ _ _
  | reserveBay => exact serveReserveBay_runs _ _ _ _ _
  | releaseBay => exact serveReleaseBay_runs _ _ _ _
  | defineBay => exact serveDefineBay_runs _ _ _ _ _ _ _
  | redefineBay => exact serveRedefineBay_runs _ _ _ _ _ _ _
  | retireBay => exact serveRetireBay_runs _ _ _
  | readZone => exact (serveReadZone_keeps _ _).quiet
  | closeZone => exact serveOperatorCause_runs _ _ _ _
  | openZone => exact serveOperatorCause_runs _ _ _ _
  | defineZone => exact serveDefineZone_runs _ _ _ _ _
  | setZone => exact serveSetZone_runs _ _ _ _ _
  | retireZone => exact serveRetireZone_runs _ _ _
  | readFan => exact (serveReadFan_keeps _ _).quiet
  | pushOverride => exact servePushOverride_runs _ hc _ _ _ _
  | popOverride => exact servePopOverride_runs _ _ _
  | fanControl => exact serveFanControl_runs _ _ _ _
  | defineFan => exact serveDefineFan_runs _ _ _ _ _ _
  | setFan => exact serveSetFan_runs _ _ _ _ _ _
  | retireFan => exact serveRetireFan_runs _ _ _
  | readSign => exact (serveReadSign_keeps _ _).quiet
  | defineSign => exact serveDefineSign_runs _ _ _ _
  | setSign => exact serveSetSign_runs _ _ _ _
  | retireSign => exact serveRetireSign_runs _ _ _
  | readLight => exact (serveReadLight_keeps _ _).quiet
  | lightOverride => exact serveLightOverride_runs _ _ _ _ _
  | defineLight => exact serveDefineLight_runs _ _ _ _ _ _
  | setLight => exact serveSetLight_runs _ _ _ _ _ _
  | retireLight => exact serveRetireLight_runs _ _ _
  | readNode => exact (serveReadNode_keeps _ _).quiet
  | defineNode => exact serveDefineNode_runs _ _ _ _ _ _ _
  | retireNode => exact serveRetireNode_runs _ _ _
  | suspendNode => exact serveSuspendNode_runs _ _ _
  | resumeNode => exact serveResumeNode_runs _ _ _
  | readStatus => exact (serveReadStatus_keeps _ _).quiet
  | setPermit => exact (serveSetPermit_keeps _ _ _ _ _).quiet
  | setPart => exact serveSetPart_runs _ _ _
  | readAttention => exact (serveReadAttention_keeps _ _ _).quiet
  | clearAttention => exact serveClearAttention_runs _ _ _ _
  | setAttentionEnable => exact serveSetAttentionEnable_runs _ _ _
  | restart => exact (serveRestart_keeps _ _).quiet
  | unknown => exact .refl
  | badLength => exact .refl
  | badPresence => exact .refl

/-! ### The links and their places (R174 to R178) -/

/-- R178: no port admits the class FIRE, which override entries alone carry. -/
theorem admitted_ne_fire {p : Port} {key : Bool} {b : Byte} {c : Cls} (h : admitted p key b = some c) : c ≠ .fire := by
  unfold admitted at h
  split at h
  · cases h; simp
  · split at h
    · cases h; simp
    · cases h
  · cases h; simp
  · cases h

/-- A change of a port's places or receiver. -/
theorem State.keepsBut.quietPort {s t : State} {l : List Field} (h : s.keepsBut t l) (p : Port)
    (hl : l ⊆ [.link p, .places p]) : s.Runs t :=
  (h.mono hl).quiet (by cases p <;> simp)

theorem State.withKey_runs (s : State) (key : Bool) : s.Runs (s.withKey key) := (s.withKey_keeps key).quiet

theorem State.occupy_runs (s : State) (p : Port) (item : Placed) (r : Reply) : s.Runs (s.occupy p item r) :=
  (s.occupy_keeps p item r).quietPort p (by simp)

theorem State.take_runs (s : State) (hd : Head) (item : Placed) (body : Request) :
    s.Runs (s.take hd item (serveRequest hd.port body)) := by
  refine (s.withKey_runs hd.key).trans (Relation.ReflTransGen.trans ?_ (State.occupy_runs _ _ _ _))
  split
  · exact .refl
  · next hc => exact serveRequest_runs _ _ _ (admitted_ne_fire hc)

theorem State.wait_runs (s : State) (p : Port) (item : Placed) : s.Runs (s.wait p item) := by
  unfold State.wait
  split
  · refine (s.withPort_only p _ [.link p, .places p] fun f h hn => ?_).quietPort p (List.Subset.refl _)
    simp only [List.mem_cons, List.not_mem_nil, or_false, not_or] at h hn
    rcases h with rfl | rfl | rfl | rfl
    · exact absurd rfl hn.1
    · exact absurd rfl hn.2
    all_goals simp [Field.same, PortState.itemsPart]
  · exact (State.Move.raise .link _ _ fun _ => by cases p <;> simp [portObject, AttClass.objects]).runs

theorem State.arrive_runs (s : State) (hd : Head) (body : Request) :
    s.Runs (s.arrive hd body (serveRequest hd.port body)) := by
  unfold State.arrive
  split
  · exact s.take_runs _ _ _
  · exact s.wait_runs _ _

theorem State.arriveBad_runs (s : State) (p : Port) (tag : Byte) : s.Runs (s.arriveBad p tag) := by
  unfold State.arriveBad
  split
  · exact s.occupy_runs _ _ _
  · exact s.wait_runs _ _

theorem State.setReceiver_runs (s : State) (p : Port) (r : Receiver) : s.Runs (s.setReceiver p r) :=
  (s.setReceiver_keeps p r).quietPort p (by simp)

theorem State.linkByte_runs (s : State) (p : Port) (b : Byte) (stopOk key : Bool) :
    s.Runs (s.linkByte p b stopOk key) := by
  unfold State.linkByte
  split
  · exact s.setReceiver_runs _ _
  · exact (s.setReceiver_runs _ _).trans (State.arriveBad_runs _ _ _)
  · exact (s.setReceiver_runs _ _).trans (State.arrive_runs _ _ _)

/-- A port whose attention set and line stand. -/
theorem State.withPort_runs (s : State) (p : Port) {v : PortState} (ha : v.att = (s.port p).att)
    (hn : v.attn = (s.port p).attn) : s.Runs (s.withPort p v) := by
  refine (s.withPort_only p v [.link p, .places p] fun f h hf => ?_).quietPort p (List.Subset.refl _)
  simp only [List.mem_cons, List.not_mem_nil, or_false, not_or] at h hf
  rcases h with rfl | rfl | rfl | rfl
  · exact absurd rfl hf.1
  · exact absurd rfl hf.2
  · simp [Field.same, ha]
  · simp [Field.same, PortState.itemsPart, ha, hn]

theorem State.frameGap_runs (s : State) (p : Port) : s.Runs (s.frameGap p) := by
  unfold State.frameGap
  split
  · exact .refl
  · exact .refl
  · exact (s.atMs_runs _).trans (State.withPort_runs _ p rfl rfl)

theorem State.drained_runs (s : State) (p : Port) : s.Runs (s.drained p) := by
  unfold State.drained
  split
  · exact .refl
  · exact .refl
  · exact (s.atMs_runs _).trans (State.withPort_runs _ p rfl rfl)

theorem State.takePlaced_runs (s : State) (p : Port) (item : Placed) (key : Bool) :
    s.Runs (s.takePlaced p item key) := by
  cases item with
  | badFrame tag => exact s.occupy_runs _ _ _
  | request cls tag body => exact s.take_runs { port := p, cls := cls, tag := tag, key := key } _ body

theorem State.replySent_runs (s : State) (p : Port) (key : Bool) : s.Runs (s.replySent p key) := by
  unfold State.replySent
  split
  · exact .refl
  · have h1 := s.withPort_runs p (v := { s.port p with service := none }) rfl rfl
    refine .ite (fun _ => h1.trans (State.restartEffect_runs _)) fun _ => ?_
    split
    · exact h1
    · refine (h1.trans ?_).trans (State.takePlaced_runs _ _ _ _)
      exact State.withPort_runs _ p rfl rfl

/-! ### Every command, every step -/

theorem State.evaluateAll_runs (s : State) : s.Runs s.evaluateAll :=
  ((s.withAirNext_keeps _).quiet.trans ((State.withFreeCount_keeps _ _).quiet)).trans
    (State.Runs.forEach (fun zone _ => (State.Move.evaluate zone).runs) _ _)

theorem State.overridesExpire_runs (s : State) (group : Nat) (h : s.overrideDue group = true) :
    s.Runs (s.overridesExpire group) := by
  cases hg : Table.get s.fans group with
  | none => simp [State.overrideDue, hg] at h
  | some g => exact (State.Move.restack _ hg (stackMoves_expire _ s.seconds g.stack)).runs

/-- Every command is a run of moves: the requests together, each event by its own lemma. -/
theorem exec_runs {s t : State} {cmd : Instr} (he : exec cmd s = .next t) : s.Runs t := by
  cases hr : requestRow cmd with
  | some r => exact Host.Outcome.next.inj ((exec_request hr s).symm.trans he) ▸ s.arrive_runs _ _
  | none =>
    cases cmd with
    | badFrameAnswer p tag => cases he; exact s.arriveBad_runs p tag
    | linkByteReceived p b stopOk key => cases he; exact s.linkByte_runs p b stopOk key
    | frameGapTimeout p => cases he; exact s.frameGap_runs p
    | drainingEnd p => cases he; exact s.drained_runs p
    | replySent p key => cases he; exact s.replySent_runs p key
    | fullReset pins => cases he; exact (State.Move.reset pins).runs
    | secondsCountAdvance => cases he; exact s.atMs_runs _
    | fireLineEdge level => cases he; exact (State.Move.watchLine level).runs
    | fireFilterDue => cases he; exact s.filterDue_runs
    | fireZoneCodeChange value => cases he; exact (State.Move.watchCodes value).runs
    | pendingZoneDue => cases he; exact s.pendingZoneDue_runs
    | airEvaluationExpiry => cases he; exact .ite (fun _ => s.evaluateAll_runs) fun _ => .refl
    | fanStep => cases he; exact .ite (fun _ => s.fanStepAll_runs) fun _ => .refl
    | startSlotExpiry => cases he; exact s.slotExpires_runs
    | proofTimerExpiry group => cases he; exact s.proofExpires_runs group
    | overrideExpiry group => cases he; exact .ite (fun h => s.overridesExpire_runs group h) fun _ => .refl
    | reservationExpiry bay => cases he; exact s.expireReservation_runs bay
    | holdExpiry group => cases he; exact s.modifyLight_runs group fun l => l.holdExpires_moves s group _
    | rampStep group => cases he; exact s.modifyLight_runs group fun l => l.rampStep_moves s group _
    | lightOverrideExpiry group => cases he; exact s.modifyLight_runs group fun l => l.overrideExpires_moves s group _
    | roundStart i => cases he; exact s.startRound_runs i
    | visitStart i => cases he; exact s.startVisit_runs i
    | spanByteReceived i b stopOk => cases he; exact s.spanByte_runs i b stopOk
    | answerLimitExpiry i => cases he; exact s.answerLimitPasses_runs i
    | answerGapTimeout i => cases he; exact s.answerGapPasses_runs i
    | spanStuck i => cases he; exact s.lineStuck_runs i
    | stuckSilencing i => cases he; exact s.silenceStuck_runs i
    | stuckRetry i idle => cases he; exact s.retryStuck_runs i idle
    | _ => cases hr

/-- A step is an idle millisecond or a command, and either is a run of moves. -/
theorem step_runs {s t : State} (hstep : step s = .next t) : s.Runs t := by
  unfold step at hstep
  split at hstep
  · cases hstep; exact s.atMs_runs _
  · next rest _ =>
    have taken : s.keepsBut { s with pending := rest } [.pending] := by
      intro f hf; cases f <;> first | rfl | simp at hf
    exact taken.quiet.trans (exec_runs hstep)

/-- An invariant that every move keeps, every step keeps. -/
theorem step_keeps {P : State → Prop} (hP : ∀ s t l, State.Move s t l → P s → P t) {s t : State} (hs : P s)
    (hstep : step s = .next t) : P t :=
  (step_runs hstep).keeps hP hs

end Sys2Proof.Machine

/-! ## Proofs: the tables, the settings and the attention sets (R1, R27, R40, R75, R116, R135, R154, R183, R187) -/

namespace Sys2Proof.Machine

/-! ### What keeps the tables sound -/

/-- From sound tables a change leads to sound tables, and keeps the zones' settings consistent, the attention
sets sound and the places apart. -/
def State.Kept (s t : State) : Prop :=
  s.tablesSound → t.tablesSound ∧ (s.levelsConsistent → t.levelsConsistent) ∧ (s.setsSound → t.setsSound) ∧
    (s.placesSound → t.placesSound)

theorem State.Kept.refl (s : State) : s.Kept s := fun h => ⟨h, id, id, id⟩

theorem State.Kept.trans {s t u : State} (h : s.Kept t) (h' : t.Kept u) : s.Kept u := fun hs =>
  have ⟨ht, hl, ha, hp⟩ := h hs
  have ⟨hu, hl', ha', hp'⟩ := h' ht
  ⟨hu, hl' ∘ hl, ha' ∘ ha, hp' ∘ hp⟩

theorem State.Kept.ite {s t u : State} {b : Prop} [Decidable b] (ht : b → s.Kept t) (hu : ¬b → s.Kept u) :
    s.Kept (if b then t else u) := by
  split
  · next h => exact ht h
  · next h => exact hu h

theorem State.Kept.forEach {f : Nat → State → State} (hf : ∀ n s, State.Kept s (f n s)) (ns : List Nat) (s : State) :
    s.Kept (State.forEach f ns s) := by
  induction ns generalizing s with
  | nil => exact .refl s
  | cons n ns ih => exact (hf n s).trans (ih (f n s))

/-- A port's items are those of its items part. -/
theorem PortState.items_eq {p q : PortState} (h : p.itemsPart = q.itemsPart) (k : AttClass) :
    p.att.items k = q.att.items k := by
  have h' := congrArg (fun x => AttSet.items x.1 k) h
  cases k <;> exact h'

/-- A change that touches no table and no items. -/
theorem State.keepsBut.kept {s t : State} {l : List Field} (h : s.keepsBut t l)
    (hl : ∀ f ∈ [Field.bays, .zones, .fans, .signs, .lights, .nodes, .items .main, .items .panel], f ∉ l := by simp) :
    s.Kept t := by
  have same := fun f hf => h f (hl f hf)
  have hb : t.bays = s.bays := same .bays (by decide)
  have hz : t.zones = s.zones := same .zones (by decide)
  have hf : t.fans = s.fans := same .fans (by decide)
  have hs : t.signs = s.signs := same .signs (by decide)
  have hli : t.lights = s.lights := same .lights (by decide)
  have hn : t.nodes = s.nodes := same .nodes (by decide)
  intro ht
  refine ⟨by simpa [State.tablesSound, hb, hz, hf, hs, hli, hn] using ht, by simp only [State.levelsConsistent, hz]; exact id,
    fun ha p k => ?_, by simp only [State.placesSound, hb, hf, hs, hli, hn]; exact id⟩
  rw [PortState.items_eq (same (.items p) (by cases p <;> simp)) k]
  exact ha p k

theorem State.kept_raise (s : State) (c : AttClass) (o : Nat) (r : Reason) (h : s.tablesSound → o < c.objects) :
    s.Kept (s.raise c o r) := fun hs =>
  ⟨hs, id, fun ha p => by rw [State.raise_port]; exact (ha p).withItems (Table.wf_set (ha p c) (h hs) r), id⟩

/-! #### Zones and signs -/

/-- R40, of one zone. -/
def Zone.consistent (z : Zone) : Prop := z.settings.consistent z.level = true

theorem State.kept_withZones (s : State) (t : Table Zone) (hw : s.tablesSound → Table.wf Config.zones t)
    (hl : s.tablesSound → s.levelsConsistent → ∀ e ∈ t, e.2.consistent) :
    s.Kept (s.withZones t) := by
  intro hs
  obtain ⟨hb, _, hf, hsg, hli, hn⟩ := id hs
  exact ⟨⟨hb, hw hs, hf, hsg, hli, hn⟩, hl hs, id, id⟩

/-- A zone's record changed but for its level and settings. -/
theorem State.kept_setZone {s : State} {zone : Nat} {z z' : Zone} (h : Table.get s.zones zone = some z)
    (hz : z.consistent → z'.consistent) : s.Kept (s.withZones (Table.set s.zones zone z')) :=
  s.kept_withZones _ (fun hs => Table.wf_set_of_get hs.zones h _)
    fun _ hl => Table.forall_set (p := Zone.consistent) hl zone (hz (hl (zone, z) (Table.mem_of_get h)))

theorem State.kept_updateZones (s : State) {f : Nat → Zone → Zone} (hf : ∀ k z, z.consistent → (f k z).consistent) :
    s.Kept (s.withZones (Table.update f s.zones)) :=
  s.kept_withZones _ (fun hs => Table.wf_update hs.zones f)
    fun _ hl => Table.forall_update (p := Zone.consistent) hl hf

/-- The node of a sign, of a luminaire group, and the channel of a bay: what no two of them share. -/
abbrev Sign.at (g : Sign) : Nat := g.config.node
abbrev Light.at (l : Light) : Nat := l.node
abbrev Bay.at (b : Bay) : Nat × Nat := (b.node, b.channel)

theorem State.kept_withSigns (s : State) (t : Table Sign) (hw : s.tablesSound → Table.wf Config.signs t)
    (hp : s.tablesSound → Table.Apart Sign.at s.signs → Table.Apart Sign.at t) : s.Kept (s.withSigns t) := by
  intro hs
  obtain ⟨hb, hz, hf, _, hli, hn⟩ := id hs
  refine ⟨⟨hb, hz, hf, hw hs, hli, hn⟩, id, id, fun ⟨pb, ps, pl, pf, pn⟩ => ⟨pb, hp hs ps, pl, pf, pn⟩⟩

theorem State.kept_updateSigns (s : State) {f : Nat → Sign → Sign} (hf : ∀ k g, (f k g).at = g.at) :
    s.Kept (s.withSigns (Table.update f s.signs)) :=
  s.kept_withSigns _ (fun hs => Table.wf_update hs.signs f) fun _ h => h.update hf

theorem State.recomputed_at (s : State) (g : Sign) : (s.recomputed g).at = g.at := by
  rw [State.recomputed_only]

theorem State.kept_markSigns (s : State) (zone : Nat) : s.Kept (s.markSigns zone) :=
  s.kept_updateSigns fun _ g => by split; exacts [s.recomputed_at g, rfl]

theorem State.kept_changeCauses (s : State) (zone : Nat) (f : Causes → Causes) : s.Kept (s.changeCauses zone f) := by
  unfold State.changeCauses
  split
  · exact .refl s
  · next z hz => exact .ite (fun _ => .refl s) fun _ => (State.kept_setZone (z' := { z with causes := f z.causes }) hz id).trans (State.kept_markSigns _ _)

theorem State.kept_judgeAirCause (s : State) (zone : Nat) : s.Kept (s.judgeAirCause zone) := by
  unfold State.judgeAirCause
  split
  · exact .refl s
  · exact s.kept_changeCauses _ _

theorem State.tablesSound.zone_lt {s : State} (hs : s.tablesSound) {zone : Nat} {z : Zone}
    (h : Table.get s.zones zone = some z) : zone < AttClass.objects .air := hs.zones.lt h

theorem State.kept_judgeStatus (s : State) (zone : Nat) : s.Kept (s.judgeStatus zone) := by
  unfold State.judgeStatus
  split
  · exact .refl s
  · next z hz =>
    refine .ite (fun _ => .refl s) fun _ => ?_
    refine ((State.kept_setZone hz ?_).trans (State.kept_raise _ _ _ _ fun hs => hs.zone_lt (Table.get_set _ _ _))).trans
      (State.kept_judgeAirCause _ _)
    exact id

theorem State.kept_availabilityNotice (s : State) (m : ZoneSet) : s.Kept (s.availabilityNotice m) :=
  .forEach (fun zone s => s.kept_judgeStatus zone) _ _

theorem Zone.adjusted_consistent {f : Zone → Zone} (hf : countsOnly f) {z : Zone} (h : z.consistent) :
    (z.adjusted f).consistent := by
  have hz : (f z).consistent := by rw [hf z]; exact h
  unfold Zone.adjusted
  split <;> exact hz

theorem State.kept_adjustZone (s : State) (zone : Nat) {f : Zone → Zone} (hf : countsOnly f) :
    s.Kept (s.adjustZone zone f) := by
  cases hz : Table.get s.zones zone with
  | none => rw [State.adjustZone_undefined hz]; exact .refl s
  | some z =>
    have h := State.kept_setZone hz (Zone.adjusted_consistent hf)
    rw [State.adjustZone_defined hz]
    exact .ite (fun _ => h) fun _ => h.trans (State.kept_markSigns _ _)

theorem State.kept_recount (s : State) (old new : Option Bay) : s.Kept (s.recount old new) := by
  unfold State.recount
  split
  · exact .ite (fun _ => s.kept_adjustZone _ fun _ => rfl)
      fun _ => (s.kept_adjustZone _ fun _ => rfl).trans (State.kept_adjustZone _ _ fun _ => rfl)
  · exact s.kept_adjustZone _ fun _ => rfl
  · exact s.kept_adjustZone _ fun _ => rfl
  · exact .refl s

/-! #### Bays, lights, nodes -/

theorem State.kept_withBays (s : State) (t : Table Bay) (hw : s.tablesSound → Table.wf Config.bays t)
    (hp : s.tablesSound → Table.Apart Bay.at s.bays → (∀ e ∈ s.bays, e.2.channel ≤ 15) →
      Table.Apart Bay.at t ∧ ∀ e ∈ t, e.2.channel ≤ 15) : s.Kept (s.withBays t) := by
  intro hs
  obtain ⟨_, hz, hf, hsg, hli, hn⟩ := id hs
  refine ⟨⟨hw hs, hz, hf, hsg, hli, hn⟩, id, id, fun ⟨pb, ps, pl, pf, pn⟩ => ⟨?_, ps, pl, pf, pn⟩⟩
  obtain ⟨ha, hc⟩ := hp hs (fun e he e' he' h => (pb e he).2 e' he' (Prod.mk.inj h).1 (Prod.mk.inj h).2)
    fun e he => (pb e he).1
  exact fun e he => ⟨hc e he, fun e' he' h h' => ha e he e' he' (Prod.ext h h')⟩

/-- R19: a channel found free is no other bay's. -/
theorem State.channelFree {s : State} {bay node channel : Nat} (h : s.channelTaken bay node channel = false) :
    ∀ e ∈ s.bays, e.1 ≠ bay → e.2.at ≠ (node, channel) := by
  intro e he hne ha
  obtain ⟨hn, hc⟩ := Prod.mk.inj ha
  simpa [hne, hn, hc] using Table.exists_eq_false.1 h e he

/-- R149, R130: a node found free is no other group's, no other sign's. -/
theorem State.lightNodeFree {s : State} {group node : Nat} (h : s.lightNodeClash group node = false) :
    ∀ e ∈ s.lights, e.1 ≠ group → e.2.at ≠ node := by
  intro e he hne ha
  simp only [State.lightNodeClash, Bool.or_eq_false_iff] at h
  simpa [hne, ha] using Table.exists_eq_false.1 h.2 e he

theorem State.signNodeFree {s : State} {sign node : Nat} (h : s.signNodeClash sign node = false) :
    ∀ e ∈ s.signs, e.1 ≠ sign → e.2.at ≠ node := by
  intro e he hne ha
  simp only [State.signNodeClash, Bool.or_eq_false_iff] at h
  simpa [hne, ha] using Table.exists_eq_false.1 h.2 e he

theorem State.kept_withLights (s : State) (t : Table Light) (hw : s.tablesSound → Table.wf Config.lights t)
    (hp : s.tablesSound → Table.Apart Light.at s.lights → Table.Apart Light.at t) : s.Kept (s.withLights t) := by
  intro hs
  obtain ⟨hb, hz, hf, hsg, _, hn⟩ := id hs
  refine ⟨⟨hb, hz, hf, hsg, hw hs, hn⟩, id, id, fun ⟨pb, ps, pl, pf, pn⟩ => ⟨pb, ps, hp hs pl, pf, pn⟩⟩

theorem State.kept_updateLights (s : State) {f : Nat → Light → Light} (hf : ∀ k l, (f k l).at = l.at) :
    s.Kept (s.withLights (Table.update f s.lights)) :=
  s.kept_withLights _ (fun hs => Table.wf_update hs.lights f) fun _ h => h.update hf

theorem State.kept_movement (s : State) (zone : Nat) : s.Kept (s.movement zone) :=
  s.kept_updateLights fun _ l => by
    unfold Light.moved
    split
    · split <;> rfl
    · rfl

theorem State.kept_judgeForcing (s : State) (picks : Nat → Bool) : s.Kept (s.judgeForcing picks) :=
  s.kept_updateLights fun _ l => by
    unfold Light.judgeForcing
    split
    · split <;> split <;> rfl
    · rfl

theorem State.kept_withNodes (s : State) (t : Table Node) (hw : s.tablesSound → Table.wf Config.nodes t)
    (hp : s.tablesSound → s.placesSound → (s.withNodes t).placesSound) : s.Kept (s.withNodes t) := by
  intro hs
  obtain ⟨hb, hz, hf, hsg, hli, _⟩ := id hs
  exact ⟨⟨hb, hz, hf, hsg, hli, hw hs⟩, id, id, hp hs⟩

theorem State.kept_updateNodes (s : State) {f : Nat → Node → Node} (hf : ∀ k n, (f k n).at = n.at) :
    s.Kept (s.withNodes (Table.update f s.nodes)) :=
  s.kept_withNodes _ (fun h => Table.wf_update h.nodes f) fun _ hp =>
    hp.withNodes (hp.nodesApart.update hf)
      (Table.forall_update (p := Node.addressed) hp.addresses fun k n hn => hn.congr (hf k n))

/-! #### Fan groups -/

/-- The nodes of a group's drives. -/
abbrev Fan.nodes (g : Fan) : List Nat := g.drives.map (fun d => d.node)

/-- R97: no two drives have the same node. -/
def Table.drivesApart (t : Table Fan) : Prop :=
  ∀ e ∈ t, e.2.nodes.Nodup ∧ ∀ e' ∈ t, ∀ n ∈ e.2.nodes, n ∈ e'.2.nodes → e = e'

theorem Table.drivesApart_iff {t : Table Fan} : Table.drivesApart t ↔
    ∀ e ∈ t, (e.2.drives.map (fun d => d.node)).Nodup ∧
      ∀ e' ∈ t, ∀ d ∈ e.2.drives, ∀ d' ∈ e'.2.drives, d.node = d'.node → e = e' := by
  simp only [Table.drivesApart, List.mem_map, forall_exists_index, and_imp, forall_apply_eq_imp_iff₂]
  refine forall₂_congr fun e _ => and_congr_right fun _ => forall₂_congr fun e' _ => forall₂_congr fun d _ => ?_
  exact ⟨fun h d' hd' hn => h d' hd' hn.symm, fun h d' hd' hn => h d' hd' hn.symm⟩

theorem Table.drivesApart.set {t : Table Fan} (h : Table.drivesApart t) (hw : (Table.keys t).Pairwise (· < ·))
    {k : Nat} {g : Fan} (hn : g.nodes.Nodup) (hg : ∀ e ∈ t, e.1 ≠ k → ∀ n ∈ g.nodes, n ∉ e.2.nodes) :
    Table.drivesApart (Table.set t k g) := by
  intro e he
  rcases Table.mem_set_rising hw he with rfl | ⟨he, hk⟩
  · refine ⟨hn, fun e' he' n h1 h2 => ?_⟩
    rcases Table.mem_set_rising hw he' with rfl | ⟨he', hk'⟩
    · rfl
    · exact absurd h2 (hg e' he' hk' n h1)
  · refine ⟨(h e he).1, fun e' he' n h1 h2 => ?_⟩
    rcases Table.mem_set_rising hw he' with rfl | ⟨he', hk'⟩
    · exact absurd h1 (hg e he hk n h2)
    · exact (h e he).2 e' he' n h1 h2

theorem Table.drivesApart.set_same {t : Table Fan} (h : Table.drivesApart t) (hw : (Table.keys t).Pairwise (· < ·))
    {k : Nat} {g g' : Fan} (hg : Table.get t k = some g) (hn : g'.nodes = g.nodes) :
    Table.drivesApart (Table.set t k g') := by
  have hm := h (k, g) (Table.mem_of_get hg)
  rw [← hn] at hm
  exact h.set hw hm.1 fun e he hk n h1 h2 => hk (congrArg Prod.fst (hm.2 e he n h1 h2).symm)

theorem Table.drivesApart.update {t : Table Fan} (h : Table.drivesApart t) {f : Nat → Fan → Fan}
    (hf : ∀ k g, (f k g).nodes = g.nodes) : Table.drivesApart (Table.update f t) := by
  intro e he
  obtain ⟨a, ha, hea⟩ := Table.mem_update he
  rw [hea, hf]
  refine ⟨(h _ ha).1, fun e' he' n h1 h2 => ?_⟩
  obtain ⟨b, hb, heb⟩ := Table.mem_update he'
  rw [heb, hf] at h2
  obtain ⟨hk, hab⟩ := Prod.mk.inj ((h _ ha).2 _ hb n h1 h2)
  exact Prod.ext hk (by rw [hea, heb, hk, hab])

theorem State.kept_withFans (s : State) (t : Table Fan) (hw : s.tablesSound → Table.wf Config.fans t)
    (hp : s.tablesSound → Table.drivesApart s.fans → Table.drivesApart t) : s.Kept (s.withFans t) := by
  intro hs
  obtain ⟨hb, hz, _, hsg, hli, hn⟩ := id hs
  refine ⟨⟨hb, hz, hw hs, hsg, hli, hn⟩, id, id, fun ⟨pb, ps, pl, pf, pn⟩ => ⟨pb, ps, pl, ?_, pn⟩⟩
  exact Table.drivesApart_iff.1 (hp hs (Table.drivesApart_iff.2 pf))

theorem State.kept_setFan {s : State} {group : Nat} {g g' : Fan} (h : Table.get s.fans group = some g)
    (hn : g'.nodes = g.nodes) : s.Kept (s.withFans (Table.set s.fans group g')) :=
  s.kept_withFans _ (fun hs => Table.wf_set_of_get hs.fans h _) fun hs hp => hp.set_same hs.fans.1 h hn

theorem State.kept_changeFan (s : State) (group : Nat) {f : Fan → Fan}
    (hf : ∀ g, (f g).nodes = g.nodes := by exact fun _ => rfl) :
    s.Kept (s.changeFan group f) := by
  unfold State.changeFan Table.modify
  cases h : Table.get s.fans group with
  | none => exact .refl s
  | some g => exact State.kept_setFan h (hf g)

theorem State.kept_updateFans (s : State) {f : Nat → Fan → Fan} (hf : ∀ k g, (f k g).nodes = g.nodes) :
    s.Kept (s.withFans (Table.update f s.fans)) :=
  s.kept_withFans _ (fun hs => Table.wf_update hs.fans f) fun _ hp => hp.update hf

theorem State.kept_retarget (s : State) (group : Nat) : s.Kept (s.retarget group) :=
  s.kept_changeFan group

theorem State.kept_retargetServing (s : State) (zone : Nat) : s.Kept (s.retargetServing zone) :=
  s.kept_updateFans fun _ g => by split <;> rfl

theorem State.kept_withQueue (s : State) (q : List Nat) : s.Kept (s.withQueue q) := (s.withQueue_keeps q).kept

theorem State.kept_leaveQueue (s : State) (group : Nat) : s.Kept (s.leaveQueue group) := s.kept_withQueue _

theorem State.tablesSound.fan_lt {s : State} (hs : s.tablesSound) {group : Nat} {g : Fan}
    (h : Table.get s.fans group = some g) : group < AttClass.objects .fan := hs.fans.lt h

theorem State.changeFan_get {s : State} {group : Nat} {g : Fan} (h : Table.get s.fans group = some g)
    (f : Fan → Fan) : Table.get (s.changeFan group f).fans group = some (f g) := by
  simp [State.changeFan, h]

theorem State.kept_enterFault (s : State) (group : Nat) (c : FaultCause) : s.Kept (s.enterFault group c) := by
  unfold State.enterFault
  split
  · exact .refl s
  · next g hg =>
    exact fun hs => (((s.kept_changeFan group).trans (State.kept_withQueue _ _)).trans
      (State.kept_raise _ _ _ _ fun _ => hs.fan_lt hg)).trans (State.kept_availabilityNotice _ _) hs

theorem State.kept_judgeDrives (s : State) (group : Nat) : s.Kept (s.judgeDrives group) := by
  unfold State.judgeDrives
  split
  · exact .refl s
  · next g hg =>
    have h : ∀ b, s.Kept (s.changeFan group (fun g => { g with degraded := b })) :=
      fun _ => s.kept_changeFan group
    refine .ite (fun _ => h _) fun _ => .ite (fun _ => ?_) fun _ => ?_
    · exact .ite (fun _ => (h _).trans (State.kept_enterFault _ _ _)) fun _ => h _
    · exact .ite (fun _ => h _) fun _ => (h _).trans
        (State.kept_raise _ _ _ _ fun hs => hs.fan_lt (State.changeFan_get hg _))

theorem State.kept_moveForward (s : State) (group : Nat) : s.Kept (s.moveForward group) :=
  (s.kept_withQueue _).trans (State.kept_withQueue _ _)

theorem State.kept_placeFire (s : State) (group : Nat) : s.Kept (s.placeFire group) := by
  unfold State.placeFire
  split
  · exact .refl s
  · next g hg =>
    have h1 : s.Kept ((s.changeFan group (fun g =>
        { g with stack := stackWithFire g.stack (g.fireLevel s.fire.zone) })).retarget group) :=
      (s.kept_changeFan group).trans (State.kept_retarget _ _)
    have raise : ∀ {t : State} (b : Prop) [Decidable b] (r : Reason), s.Kept t →
        s.Kept (if b then t.raise .fan group r else t) := by
      intro t b _ r h hs
      exact State.Kept.ite (fun _ => h.trans (t.kept_raise _ _ _ fun _ => hs.fan_lt hg)) (fun _ => h) hs
    have h2 := raise (Config.stackDepth ≤ g.stack.length) .displaced h1
    have h3 := raise (g.state = .isolated) .isolatedInFire h2
    exact .ite (fun _ => h3.trans (State.kept_moveForward _ _)) fun _ => h3

theorem State.kept_relevelFire (s : State) (group : Nat) : s.Kept (s.relevelFire group) :=
  (s.kept_changeFan group).trans (State.kept_retarget _ _)

theorem State.kept_removeFire (s : State) (group : Nat) : s.Kept (s.removeFire group) :=
  (s.kept_changeFan group).trans (State.kept_retarget _ _)

theorem State.kept_grant (s : State) (group : Nat) : s.Kept (s.grant group) :=
  (s.kept_withQueue _).trans (State.kept_changeFan _ group)

theorem State.kept_joinQueue (s : State) (group : Nat) : s.Kept (s.joinQueue group) := by
  have h1 := s.kept_changeFan group (f := fun g => { g with state := .waiting }) fun _ => rfl
  unfold State.joinQueue
  dsimp only
  split
  · exact (h1.trans (State.kept_grant _ _)).trans ((State.takeSlot_keeps _).kept)
  · exact h1.trans ((State.enqueue_keeps _ _).kept)

/-- R97, R98: nodes that do not clash are listed once, and by no other group. -/
theorem State.drivesFree {s : State} {group : Nat} {l : List Nat} (h : s.drivesClash group l = false) :
    l.Nodup ∧ ∀ e ∈ s.fans, e.1 ≠ group → ∀ n ∈ l, n ∉ e.2.nodes := by
  simp only [State.drivesClash, Bool.or_eq_false_iff, Bool.not_eq_false', decide_eq_true_eq, List.any_eq_false,
    Bool.not_eq_true] at h
  refine ⟨h.1.2, fun e he hne n hn hm => ?_⟩
  obtain ⟨d, hd, hdn⟩ := List.mem_map.1 hm
  have := Table.exists_eq_false.1 (h.2 n hn) e he
  simp only [Bool.and_eq_false_iff, decide_eq_false_iff_not, not_not, hne, false_or, List.any_eq_false,
    decide_eq_true_eq] at this
  exact this d hd hdn

theorem Fan.fresh_nodes (zones : ZoneSet) (drives : List Nat) (st : FanSettings) :
    (Fan.fresh zones drives st).nodes = drives := by
  simp [Fan.fresh, Fan.nodes, Function.comp_def]

theorem redrive_nodes (old : List Drive) (l : List Nat) : (redrive old l).map (fun d => d.node) = l := by
  simp [redrive, Function.comp_def]

theorem State.kept_installFan (s : State) {group : Nat} {zones noticed : ZoneSet} {drives : List Nat}
    {st : FanSettings} (hg : group < 24) (hd : s.drivesClash group drives = false) :
    s.Kept (s.installFan group (Fan.fresh zones drives st) noticed) := by
  obtain ⟨hnodup, hfree⟩ := State.drivesFree hd
  have h0 : s.Kept ((s.leaveQueue group).withFans (Table.set s.fans group (Fan.fresh zones drives st))) := by
    refine (s.kept_withQueue _).trans (State.kept_withFans _ _ (fun hs => Table.wf_set hs.fans hg _) fun hs hp => ?_)
    refine hp.set hs.fans.1 ?_ ?_
    · rwa [Fan.fresh_nodes]
    · rw [Fan.fresh_nodes]; exact hfree
  have h1 : s.Kept (if ((s.removeFan group).withFans (Table.set s.fans group (Fan.fresh zones drives st))).fireActive
      then ((s.removeFan group).withFans (Table.set s.fans group (Fan.fresh zones drives st))).placeFire group
      else (s.removeFan group).withFans (Table.set s.fans group (Fan.fresh zones drives st))) :=
    .ite (fun _ => h0.trans (State.kept_placeFire _ _)) fun _ => h0
  exact ((h1.trans (State.kept_retarget _ _)).trans (State.kept_judgeDrives _ _)).trans
    (State.kept_availabilityNotice _ _)

theorem State.kept_changeFanWhole (s : State) {group : Nat} {g : Fan} {zones : ZoneSet} {drives : List Nat}
    {st : FanSettings} (h : Table.get s.fans group = some g)
    (hd : drives = g.nodes ∨ s.drivesClash group drives = false) :
    s.Kept (s.changeFanWhole group g zones drives st) := by
  have hnodes : (g.changed zones drives st).nodes = drives := redrive_nodes _ _
  have h1 : s.Kept (s.withFans (Table.set s.fans group (g.changed zones drives st))) := by
    rcases hd with hd | hd
    · exact State.kept_setFan h (hnodes.trans hd)
    · obtain ⟨hnodup, hfree⟩ := State.drivesFree hd
      refine s.kept_withFans _ (fun hs => Table.wf_set_of_get hs.fans h _) fun hs hp => hp.set hs.fans.1 ?_ ?_
      · rwa [hnodes]
      · rwa [hnodes]
  have h2 := State.Kept.ite (b := zones = g.served) (fun _ => h1) fun _ => h1.trans (State.kept_retarget _ group)
  have h3 := State.Kept.ite (b := drives = g.drives.map (fun d => d.node)) (fun _ => h2)
    fun _ => h2.trans (State.kept_judgeDrives _ group)
  exact .ite (fun _ => h3) fun _ => h3.trans (State.kept_availabilityNotice _ _)

/-! #### The evaluation of a zone, fire mode, RESTART -/

theorem State.kept_fumeReported (s : State) (zone : Nat) : s.Kept (s.fumeReported zone) :=
  (s.withFumeSet_keeps _).kept.trans (State.kept_judgeForcing _ _)

theorem State.kept_fumeEnded (s : State) (zone : Nat) : s.Kept (s.fumeEnded zone) :=
  (s.withFumeSet_keeps _).kept.trans (State.kept_judgeForcing _ _)

theorem State.kept_fumeEffects (s : State) {zone : Nat} (hz : s.tablesSound → zone < 32) (old new : Fume) :
    s.Kept (s.fumeEffects zone old new) := by
  have report : ∀ (f : Causes → Causes) (r : Reason), s.Kept ((s.changeCauses zone f).raise .air zone r) :=
    fun f r hs => ((s.kept_changeCauses zone f).trans (State.kept_raise _ _ _ _ fun _ => hz hs)) hs
  have entered := ((report (fun c => { c with fume := true }) .fumeEntered).trans
    (State.kept_fumeReported _ zone)).trans (State.kept_retargetServing _ zone)
  have left := ((report (fun c => { c with fume := false }) .fumeLeft).trans
    (State.kept_fumeEnded _ zone)).trans (State.kept_retargetServing _ zone)
  exact .ite (fun _ => .refl s) fun _ => (State.Kept.ite (fun _ => entered)
    fun _ => .ite (fun _ => left) fun _ => .refl s).trans (State.kept_judgeAirCause _ _)

theorem State.kept_evaluateZone (s : State) (zone : Nat) : s.Kept (s.evaluateZone zone) := by
  unfold State.evaluateZone
  split
  · exact .refl s
  · next z hz =>
    have h1 : ∀ a, s.Kept ((s.clearPeaks zone).withZones (Table.set s.zones zone { z with air := a })) := fun a =>
      Kept.trans (s.kept_updateNodes fun _ n => by split <;> rfl) (State.kept_setZone (s := s.clearPeaks zone) hz id)
    intro hs
    refine State.Kept.trans ?_ (State.kept_fumeEffects _ (fun _ => hs.zone_lt hz) _ _) hs
    exact .ite (fun _ => (h1 _).trans (State.kept_raise _ _ _ _ fun _ => hs.zone_lt hz)) fun _ => h1 _

theorem State.kept_fireCause (s : State) (present : Bool) : s.Kept (s.fireCause present) :=
  .forEach (fun _ s => s.kept_changeCauses _ _) _ _

theorem State.kept_recomputeSigns (s : State) : s.Kept s.recomputeSigns :=
  s.kept_updateSigns fun _ g => s.recomputed_at g

/-- What entering and leaving fire mode do once the groups have or have lost their FIRE entries. -/
theorem State.kept_fireEffects (s : State) (present : Bool) (r : Reason) :
    s.Kept (((s.fireCause present).recomputeSigns.setFireFlag present).raise .fire 0 r) :=
  ((((s.kept_fireCause present).trans (State.kept_recomputeSigns _)).trans
    ((State.withFireFlag_keeps _ present).kept)).trans (State.kept_judgeForcing _ _)).trans
    (State.kept_raise _ _ _ _ fun _ => by simp [AttClass.objects])

theorem State.kept_withFire (s : State) (f : FireMonitor) : s.Kept (s.withFire f) := (s.withFire_keeps f).kept

theorem Table.wf_nil {α : Type} (n : Nat) : Table.wf n ([] : Table α) := ⟨.nil, by simp [Table.keys]⟩

theorem State.kept_restartPorts (s : State) : s.Kept s.restartPorts := by
  have h : s.Kept { s with main := s.main.restarted, panel := s.panel.restarted } := fun hs =>
    ⟨hs, id, fun _ p k => by cases p <;> cases k <;> exact Table.wf_nil _, id⟩
  exact .ite (fun _ => h.trans (State.kept_raise _ _ _ _ fun _ => by simp [AttClass.objects])) fun _ => h

theorem Light.settled_at (due : Bool) (now : Seconds) (l : Light) : (l.settled due now).at = l.at :=
  (l.settled_spec due now).2.2.2

theorem State.kept_restartRecords (s : State) : s.Kept s.restartRecords := by
  unfold State.restartRecords
  refine ((s.kept_withBays (Table.update (fun _ b => b.restarted s.seconds) s.bays) (fun hs => Table.wf_update hs.bays _)
      fun _ ha hc => ⟨ha.update fun _ _ => rfl,
        Table.forall_update (p := fun b : Bay => b.channel ≤ 15) hc fun _ _ h => h⟩).trans
      (State.kept_updateNodes _ (f := fun _ n => n.restarted) fun _ _ => rfl)).trans
      (State.kept_updateZones _ ?_)
  exact fun _ _ h => h

theorem State.kept_restartFans (s : State) : s.Kept s.restartFans := by
  unfold State.restartFans
  refine (((s.kept_updateFans ?_).trans ((State.withQueue_keeps _ _).seq (State.withSlot_keeps _ _)
    (n := [.queue, .slot]) (by decide) (by decide)).kept).trans (State.kept_updateFans _ ?_)).trans
    ((State.withFanNext_keeps _ _).kept)
  · exact fun _ g => by simp [Fan.nodes, Fan.restarted, Function.comp_def]
  · exact fun _ _ => rfl

theorem State.kept_restartAir (s : State) : s.Kept s.restartAir := by
  unfold State.restartAir
  refine (s.kept_updateZones ?_).trans ((State.withAirNext_keeps _ _).kept)
  exact fun _ _ h => h

theorem State.kept_restartOutputs (s : State) : s.Kept s.restartOutputs := by
  unfold State.restartOutputs
  refine (((s.withFireFlag_keeps _).seq (State.withFumeSet_keeps _ _) (n := [.fireFlag, .fumeSet])
    (by decide) (by decide)).kept.trans (State.kept_updateLights _ ?_)).trans (State.kept_updateSigns _ ?_)
  · exact fun _ _ => Light.settled_at _ _ _
  · exact fun _ _ => rfl

theorem State.kept_restartBlocks (s : State) : s.Kept s.restartBlocks :=
  (((s.kept_restartRecords.trans (State.kept_restartFans _)).trans (State.kept_restartAir _)).trans
    (State.kept_restartOutputs _)).trans (State.kept_restartPorts _)

/-! ### Every move -/

theorem State.fullReset_kept (s : State) (pins : Pins) : s.Kept (s.fullReset pins) := fun _ => by
  refine ⟨⟨Table.wf_nil _, Table.wf_nil _, Table.wf_nil _, Table.wf_nil _, Table.wf_nil _, Table.wf_nil _⟩, fun _ e he => absurd he List.not_mem_nil, fun _ p k => ?_, fun _ => ?_⟩
  · cases p <;> cases k <;> exact Table.wf_nil _
  · refine ⟨?_, ?_, ?_, ?_, ?_⟩ <;> (intro e he; cases he)

theorem State.putBay_kept {s : State} {bay : Nat} {old : Bay} (b : Bay) (h : Table.get s.bays bay = some old)
    (hm : s.BayMoves bay old b) : s.Kept (s.putBay bay b) := by
  have hset : s.Kept (s.withBays (Table.set s.bays bay (Bay.stamped s.seconds old b))) := by
    have stamped : (Bay.stamped s.seconds old b).at = b.at := by unfold Bay.stamped; split <;> rfl
    refine s.kept_withBays _ (fun hs => Table.wf_set_of_get hs.bays h _) fun hs ha hc => ?_
    have hold := hc _ (Table.mem_of_get h)
    rcases hm.place with ⟨hn, hch⟩ | ⟨hch, hfree⟩
    · refine ⟨ha.set_same hs.bays.1 h (by rw [stamped, Bay.at, hn, hch]),
        Table.forall_set (p := fun b : Bay => b.channel ≤ 15) hc bay ?_⟩
      have hs := congrArg Prod.snd stamped
      change (Bay.stamped s.seconds old b).channel = b.channel at hs
      rw [hs]
      rwa [hch]
    · refine ⟨ha.set hs.bays.1 fun e he hne => by rw [stamped]; exact State.channelFree hfree e he hne,
        Table.forall_set (p := fun b : Bay => b.channel ≤ 15) hc bay ?_⟩
      have hs := congrArg Prod.snd stamped
      change (Bay.stamped s.seconds old b).channel = b.channel at hs
      rw [hs]
      exact hch
  unfold State.putBay
  rw [h]
  refine .ite (fun _ => .refl s) fun _ hs => ?_
  have h1 := hset.trans (State.kept_recount _ (some old) (some (Bay.stamped s.seconds old b)))
  exact State.Kept.ite (fun _ => h1.trans (State.kept_raise _ _ _ _ fun _ => hs.bays.lt h)) (fun _ => h1) hs

theorem State.setZone_kept {s : State} {zone : Nat} {z : Zone} {level : Nat} {st : ZoneSettings}
    (h : Table.get s.zones zone = some z) (hc : st.consistent level = true) :
    s.Kept (s.setZone zone z (z.withSettings level st)) := by
  have hz : (z.withSettings level st).consistent := by
    unfold Zone.withSettings
    dsimp only
    split <;> exact hc
  have h1 := State.kept_setZone h (z' := z.withSettings level st) fun _ => hz
  exact .ite (fun _ => h1) fun _ => h1.trans (State.kept_markSigns _ _)

theorem State.Move.kept {s t : State} {l : List Field} (m : State.Move s t l) : s.Kept t := by
  have hk := m.keeps
  cases m with
  | raise c o r h => exact s.kept_raise c o r h
  | attention p a h =>
    refine fun hs => ⟨by simpa [State.tablesSound] using hs, by simp only [State.levelsConsistent]; simp, fun ha q => ?_, by
      simp only [State.placesSound]; simp⟩
    by_cases hq : q = p
    · subst hq; rw [State.withPort_port]; exact h (ha q)
    · rw [State.withPort_port_ne s _ hq]; exact ha q
  | nodes t hw hp => exact s.kept_withNodes t hw hp
  | putBay b h hm => exact State.putBay_kept b h hm
  | @newBay bay b h hb hz hc hp hr =>
    refine (s.kept_withBays _ (fun hs => Table.wf_set hs.bays hb b) fun hs ha hch => ?_).trans (State.kept_recount _ _ _)
    exact ⟨ha.set hs.bays.1 (State.channelFree hp),
      Table.forall_set (p := fun b : Bay => b.channel ≤ 15) hch bay hc⟩
  | @dropBay bay b h =>
    refine (s.kept_withBays _ (fun hs => Table.wf_erase hs.bays bay) fun _ ha hch => ?_).trans (State.kept_recount _ _ _)
    exact ⟨ha.erase bay, Table.forall_erase (p := fun b : Bay => b.channel ≤ 15) hch bay⟩
  | credit zone arrival =>
    unfold State.addCredit
    split
    · exact .refl s
    · next z hz => exact State.kept_setZone hz id
  | operatorCause zone present => exact s.kept_changeCauses _ _
  | @newZone zone level st h hz hc =>
    exact s.kept_withZones _ (fun hs => Table.wf_set hs.zones hz _)
      fun _ hl => Table.forall_set (p := Zone.consistent) hl zone hc
  | setZone level st h hc => exact State.setZone_kept h hc
  | dropZone zone _ =>
    exact (s.kept_withZones _ (fun hs => Table.wf_erase hs.zones zone)
      fun _ hl => Table.forall_erase (p := Zone.consistent) hl zone).trans ((State.withFumeSet_keeps _ _).kept)
  | evaluate zone => exact s.kept_evaluateZone zone
  | movement zone => exact s.kept_movement zone
  | @light group l l' h hm =>
    refine s.kept_withLights _ (fun hs => Table.wf_set_of_get hs.lights h _) fun hs ha => ?_
    rcases hm.place with hn | hfree
    · exact ha.set_same hs.lights.1 h hn
    · exact ha.set hs.lights.1 (State.lightNodeFree hfree)
  | newLight l hg hp _ _ =>
    exact s.kept_withLights _ (fun hs => Table.wf_set hs.lights hg l)
      fun hs ha => ha.set hs.lights.1 (State.lightNodeFree hp)
  | dropLight group =>
    exact s.kept_withLights _ (fun hs => Table.wf_erase hs.lights group) fun _ ha => ha.erase group
  | @sign sign g g' h hm =>
    refine s.kept_withSigns _ (fun hs => Table.wf_set_of_get hs.signs h _) fun hs ha => ?_
    rcases hm.place with hn | hfree
    · exact ha.set_same hs.signs.1 h hn
    · exact ha.set hs.signs.1 (State.signNodeFree hfree)
  | newSign g hg hp _ _ =>
    exact s.kept_withSigns _ (fun hs => Table.wf_set hs.signs hg g)
      fun hs ha => ha.set hs.signs.1 (State.signNodeFree hp)
  | dropSign sign =>
    exact s.kept_withSigns _ (fun hs => Table.wf_erase hs.signs sign) fun _ ha => ha.erase sign
  | report group f _ hd => exact s.kept_changeFan group hd
  | judgeDrives group => exact s.kept_judgeDrives group
  | @isolate group g h =>
    have h1 := (s.kept_changeFan group (f := fun g =>
      { g with state := .isolated, commanded := 0, proof := none, faultCause := none })).trans
      (State.kept_leaveQueue _ group)
    exact .ite (fun _ => h1.trans (State.kept_availabilityNotice _ _)) fun _ => h1
  | @returnToService group g h _ =>
    have h1 := (s.kept_changeFan group (f := fun g => { g with state := .stopped, faultCause := none })).trans
      (State.kept_judgeDrives _ group)
    exact .ite (fun _ => h1.trans (State.kept_availabilityNotice _ _)) fun _ => h1
  | installFan zones drives st hg hz hd _ => exact s.kept_installFan hg hd
  | setFan zones drives st h hz hd _ => exact s.kept_changeFanWhole h hd
  | @dropFan group g h =>
    exact ((s.kept_withQueue _).trans (State.kept_withFans _ _ (fun hs => Table.wf_erase hs.fans group)
      fun _ hp e he => ⟨(hp e (Table.mem_erase he)).1, fun e' he' => (hp e (Table.mem_erase he)).2 e' (Table.mem_erase he')⟩)).trans
      (State.kept_availabilityNotice _ _)
  | restack k h _ => exact (s.kept_changeFan _).trans (State.kept_retarget _ _)
  | retarget group => exact s.kept_retarget group
  | joinQueue h _ => exact s.kept_joinQueue _
  | quitQueue h _ => exact (s.kept_withQueue _).trans (State.kept_changeFan _ _)
  | @run group g f h _ hm =>
    have : s.changeFan group f = s.withFans (Table.set s.fans group (f g)) := by
      rw [State.changeFan, Table.modify, h]
    rw [this]
    exact State.kept_setFan h (by rw [hm.only])
  | grantHead h => exact (s.kept_grant _).trans ((State.takeSlot_keeps _).kept)
  | enterFault cause h _ => exact s.kept_enterFault _ _
  | enterFire _ _ =>
    exact ((s.kept_withFire _).trans (.forEach (fun n s => s.kept_placeFire n) _ _)).trans
      (State.kept_fireEffects _ true _)
  | leaveFire _ _ =>
    exact ((s.kept_withFire _).trans (.forEach (fun n s => s.kept_removeFire n) _ _)).trans
      (State.kept_fireEffects _ false _)
  | moveFireZone zone _ =>
    exact ((s.kept_withFire _).trans (.forEach (fun n s => s.kept_relevelFire n) _ _)).trans
      (State.kept_raise _ _ _ _ fun _ => by simp [AttClass.objects])
  | restart => exact s.kept_restartBlocks
  | reset pins => exact s.fullReset_kept pins
  | _ => exact hk.kept

theorem PartSettings.default_sound : PartSettings.default.sound := by
  refine ⟨by decide, by decide, by decide, by decide, by decide, by decide, by decide, by decide, fun i => ?_⟩
  cases i <;> decide

/-- R183: the settings stay in their ranges. -/
theorem State.Move.settingsSound {s t : State} {l : List Field} (m : State.Move s t l) (h : s.settings.sound) :
    t.settings.sound := by
  have same : Field.settings ∉ l → t.settings = s.settings := m.keeps .settings
  cases m with
  | settings v hv => exact hv h
  | reset pins => exact PartSettings.default_sound
  | _ => exact same (by decide) ▸ h

/-- Settles O52: every move keeps all four (`State.Move.kept`, `State.Move.settingsSound`), and a step is a run of
moves. -/
theorem tablesAndSettingsStaySound : Obligations.TablesAndSettingsStaySound := by
  refine ⟨fun s t ht hs => step_keeps (P := fun s => s.tablesSound ∧ s.settings.sound) ?_ ⟨ht, hs⟩,
    fun s t ht hs hstep => (step_keeps (P := fun s => s.tablesSound ∧ s.levelsConsistent) ?_ ⟨ht, hs⟩ hstep).2,
    fun s t ht hs hstep => (step_keeps (P := fun s => s.tablesSound ∧ s.setsSound) ?_ ⟨ht, hs⟩ hstep).2,
    fun s t ht hs hstep => (step_keeps (P := fun s => s.tablesSound ∧ s.placesSound) ?_ ⟨ht, hs⟩ hstep).2⟩
  · exact fun s t l m h => ⟨(m.kept h.1).1, m.settingsSound h.2⟩
  · exact fun s t l m h => ⟨(m.kept h.1).1, (m.kept h.1).2.1 h.2⟩
  · exact fun s t l m h => ⟨(m.kept h.1).1, (m.kept h.1).2.2.1 h.2⟩
  · exact fun s t l m h => ⟨(m.kept h.1).1, (m.kept h.1).2.2.2 h.2⟩

/-- The tables stay sound through every move. -/
theorem State.Move.tablesSound {s t : State} {l : List Field} (m : State.Move s t l) (h : s.tablesSound) :
    t.tablesSound := (m.kept h).1

end Sys2Proof.Machine

/-! ## Proofs: what a change makes of the zones (R28 to R34, R67 to R71) -/

namespace Sys2Proof.Machine

/-! ### Tables that change record by record -/

section Moves

variable {α : Type} {R : Nat → α → α → Prop} {t t' t'' : Table α}

/-- No record of a table is made or removed, and each moves as `R` allows. -/
structure Table.Moves (R : Nat → α → α → Prop) (t t' : Table α) : Prop where
  back : ∀ e' ∈ t', ∃ a, (e'.1, a) ∈ t ∧ R e'.1 a e'.2
  undefined : ∀ k, Table.get t k = none → Table.get t' k = none
  defined : ∀ k a, Table.get t k = some a → ∃ a', Table.get t' k = some a' ∧ R k a a'

theorem Table.Moves.refl (hR : ∀ k a, R k a a) (t : Table α) : Table.Moves R t t :=
  ⟨fun e he => ⟨e.2, he, hR _ _⟩, fun _ h => h, fun k a h => ⟨a, h, hR k a⟩⟩

theorem Table.Moves.trans (hR : ∀ k a b c, R k a b → R k b c → R k a c) (h : Table.Moves R t t')
    (h' : Table.Moves R t' t'') : Table.Moves R t t'' := by
  refine ⟨fun e he => ?_, fun k hk => h'.undefined k (h.undefined k hk), fun k a ha => ?_⟩
  · obtain ⟨b, hb, hbe⟩ := h'.back e he
    obtain ⟨a, ha, hab⟩ := h.back _ hb
    exact ⟨a, ha, hR _ _ _ _ hab hbe⟩
  · obtain ⟨b, hb, hab⟩ := h.defined k a ha
    obtain ⟨c, hc, hbc⟩ := h'.defined k b hb
    exact ⟨c, hc, hR _ _ _ _ hab hbc⟩

theorem Table.Moves.mono {R' : Nat → α → α → Prop} (h : Table.Moves R t t') (hR : ∀ k a b, R k a b → R' k a b) :
    Table.Moves R' t t' := by
  refine ⟨fun e he => ?_, h.undefined, fun k a ha => ?_⟩
  · obtain ⟨a, ha, hr⟩ := h.back e he; exact ⟨a, ha, hR _ _ _ hr⟩
  · obtain ⟨a', ha', hr⟩ := h.defined k a ha; exact ⟨a', ha', hR _ _ _ hr⟩

/-- A write over a record. -/
theorem Table.Moves.set (hR : ∀ k a, R k a a) {k : Nat} {a a' : α} (h : Table.get t k = some a) (hr : R k a a') :
    Table.Moves R t (Table.set t k a') := by
  refine ⟨fun e he => ?_, fun n hn => ?_, fun n b hb => ?_⟩
  · rcases Table.mem_set he with rfl | he
    · exact ⟨a, Table.mem_of_get h, hr⟩
    · exact ⟨e.2, he, hR _ _⟩
  · by_cases hk : n = k
    · subst hk; simp [h] at hn
    · rwa [Table.get_set_ne _ _ hk]
  · by_cases hk : n = k
    · subst hk
      obtain rfl : a = b := Option.some.inj (h.symm.trans hb)
      exact ⟨a', Table.get_set _ _ _, hr⟩
    · exact ⟨b, by rwa [Table.get_set_ne _ _ hk], hR _ _⟩

theorem Table.Moves.modify (hR : ∀ k a, R k a a) {k : Nat} {f : α → α} (hr : ∀ a, R k a (f a)) :
    Table.Moves R t (Table.modify t k f) := by
  unfold Table.modify
  cases h : Table.get t k with
  | none => exact .refl hR t
  | some a => exact .set hR h (hr a)

/-- What the moves keep of every record. -/
theorem Table.Moves.keeps {P Q : Nat → α → Prop} (h : Table.Moves R t t') (hP : ∀ k a b, R k a b → P k a → Q k b)
    (ht : ∀ e ∈ t, P e.1 e.2) : ∀ e ∈ t', Q e.1 e.2 := by
  intro e he
  obtain ⟨a, ha, hr⟩ := h.back e he
  exact hP _ _ _ hr (ht _ ha)

/-- What the moves leave of a record can be read before or after. -/
theorem Table.Moves.read {β : Type} {f : α → β} (h : Table.Moves R t t') (hf : ∀ k a b, R k a b → f b = f a) (k : Nat) :
    (Table.get t' k).map f = (Table.get t k).map f := by
  cases ha : Table.get t k with
  | none => rw [h.undefined k ha]
  | some a =>
    obtain ⟨b, hb, hr⟩ := h.defined k a ha
    rw [hb, Option.map_some, Option.map_some, hf k a b hr]

theorem Table.Moves.has (h : Table.Moves R t t') (k : Nat) : Table.has t' k = Table.has t k := by
  have := h.read (f := fun _ => ()) (fun _ _ _ _ => rfl) k
  unfold Table.has
  cases ht : Table.get t k <;> cases ht' : Table.get t' k <;> simp_all

end Moves

/-! ### The closure causes (R34, R70, R71) -/

theorem State.changeCauses_get (s : State) (zone : Nat) (f : Causes → Causes) (k : Nat) :
    Table.get (s.changeCauses zone f).zones k = (Table.get s.zones k).map (fun z =>
      if k = zone then { z with causes := f z.causes } else z) := by
  unfold State.changeCauses
  split
  · next hz => by_cases hk : k = zone <;> simp_all
  · next z hz =>
    split
    · next hf => by_cases hk : k = zone <;> simp_all
    · by_cases hk : k = zone
      · subst hk; simp [State.markSigns, hz]
      · simp [State.markSigns, Table.get_set_ne _ _ hk, hk]

theorem State.changeCauses_moves (s : State) (zone : Nat) (f : Causes → Causes) :
    Table.Moves (fun k z z' => z' = z ∨ k = zone ∧ z' = { z with causes := f z.causes }) s.zones
      (s.changeCauses zone f).zones := by
  unfold State.changeCauses
  split
  · exact .refl (fun _ _ => .inl rfl) _
  · next z hz =>
    split
    · exact .refl (fun _ _ => .inl rfl) _
    · exact .set (fun _ _ => .inl rfl) hz (.inr ⟨rfl, rfl⟩)

/-- R71: whether a zone carries AIR. -/
def Zone.airDue (z : Zone) : Bool := decide (z.air.status = .lost) && !decide (z.air.fume = .clear)

/-- R71: the AIR cause judged. -/
def Zone.airJudged (z : Zone) : Zone := { z with causes := { z.causes with air := z.airDue } }

theorem State.judgeAirCause_get (s : State) (zone k : Nat) :
    Table.get (s.judgeAirCause zone).zones k =
      (Table.get s.zones k).map (fun z => if k = zone then z.airJudged else z) := by
  unfold State.judgeAirCause
  split
  · next hz => by_cases hk : k = zone <;> simp_all
  · next z hz =>
    rw [State.changeCauses_get]
    by_cases hk : k = zone
    · subst hk; simp [hz, Zone.airJudged, Zone.airDue]
    · simp [hk]

/-- R70: a zone's record with its air status found again, and the AIR cause judged where it is new. -/
def Zone.withStatus (st : AirStatus) (z : Zone) : Zone :=
  if st = z.air.status then z else { z with air := { z.air with status := st } }.airJudged

@[simp] theorem Zone.withStatus_idem (st : AirStatus) (z : Zone) :
    (z.withStatus st).withStatus st = z.withStatus st := by
  unfold Zone.withStatus
  split
  · rfl
  · simp [Zone.airJudged]

@[simp] theorem Zone.withStatus_status (st : AirStatus) (z : Zone) : (z.withStatus st).air.status = st := by
  unfold Zone.withStatus
  split
  · next h => exact h.symm
  · rfl

theorem State.judgeStatus_get (s : State) (zone k : Nat) :
    Table.get (s.judgeStatus zone).zones k =
      (Table.get s.zones k).map (fun z => if k = zone then z.withStatus (s.airStatusOf zone) else z) := by
  unfold State.judgeStatus
  split
  · next hz => by_cases hk : k = zone <;> simp_all
  · next z hz =>
    by_cases hk : k = zone
    · subst hk
      dsimp only
      split
      · next h => simp [hz, Zone.withStatus, h]
      · next h => rw [State.judgeAirCause_get]; simp [hz, Zone.withStatus, h]
    · dsimp only
      split
      · simp
      · rw [State.judgeAirCause_get]; simp [Table.get_set_ne _ _ hk, hk]

/-! ### What notices leave of a zone -/

/-- A zone's record but for its counts, its closure causes and its air status. -/
def Zone.Stays (z z' : Zone) : Prop :=
  z' = { z with
    tallies := z'.tallies, total := z'.total, free := z'.free, fill := z'.fill, causes := z'.causes
    air := { z.air with status := z'.air.status } }

theorem Zone.Stays.refl (z : Zone) : z.Stays z := rfl

theorem Zone.Stays.trans {z z' z'' : Zone} (h : z.Stays z') (h' : z'.Stays z'') : z.Stays z'' := by
  unfold Zone.Stays at *
  rw [h', h]

/-- The zones are the same ones, with at most new counts, closure causes and air status. -/
def State.ZonesStay (s t : State) : Prop := Table.Moves (fun _ => Zone.Stays) s.zones t.zones

theorem State.ZonesStay.refl (s : State) : s.ZonesStay s := Table.Moves.refl (fun _ => Zone.Stays.refl) _

theorem State.ZonesStay.trans {s t u : State} (h : s.ZonesStay t) (h' : t.ZonesStay u) : s.ZonesStay u :=
  Table.Moves.trans (fun _ _ _ _ => Zone.Stays.trans) h h'

theorem State.ZonesStay.of_eq {s t : State} (h : t.zones = s.zones) : s.ZonesStay t := by
  unfold State.ZonesStay; rw [h]; exact Table.Moves.refl (fun _ => Zone.Stays.refl) _

theorem State.ZonesStay.forEach {f : Nat → State → State} (hf : ∀ n s, State.ZonesStay s (f n s)) (ns : List Nat)
    (s : State) : s.ZonesStay (State.forEach f ns s) := by
  induction ns generalizing s with
  | nil => exact .refl s
  | cons n ns ih => exact (hf n s).trans (ih (f n s))

theorem State.changeCauses_stay (s : State) (zone : Nat) (f : Causes → Causes) : s.ZonesStay (s.changeCauses zone f) := by
  refine (s.changeCauses_moves zone f).mono ?_
  rintro k z _ (rfl | ⟨-, rfl⟩) <;> rfl

theorem State.judgeAirCause_stay (s : State) (zone : Nat) : s.ZonesStay (s.judgeAirCause zone) := by
  unfold State.judgeAirCause
  split
  · exact .refl s
  · exact s.changeCauses_stay _ _

theorem State.judgeStatus_stay (s : State) (zone : Nat) : s.ZonesStay (s.judgeStatus zone) := by
  unfold State.judgeStatus
  split
  · exact .refl s
  · next z hz =>
    dsimp only
    split
    · exact .refl s
    · refine State.ZonesStay.trans ?_ (State.judgeAirCause_stay _ _)
      exact Table.Moves.set (fun _ => Zone.Stays.refl) hz rfl

/-- A zone's record with new counts and fill state alone (R30 to R32). -/
def Zone.Recounted (z z' : Zone) : Prop :=
  z' = { z with tallies := z'.tallies, total := z'.total, free := z'.free, fill := z'.fill }

theorem Zone.Recounted.refl (z : Zone) : z.Recounted z := rfl

theorem Zone.Recounted.trans {z z' z'' : Zone} (h : z.Recounted z') (h' : z'.Recounted z'') : z.Recounted z'' := by
  unfold Zone.Recounted at *
  rw [h', h]

theorem Zone.Recounted.stays {z z' : Zone} (h : z.Recounted z') : z.Stays z' := by
  unfold Zone.Stays
  rw [h]

theorem Zone.adjusted_recounted {f : Zone → Zone} (hf : countsOnly f) (z : Zone) : z.Recounted (z.adjusted f) := by
  unfold Zone.Recounted Zone.adjusted Zone.judged
  split <;> rw [hf]

theorem State.adjustZone_moves (s : State) (zone : Nat) {f : Zone → Zone} (hf : countsOnly f) :
    Table.Moves (fun _ => Zone.Recounted) s.zones (s.adjustZone zone f).zones := by
  rw [State.adjustZone_zones]
  exact .modify (fun _ => Zone.Recounted.refl) (Zone.adjusted_recounted hf)

theorem State.recount_moves (s : State) (old new : Option Bay) :
    Table.Moves (fun _ => Zone.Recounted) s.zones (s.recount old new).zones := by
  unfold State.recount
  split
  · split
    · exact s.adjustZone_moves _ fun _ => rfl
    · exact (s.adjustZone_moves _ fun _ => rfl).trans (fun _ _ _ _ => Zone.Recounted.trans)
        (State.adjustZone_moves _ _ fun _ => rfl)
  · exact s.adjustZone_moves _ fun _ => rfl
  · exact s.adjustZone_moves _ fun _ => rfl
  · exact .refl (fun _ => Zone.Recounted.refl) _

theorem State.putBay_moves (s : State) (bay : Nat) (b : Bay) :
    Table.Moves (fun _ => Zone.Recounted) s.zones (s.putBay bay b).zones := by
  unfold State.putBay
  split
  · exact .refl (fun _ => Zone.Recounted.refl) _
  · dsimp only
    split
    · exact .refl (fun _ => Zone.Recounted.refl) _
    · have h := fun old new => State.recount_moves (s.withBays (Table.set s.bays bay new)) (some old) (some new)
      split <;> exact h _ _

/-- R70: a notice naming zones has found the air status of those of them that are defined again. -/
structure State.Noticed (s t : State) (m : ZoneSet) : Prop where
  stay : s.ZonesStay t
  read : ∀ k, Table.get t.zones k = (Table.get s.zones k).map (fun z =>
    if m.getLsbD k then z.withStatus (t.airStatusOf k) else z)

theorem State.airStatusOf_congr {s t : State} (h : t.fans = s.fans) (k : Nat) : t.airStatusOf k = s.airStatusOf k := by
  simp only [State.airStatusOf, h]

theorem State.Noticed.of_eq {s t : State} (h : t.zones = s.zones) : s.Noticed t 0 :=
  ⟨.of_eq h, fun k => by simp [h]⟩

theorem State.forEach_judgeStatus_get (ns : List Nat) (s : State) (k : Nat) :
    Table.get (State.forEach State.judgeStatus ns s).zones k = (Table.get s.zones k).map (fun z =>
      if k ∈ ns then z.withStatus (s.airStatusOf k) else z) := by
  induction ns generalizing s with
  | nil => simp [State.forEach]
  | cons n ns ih =>
    have hfans : (s.judgeStatus n).fans = s.fans := s.judgeStatus_keeps n .fans (by decide)
    rw [State.forEach, ih, State.judgeStatus_get, State.airStatusOf_congr hfans, Option.map_map]
    congr 1
    funext z
    by_cases hk : k = n
    · subst hk; by_cases hmem : k ∈ ns <;> simp [hmem]
    · simp [hk]

theorem mem_zonesIn {m : ZoneSet} {k : Nat} : k ∈ zonesIn m ↔ m.getLsbD k = true := by
  simp only [zonesIn, List.mem_filter, List.mem_range]
  exact ⟨fun h => h.2, fun h => ⟨BitVec.lt_of_getLsbD h, h⟩⟩

/-- What a notice makes of the zones, after a change that left them alone. -/
theorem State.noticed_availabilityNotice {s u : State} (h : u.zones = s.zones) (m : ZoneSet) :
    s.Noticed (u.availabilityNotice m) m := by
  refine ⟨(State.ZonesStay.of_eq h).trans (.forEach (fun n s => s.judgeStatus_stay n) _ _), fun k => ?_⟩
  rw [State.airStatusOf_congr (u.availabilityNotice_keeps m .fans (by decide)), State.availabilityNotice,
    State.forEach_judgeStatus_get, h]
  simp only [mem_zonesIn]

/-! ### The fan groups' notices -/

theorem State.changeFan_zones (s : State) (group : Nat) (f : Fan → Fan) : (s.changeFan group f).zones = s.zones := rfl

/-- R80: a group that enters FAULT announces it to the zones it serves. -/
theorem State.enterFault_noticed (s : State) {group : Nat} {g : Fan} (h : Table.get s.fans group = some g)
    (c : FaultCause) : s.Noticed (s.enterFault group c) g.served := by
  unfold State.enterFault
  rw [h]
  exact State.noticed_availabilityNotice (by rfl) _

/-- R78: whether the drives, judged, put a group in FAULT. -/
def State.faults (s : State) (g : Fan) : Bool :=
  !g.drives.all (fun d => !s.driveFailed d) && g.drives.all s.driveFailed && g.state.available

/-- R78: whether they leave it DEGRADED. -/
def State.degrades (s : State) (g : Fan) : Bool :=
  !g.drives.all (fun d => !s.driveFailed d) && !g.drives.all s.driveFailed

/-- R78, R80: what judging a group's drives comes to. -/
theorem State.judgeDrives_eq {s : State} {group : Nat} {g : Fan} (h : Table.get s.fans group = some g) :
    s.judgeDrives group =
      if s.faults g then (s.changeFan group (fun g => { g with degraded := false })).enterFault group .allDrives
      else if s.degrades g && !g.degraded then
        (s.changeFan group (fun g => { g with degraded := s.degrades g })).raise .fan group .degraded
      else s.changeFan group (fun g => { g with degraded := s.degrades g }) := by
  unfold State.judgeDrives State.faults State.changeFan Table.modify
  rw [h]
  dsimp only [State.degrades]
  by_cases h1 : g.drives.all (fun d => !s.driveFailed d) = true
  · simp [h1]
  · by_cases h2 : g.drives.all s.driveFailed = true
    · by_cases h3 : g.state.available = true <;> simp [h1, h2, h3]
    · by_cases h3 : g.degraded = true <;> simp [h1, h2, h3]

theorem State.changeFan_read (s : State) (group : Nat) (f : Fan → Fan) (n : Nat) :
    Table.get (s.changeFan group f).fans n = (Table.get s.fans n).map (fun g => if n = group then f g else g) := by
  by_cases hn : n = group
  · subst hn; simp [State.changeFan]
  · simp [State.changeFan, Table.get_modify_ne _ _ hn, hn]

/-- R80: the zones of a group whose drives, judged, put it in FAULT. -/
def State.faultZones (s : State) (group : Nat) : ZoneSet :=
  match Table.get s.fans group with
  | none => 0
  | some g => if s.faults g then g.served else 0

theorem State.judgeDrives_noticed (s : State) (group : Nat) :
    s.Noticed (s.judgeDrives group) (s.faultZones group) := by
  unfold State.faultZones
  cases h : Table.get s.fans group with
  | none => exact .of_eq (by simp [State.judgeDrives, h])
  | some g =>
    rw [State.judgeDrives_eq h]
    dsimp only
    split
    · have hg : Table.get (s.changeFan group (fun g => { g with degraded := false })).fans group =
        some { g with degraded := false } := by rw [State.changeFan_read, h]; simp
      obtain ⟨hs, hr⟩ := State.enterFault_noticed _ hg .allDrives
      exact ⟨hs, hr⟩
    · split <;> exact .of_eq (by rfl)

/-- A notice after a change that announced some zones itself. -/
theorem State.Noticed.notice {s u : State} {m : ZoneSet} (h : s.Noticed u m) (m' : ZoneSet) :
    s.Noticed (u.availabilityNotice m') (m ||| m') := by
  have h' := State.noticed_availabilityNotice (s := u) rfl m'
  have hf : (u.availabilityNotice m').fans = u.fans := u.availabilityNotice_keeps m' .fans (by decide)
  refine ⟨h.stay.trans h'.stay, fun k => ?_⟩
  rw [h'.read, h.read, Option.map_map, State.airStatusOf_congr hf]
  congr 1
  funext z
  by_cases h1 : m.getLsbD k = true <;> by_cases h2 : m'.getLsbD k = true <;> simp [h1, h2]

/-- A change that left the zones alone before it. -/
theorem State.Noticed.after {s u t : State} {m : ZoneSet} (h : u.Noticed t m) (hz : u.zones = s.zones) :
    s.Noticed t m :=
  ⟨(State.ZonesStay.of_eq hz).trans h.stay, fun k => by rw [h.read, hz]⟩

theorem State.isolate_noticed (s : State) (group : Nat) (g : Fan) :
    s.Noticed (s.isolate group g) (if g.state.available then g.served else 0) := by
  unfold State.isolate
  dsimp only
  split
  · exact State.noticed_availabilityNotice (by rfl) _
  · exact .of_eq (by rfl)

theorem State.placeFire_zones (s : State) (group : Nat) : (s.placeFire group).zones = s.zones :=
  s.placeFire_keeps group .zones (by decide)

/-! ### Every move -/

/-- A zone's record before and after a change that leaves its fume state and keeps its causes as they are due. -/
structure Zone.Calm (z z' : Zone) : Prop where
  fume : z'.air.fume = z.air.fume
  causes : ∀ fire, z.causesSound fire → z'.causesSound fire

theorem Zone.Calm.refl (z : Zone) : z.Calm z := ⟨rfl, fun _ h => h⟩

theorem Zone.withStatus_calm (st : AirStatus) (z : Zone) : z.Calm (z.withStatus st) := by
  refine ⟨?_, fun fire ⟨h1, h2, h3⟩ => ?_⟩
  · unfold Zone.withStatus; split <;> rfl
  · unfold Zone.withStatus
    split
    · exact ⟨h1, h2, h3⟩
    · exact ⟨h1, h2, rfl⟩

/-- From sound tables, causes and a fume set in agreement, a change leads to causes and a fume set in agreement. -/
def State.CausesKept (s t : State) : Prop :=
  s.tablesSound → t.tablesSound → s.causesSound ∧ s.fumeSetSound → t.causesSound ∧ t.fumeSetSound

/-- A change that leaves fire mode and the fume set alone, and every zone calm. -/
theorem State.CausesKept.of_moves {s t : State} (h : Table.Moves (fun _ => Zone.Calm) s.zones t.zones)
    (hfire : t.fire = s.fire) (hfume : t.fumeSet = s.fumeSet) : s.CausesKept t := by
  rintro _ _ ⟨hc, hf⟩
  refine ⟨?_, fun k => ?_⟩
  · simp only [State.causesSound, hfire] at hc ⊢
    exact h.keeps (P := fun _ z => z.causesSound s.fire.taken) (Q := fun _ z => z.causesSound s.fire.taken)
      (fun _ _ _ hz => hz.causes _) hc
  · have := h.read (f := fun z => z.air.fume) (fun _ _ _ hz => hz.fume) k
    rw [hfume, hf k]
    cases hs : Table.get s.zones k <;> cases ht : Table.get t.zones k <;> simp_all

theorem State.causesSound_of_get {s : State} (hs : s.tablesSound)
    (h : ∀ k z, Table.get s.zones k = some z → z.causesSound s.fire.taken) : s.causesSound :=
  fun e he => h e.1 e.2 (Table.get_of_mem hs.zones.1 he)

/-- R70, R71: a notice keeps the AIR causes as they are due. -/
theorem State.Noticed.causesKept {s t : State} {m : ZoneSet} (h : s.Noticed t m)
    (hfire : t.fire = s.fire) (hfume : t.fumeSet = s.fumeSet) : s.CausesKept t := by
  have calm : ∀ (k : Nat) (z : Zone), z.Calm (if m.getLsbD k then z.withStatus (t.airStatusOf k) else z) := fun k z => by
    split
    · exact z.withStatus_calm _
    · exact .refl z
  rintro hs ht ⟨hc, hf⟩
  refine ⟨State.causesSound_of_get ht fun k z' hz' => ?_, fun k => ?_⟩
  · rw [h.read, Option.map_eq_some_iff] at hz'
    obtain ⟨z, hz, rfl⟩ := hz'
    rw [hfire]
    exact (calm k z).causes _ (hc _ (Table.mem_of_get hz))
  · rw [hfume, hf k, h.read]
    cases Table.get s.zones k with
    | none => rfl
    | some z => simp [(calm k z).fume]

theorem Zone.Recounted.calm {z z' : Zone} (h : z.Recounted z') : z.Calm z' := by
  rw [h]; exact ⟨rfl, fun _ hz => hz⟩

/-- R42: the record with new settings keeps its fume state and its causes. -/
theorem Zone.withSettings_calm (level : Nat) (st : ZoneSettings) (z : Zone) : z.Calm (z.withSettings level st) := by
  unfold Zone.withSettings
  dsimp only
  split <;> exact ⟨rfl, fun _ hz => hz⟩

theorem State.setZone_moves {s : State} {zone : Nat} {z : Zone} (h : Table.get s.zones zone = some z) {z' : Zone}
    {R : Nat → Zone → Zone → Prop} (hR : ∀ k z, R k z z) (hr : R zone z z') :
    Table.Moves R s.zones (s.setZone zone z z').zones := by
  have : (s.setZone zone z z').zones = Table.set s.zones zone z' := by unfold State.setZone; split <;> rfl
  rw [this]
  exact .set hR h hr

theorem State.addCredit_moves {s : State} {R : Nat → Zone → Zone → Prop} (hR : ∀ k z, R k z z) (zone : Nat)
    (arrival : Bool) (hr : ∀ (z : Zone) (c : Nat), R zone z { z with air := { z.air with credit := min 100 c } }) :
    Table.Moves R s.zones (s.addCredit zone arrival).zones := by
  unfold State.addCredit
  split
  · exact .refl hR _
  · next z hz => exact .set hR hz (hr z _)

/-! #### Fan groups -/

theorem State.returnToService_noticed (s : State) (group : Nat) (g : Fan) :
    ∃ m, s.Noticed (s.returnToService group g) m := by
  unfold State.returnToService
  dsimp only
  split
  · exact ⟨_, ((State.judgeDrives_noticed _ _).after (by rfl)).notice _⟩
  · exact ⟨_, (State.judgeDrives_noticed _ _).after (by rfl)⟩

theorem State.installFan_noticed (s : State) (group : Nat) (g : Fan) (noticed : ZoneSet) :
    ∃ m, s.Noticed (s.installFan group g noticed) (m ||| noticed) := by
  unfold State.installFan
  dsimp only
  refine ⟨_, ((State.judgeDrives_noticed _ _).after ?_).notice _⟩
  rw [State.retarget, State.changeFan_zones]
  split
  · exact State.placeFire_zones _ _
  · rfl

theorem State.changeFanWhole_noticed (s : State) (group : Nat) (g : Fan) (zones : ZoneSet) (drives : List Nat)
    (st : FanSettings) : ∃ m, s.Noticed (s.changeFanWhole group g zones drives st)
      (m ||| if zones = g.served then 0 else g.served ||| zones) := by
  unfold State.changeFanWhole
  dsimp only
  generalize hu : (if zones = g.served then s.withFans (Table.set s.fans group (g.changed zones drives st))
    else (s.withFans (Table.set s.fans group (g.changed zones drives st))).retarget group) = u
  have hz : u.zones = s.zones := by rw [← hu]; split <;> rfl
  have h : ∃ m, s.Noticed (if drives = g.drives.map (fun d => d.node) then u else u.judgeDrives group) m := by
    split
    · exact ⟨0, .of_eq hz⟩
    · exact ⟨_, (u.judgeDrives_noticed group).after hz⟩
  obtain ⟨m, hm⟩ := h
  refine ⟨m, ?_⟩
  by_cases hzones : zones = g.served
  · simpa [hzones] using hm
  · simp only [hzones, if_false]
    exact hm.notice _

/-! #### The evaluation of a zone -/

/-- R67, R71: what a change of the fume state makes of a zone's closure causes. -/
def Zone.withFume (old new : Fume) (z : Zone) : Zone :=
  if old = new then z
  else Zone.airJudged { z with causes := { z.causes with
    fume := if new = .fume then true else if old = .fume then false else z.causes.fume } }

theorem State.retargetServing_zones (s : State) (zone : Nat) : (s.retargetServing zone).zones = s.zones := rfl
theorem State.fumeReported_zones (s : State) (zone : Nat) : (s.fumeReported zone).zones = s.zones := rfl
theorem State.fumeEnded_zones (s : State) (zone : Nat) : (s.fumeEnded zone).zones = s.zones := rfl

theorem State.fumeEffects_get (s : State) (zone : Nat) (old new : Fume) (k : Nat) :
    Table.get (s.fumeEffects zone old new).zones k =
      (Table.get s.zones k).map (fun z => if k = zone then z.withFume old new else z) := by
  unfold State.fumeEffects Zone.withFume
  by_cases hon : old = new
  · simp [hon]
  · simp only [if_neg hon, State.judgeAirCause_get]
    have causes : ∀ f : Causes → Causes, Table.get (s.changeCauses zone f).zones k =
        (Table.get s.zones k).map (fun z => if k = zone then { z with causes := f z.causes } else z) :=
      fun f => s.changeCauses_get zone f k
    have key : Table.get (if new = .fume then (((s.changeCauses zone (fun c => { c with fume := true })).raise .air zone
        .fumeEntered).fumeReported zone).retargetServing zone
        else if old = .fume then (((s.changeCauses zone (fun c => { c with fume := false })).raise .air zone
        .fumeLeft).fumeEnded zone).retargetServing zone else s).zones k =
        (Table.get s.zones k).map (fun z => if k = zone then { z with causes := { z.causes with
          fume := if new = .fume then true else if old = .fume then false else z.causes.fume } } else z) := by
      by_cases hn : new = .fume
      · simp only [if_pos hn, State.retargetServing_zones, State.fumeReported_zones, State.raise_zones, causes]
      · by_cases ho : old = .fume
        · simp only [if_neg hn, if_pos ho, State.retargetServing_zones, State.fumeEnded_zones, State.raise_zones, causes]
        · simp only [if_neg hn, if_neg ho]; simp
    rw [key, Option.map_map]
    congr 1
    funext z
    by_cases hk : k = zone <;> simp [hk]

theorem State.fumeEffects_fumeSet (s : State) (zone : Nat) (old new : Fume) :
    (s.fumeEffects zone old new).fumeSet =
      if old = new then s.fumeSet
      else if new = .fume then s.fumeSet ||| zoneSingle zone
      else if old = .fume then s.fumeSet &&& ~~~(zoneSingle zone) else s.fumeSet := by
  have judge : ∀ t : State, (t.judgeAirCause zone).fumeSet = t.fumeSet := fun t =>
    t.judgeAirCause_keeps zone .fumeSet (by decide)
  have cause : ∀ f, (s.changeCauses zone f).fumeSet = s.fumeSet := fun f => s.changeCauses_keeps zone f .fumeSet (by decide)
  unfold State.fumeEffects
  split
  · rfl
  · rw [judge]
    split
    · exact congrArg (· ||| zoneSingle zone) (cause _)
    · split
      · exact congrArg (· &&& ~~~(zoneSingle zone)) (cause _)
      · rfl

/-- R53: what the evaluation makes of a zone's air state, from its heads' peaks. -/
def State.airStep (s : State) (zone : Nat) (z : Zone) : AirStep :=
  let heads := (s.nodes.filter (fun e => e.2.isHeadOf zone)).map (fun e => e.2.head)
  evaluateAir z.settings (!heads.isEmpty) (sampleOf (heads.map (fun h => h.coPeak)))
    (sampleOf (heads.map (fun h => h.no2Peak))) z.air

/-- The first six stages of an evaluation: the air state in place, and the BLIND item. -/
def State.evaluated (s : State) (zone : Nat) (z : Zone) : State :=
  let s1 := (s.clearPeaks zone).withZones (Table.set s.zones zone { z with air := (s.airStep zone z).air })
  if (s.airStep zone z).toBlind then s1.raise .air zone .blind else s1

theorem State.evaluateZone_eq {s : State} {zone : Nat} {z : Zone} (h : Table.get s.zones zone = some z) :
    s.evaluateZone zone =
      (s.evaluated zone z).fumeEffects zone z.air.fume (s.airStep zone z).air.fume := by
  unfold State.evaluateZone
  rw [h]
  rfl

theorem State.evaluateZone_undefined {s : State} {zone : Nat} (h : Table.get s.zones zone = none) :
    s.evaluateZone zone = s := by
  unfold State.evaluateZone
  rw [h]

theorem State.evaluated_zones (s : State) (zone : Nat) (z : Zone) :
    (s.evaluated zone z).zones = Table.set s.zones zone { z with air := (s.airStep zone z).air } := by
  unfold State.evaluated
  dsimp only
  split <;> rfl

theorem State.evaluated_fumeSet (s : State) (zone : Nat) (z : Zone) : (s.evaluated zone z).fumeSet = s.fumeSet := by
  unfold State.evaluated
  dsimp only
  split <;> rfl

theorem State.airStep_status (s : State) (zone : Nat) (z : Zone) : (s.airStep zone z).air.status = z.air.status := rfl

/-- R53: what an evaluation makes of its zone. -/
def State.airZone (s : State) (zone : Nat) (z : Zone) : Zone :=
  Zone.withFume z.air.fume (s.airStep zone z).air.fume { z with air := (s.airStep zone z).air }

theorem State.evaluateZone_get {s : State} {zone : Nat} {z : Zone} (h : Table.get s.zones zone = some z) (k : Nat) :
    Table.get (s.evaluateZone zone).zones k = if k = zone then some (s.airZone zone z) else Table.get s.zones k := by
  rw [State.evaluateZone_eq h, State.fumeEffects_get, State.evaluated_zones]
  by_cases hk : k = zone
  · subst hk; simp [State.airZone]
  · simp [hk, Table.get_set_ne]

theorem State.airZone_air (s : State) (zone : Nat) (z : Zone) : (s.airZone zone z).air = (s.airStep zone z).air := by
  unfold State.airZone Zone.withFume
  split <;> rfl

/-- R67, R71: an evaluation leaves the causes as they are due. -/
theorem State.airZone_causesSound {s : State} {zone : Nat} {z : Zone} {fire : Bool} (h : z.causesSound fire) :
    (s.airZone zone z).causesSound fire := by
  obtain ⟨h1, h2, h3⟩ := h
  unfold State.airZone Zone.withFume
  split
  · next hf => exact ⟨h1, hf ▸ h2, hf ▸ h3⟩
  · next hf =>
    refine ⟨h1, ?_, rfl⟩
    simp only [Zone.airJudged]
    cases hn : (s.airStep zone z).air.fume <;> cases ho : z.air.fume <;> simp_all

theorem zoneSingle_getLsbD {zone : Nat} (h : zone < 32) (k : Nat) : (zoneSingle zone).getLsbD k = decide (k = zone) := by
  simp only [zoneSingle, BitVec.getLsbD_shiftLeft]
  by_cases hk : k = zone
  · simp [hk, h]
  · by_cases hlt : k < zone
    · simp [hk, hlt]
    · have : ¬k - zone = 0 := by omega
      simp [hk, this]

/-- A zone number that joins a set, and one that leaves it. -/
theorem getLsbD_or_zoneSingle (m : ZoneSet) {zone : Nat} (h : zone < 32) (k : Nat) :
    (m ||| zoneSingle zone).getLsbD k = (m.getLsbD k || decide (k = zone)) := by
  rw [BitVec.getLsbD_or, zoneSingle_getLsbD h]

theorem getLsbD_and_not_zoneSingle (m : ZoneSet) (zone k : Nat) :
    (m &&& ~~~zoneSingle zone).getLsbD k = (m.getLsbD k && !decide (k = zone)) := by
  by_cases hk : k < 32
  · rw [BitVec.getLsbD_and, BitVec.getLsbD_not]
    by_cases hz : zone < 32
    · rw [zoneSingle_getLsbD hz]; simp [hk]
    · have : k ≠ zone := by omega
      simp [zoneSingle, this, hk, show k < zone by omega]
  · simp [BitVec.getLsbD_of_ge _ k (show 32 ≤ k by omega)]

theorem State.evaluateZone_causesKept (s : State) (zone : Nat) : s.CausesKept (s.evaluateZone zone) := by
  rintro hs ht ⟨hc, hf⟩
  cases h : Table.get s.zones zone with
  | none => rw [State.evaluateZone_undefined h]; exact ⟨hc, hf⟩
  | some z =>
    have hread := State.evaluateZone_get h
    have hfire : (s.evaluateZone zone).fire = s.fire := s.evaluateZone_keeps zone .fire (by decide)
    have hset := State.fumeEffects_fumeSet (s.evaluated zone z) zone z.air.fume (s.airStep zone z).air.fume
    rw [State.evaluated_fumeSet, ← State.evaluateZone_eq h] at hset
    refine ⟨State.causesSound_of_get ht fun k z' hz' => ?_, fun k => ?_⟩
    · rw [hfire]
      rw [hread] at hz'
      split at hz'
      · cases hz'
        exact State.airZone_causesSound (hc _ (Table.mem_of_get h))
      · exact hc _ (Table.mem_of_get hz')
    · have hlt : zone < 32 := hs.zones.lt h
      have hk := hf k
      rw [hread, hset]
      by_cases hkz : k = zone
      · subst hkz
        rw [h, Option.any_some] at hk
        rw [if_pos rfl, Option.any_some, State.airZone_air]
        cases hn : (s.airStep k z).air.fume <;> cases ho : z.air.fume <;>
          simp only [ho, reduceCtorEq, if_true, if_false, getLsbD_or_zoneSingle _ hlt,
            getLsbD_and_not_zoneSingle, hk] <;> decide
      · rw [if_neg hkz, ← hk]
        split
        · rfl
        · split
          · simp [getLsbD_or_zoneSingle _ hlt, hkz]
          · split
            · simp only [getLsbD_and_not_zoneSingle, hkz]; simp
            · rfl

/-! #### Fire mode and RESTART -/

theorem State.fireCause_get (s : State) (present : Bool) (k : Nat) :
    Table.get (s.fireCause present).zones k =
      (Table.get s.zones k).map (fun z => { z with causes := { z.causes with fire := present } }) := by
  have key : ∀ (ns : List Nat) (s : State), Table.get (State.forEach (fun z s => s.changeCauses z (fun c =>
      { c with fire := present })) ns s).zones k = (Table.get s.zones k).map (fun z =>
        if k ∈ ns then { z with causes := { z.causes with fire := present } } else z) := by
    intro ns
    induction ns with
    | nil => intro s; simp [State.forEach]
    | cons n ns ih =>
      intro s
      rw [State.forEach, ih, State.changeCauses_get, Option.map_map]
      congr 1
      funext z
      by_cases hk : k = n
      · subst hk; by_cases hmem : k ∈ ns <;> simp [hmem]
      · simp [hk]
  rw [State.fireCause, key]
  cases h : Table.get s.zones k with
  | none => rfl
  | some z => simp [Table.mem_keys_of_get h]

/-- R106, R110: entering and leaving fire mode give and take the FIRE cause of every zone. -/
theorem State.causesKept_of_fire {s t : State} {present : Bool} (hfire : t.fire.taken = present)
    (hfume : t.fumeSet = s.fumeSet) (hread : ∀ k, Table.get t.zones k =
      (Table.get s.zones k).map (fun z => { z with causes := { z.causes with fire := present } })) :
    s.CausesKept t := by
  rintro _ ht ⟨hc, hf⟩
  refine ⟨State.causesSound_of_get ht fun k z' hz' => ?_, fun k => ?_⟩
  · rw [hread, Option.map_eq_some_iff] at hz'
    obtain ⟨z, hz, rfl⟩ := hz'
    obtain ⟨-, h2, h3⟩ := hc _ (Table.mem_of_get hz)
    exact ⟨hfire.symm, h2, h3⟩
  · rw [hfume, hf k, hread]
    cases Table.get s.zones k <;> rfl

end Sys2Proof.Machine

/-! ## Proofs: the fire monitor, the closure causes and the lighting flags agree (R38, R67, R71, R103 to R105, R139) -/

namespace Sys2Proof.Machine

/-! ### What fire mode leaves of the rest -/

/-- The parts that entering and leaving fire mode reach once the filter has moved. -/
theorem State.fireEffects_keeps (s : State) (present : Bool) (r : Reason) :
    s.keepsBut (((s.fireCause present).recomputeSigns.setFireFlag present).raise .fire 0 r)
      [.zones, .signs, .lights, .fireFlag, .items .main, .items .panel] :=
  ((((s.fireCause_keeps present).mono (by decide)).trans ((State.recomputeSigns_keeps _).mono (by decide))).trans
    ((State.setFireFlag_keeps _ _).mono (by decide))).trans ((State.raise_keeps _ _ _ _).mono (by decide))

/-- The groups with the filter moved, before the zones, signs and lights follow. -/
def State.placeFires (s : State) : State := State.forEach State.placeFire (Table.keys s.fans) s
def State.removeFires (s : State) : State := State.forEach State.removeFire (Table.keys s.fans) s
def State.relevelFires (s : State) : State := State.forEach State.relevelFire (Table.keys s.fans) s

theorem State.placeFires_keeps (s : State) : s.keepsBut s.placeFires [.fans, .queue, .items .main, .items .panel] :=
  .forEach (fun _ s => s.placeFire_keeps _) _ _

theorem State.removeFires_keeps (s : State) : s.keepsBut s.removeFires [.fans] :=
  .forEach (fun _ s => s.removeFire_keeps _) _ _

theorem State.relevelFires_keeps (s : State) : s.keepsBut s.relevelFires [.fans] :=
  .forEach (fun _ s => s.relevelFire_keeps _) _ _

theorem State.enterFireMode_eq (s : State) : s.enterFireMode =
    ((((s.withFire s.fire.rise).placeFires.fireCause true).recomputeSigns.setFireFlag true).raise .fire 0 .asserted) := rfl

theorem State.leaveFireMode_eq (s : State) : s.leaveFireMode =
    ((((s.withFire s.fire.fall).removeFires.fireCause false).recomputeSigns.setFireFlag false).raise .fire 0 .released) := rfl

theorem State.enterFireMode_fire (s : State) : s.enterFireMode.fire = s.fire.rise :=
  (State.fireEffects_keeps _ true _ .fire (by decide)).trans (State.placeFires_keeps _ .fire (by decide))

theorem State.leaveFireMode_fire (s : State) : s.leaveFireMode.fire = s.fire.fall :=
  (State.fireEffects_keeps _ false _ .fire (by decide)).trans (State.removeFires_keeps _ .fire (by decide))

theorem State.moveFireZone_fire (s : State) (zone : Nat) :
    (s.moveFireZone zone).fire = { s.fire with zone := some zone, pendingZone := none } :=
  (State.raise_keeps _ _ _ _ .fire (by decide)).trans (State.relevelFires_keeps _ .fire (by decide))

theorem State.fireEffects_zones (s : State) (present : Bool) (r : Reason) :
    (((s.fireCause present).recomputeSigns.setFireFlag present).raise .fire 0 r).zones = (s.fireCause present).zones :=
  ((State.raise_keeps _ _ _ _ .zones (by decide)).trans (State.setFireFlag_keeps _ _ .zones (by decide))).trans
    (State.recomputeSigns_keeps _ .zones (by decide))

theorem State.enterFireMode_zones (s : State) (k : Nat) : Table.get s.enterFireMode.zones k =
    (Table.get s.zones k).map (fun z => { z with causes := { z.causes with fire := true } }) := by
  have h : (s.withFire s.fire.rise).placeFires.zones = s.zones := State.placeFires_keeps _ .zones (by decide)
  rw [State.enterFireMode_eq, State.fireEffects_zones, State.fireCause_get, h]

theorem State.leaveFireMode_zones (s : State) (k : Nat) : Table.get s.leaveFireMode.zones k =
    (Table.get s.zones k).map (fun z => { z with causes := { z.causes with fire := false } }) := by
  have h : (s.withFire s.fire.fall).removeFires.zones = s.zones := State.removeFires_keeps _ .zones (by decide)
  rw [State.leaveFireMode_eq, State.fireEffects_zones, State.fireCause_get, h]

theorem State.enterFireMode_flag (s : State) : s.enterFireMode.fireFlag = true := rfl
theorem State.leaveFireMode_flag (s : State) : s.leaveFireMode.fireFlag = false := rfl

theorem State.restartBlocks_flag (s : State) : s.restartBlocks.fireFlag = s.fire.taken := by
  have h : ∀ t : State, t.restartPorts.fireFlag = t.fireFlag := fun t => t.restartPorts_keeps .fireFlag (by decide)
  rw [State.restartBlocks, h]
  rfl

/-! ### The fire monitor (R103 to R105) -/

theorem FireMonitor.edge_filter (f : FireMonitor) (now : Millis) (level : Bool)
    (h : f.change.isSome = decide (f.line ≠ f.taken)) :
    (f.edge now level).change.isSome = decide ((f.edge now level).line ≠ (f.edge now level).taken) := by
  unfold FireMonitor.edge
  split
  · exact h
  · by_cases hl : level = f.taken <;> simp [hl]

theorem FireMonitor.edge_only (f : FireMonitor) (now : Millis) (level : Bool) :
    f.edge now level = { f with line := (f.edge now level).line, change := (f.edge now level).change } := by
  unfold FireMonitor.edge
  split <;> rfl

theorem FireMonitor.codeChange_only (f : FireMonitor) (now : Millis) (value : BitVec 5) :
    f.codeChange now value = { f with
      codes := (f.codeChange now value).codes, pendingZone := (f.codeChange now value).pendingZone } := by
  unfold FireMonitor.codeChange
  split <;> rfl

/-- R105: a zone is pending only in fire mode. -/
theorem FireMonitor.codeChange_pending (f : FireMonitor) (now : Millis) (value : BitVec 5)
    (h : f.pendingZone.isSome = true → f.taken = true) :
    (f.codeChange now value).pendingZone.isSome = true → f.taken = true := by
  unfold FireMonitor.codeChange
  split
  · exact h
  · cases ht : f.taken <;> simp_all

/-- R104, R105, R139: a move keeps the fire zone and the fire flag in agreement with the filter. -/
theorem State.Move.fireSound {s t : State} {l : List Field} (m : State.Move s t l) (h : s.fireSound) : t.fireSound := by
  obtain ⟨hz, hp, hflag⟩ := h
  have frame : Field.fire ∉ l → Field.fireFlag ∉ l → t.fireSound := by
    intro h1 h2
    have e1 : t.fire = s.fire := m.keeps .fire h1
    have e2 : t.fireFlag = s.fireFlag := m.keeps .fireFlag h2
    exact ⟨e1 ▸ hz, e1 ▸ hp, e1 ▸ e2 ▸ hflag⟩
  cases m with
  | watchLine level =>
    simp only [State.fireSound, State.withFire_fire, State.withFire_fireFlag]
    rw [FireMonitor.edge_only]
    exact ⟨hz, hp, hflag⟩
  | watchCodes value =>
    have hpend := s.fire.codeChange_pending s.ms value hp
    simp only [State.fireSound, State.withFire_fire, State.withFire_fireFlag]
    rw [FireMonitor.codeChange_only]
    exact ⟨hz, hpend, hflag⟩
  | enterFire =>
    simp [State.fireSound, State.enterFireMode_fire, State.enterFireMode_flag, FireMonitor.rise]
  | leaveFire =>
    simp [State.fireSound, State.leaveFireMode_fire, State.leaveFireMode_flag, FireMonitor.fall]
  | moveFireZone zone htaken =>
    have e2 : (s.moveFireZone zone).fireFlag = s.fireFlag := s.moveFireZone_keeps zone .fireFlag (by decide)
    simp [State.fireSound, State.moveFireZone_fire, e2, hflag, htaken]
  | restart =>
    have e1 : s.restartBlocks.fire = s.fire := s.restartBlocks_keeps .fire (by decide)
    simp only [State.fireSound, e1, State.restartBlocks_flag]
    exact ⟨hz, hp, trivial⟩
  | reset pins => simp [State.fullReset, State.fresh, State.fireSound, FireMonitor.reset]
  | _ => exact frame (by decide) (by decide)

/-- R103: a move keeps a change pending exactly while the line differs from the taken level. -/
theorem State.Move.filterSound {s t : State} {l : List Field} (m : State.Move s t l) (h : s.filterSound) :
    t.filterSound := by
  have frame : Field.fire ∉ l → t.filterSound := by
    intro h1
    have e1 : t.fire = s.fire := m.keeps .fire h1
    rw [State.filterSound, e1]; exact h
  cases m with
  | watchLine level => exact s.fire.edge_filter s.ms level h
  | watchCodes value =>
    simp only [State.filterSound, State.withFire_fire]
    rw [FireMonitor.codeChange_only]
    exact h
  | enterFire hchange htaken =>
    simp_all [State.filterSound, State.enterFireMode_fire, FireMonitor.rise]
  | leaveFire hchange htaken =>
    simp_all [State.filterSound, State.leaveFireMode_fire, FireMonitor.fall]
  | moveFireZone zone htaken =>
    simp only [State.filterSound, State.moveFireZone_fire]; exact h
  | restart =>
    have e1 : s.restartBlocks.fire = s.fire := s.restartBlocks_keeps .fire (by decide)
    simp only [State.filterSound, e1]; exact h
  | reset pins =>
    cases hl : pins.fireLine <;> simp [State.fullReset, State.fresh, State.filterSound, hl, FireMonitor.reset]
  | _ => exact frame (by decide)

/-! ### The closure causes and the fume set (R38, R67, R71, R139) -/

/-- R46, R73: a zone's record as RESTART leaves it. -/
def State.restartedZone (s : State) (zone : Nat) (z : Zone) : Zone :=
  let z' := z.restarted (Table.countOf s.restartRecords.bays (fun _ b => decide (b.zone = zone))) s.fire.taken
  { z' with air := { z'.air with status := s.restartRecords.restartFans.airStatusOf zone } }

theorem State.restartBlocks_zones (s : State) :
    s.restartBlocks.zones = Table.update (fun k z => { z with air := { z.air with
        status := s.restartRecords.restartFans.airStatusOf k } })
      (Table.update (fun k z => z.restarted (Table.countOf s.restartRecords.bays (fun _ b => decide (b.zone = k)))
        s.fire.taken) s.zones) := by
  have h : ∀ t : State, t.restartPorts.zones = t.zones := fun t => t.restartPorts_keeps .zones (by decide)
  rw [State.restartBlocks, h]
  rfl

theorem State.restartBlocks_zones_get (s : State) (k : Nat) :
    Table.get s.restartBlocks.zones k = (Table.get s.zones k).map (s.restartedZone k) := by
  rw [State.restartBlocks_zones, Table.get_update, Table.get_update, Option.map_map]
  rfl

theorem State.restartBlocks_causesKept (s : State) : s.CausesKept s.restartBlocks := by
  rintro _ ht -
  have e1 : s.restartBlocks.fire = s.fire := s.restartBlocks_keeps .fire (by decide)
  have e2 : s.restartBlocks.fumeSet = 0 := by
    have h : ∀ t : State, t.restartPorts.fumeSet = t.fumeSet := fun t => t.restartPorts_keeps .fumeSet (by decide)
    rw [State.restartBlocks, h]; rfl
  refine ⟨State.causesSound_of_get ht fun k z' hz' => ?_, fun k => ?_⟩
  · rw [State.restartBlocks_zones_get, Option.map_eq_some_iff] at hz'
    obtain ⟨z, -, rfl⟩ := hz'
    rw [e1]
    exact ⟨rfl, rfl, by simp [State.restartedZone, Zone.restarted, Zone.judged, Causes.none, AirState.start]⟩
  · rw [e2, State.restartBlocks_zones_get]
    cases Table.get s.zones k with
    | none => simp
    | some z => simp [State.restartedZone, Zone.restarted, Zone.judged, AirState.start]

theorem State.recountIn_moves (s : State) (bays : Table Bay) (old new : Option Bay) :
    Table.Moves (fun _ => Zone.Recounted) s.zones ((s.withBays bays).recount old new).zones :=
  State.recount_moves (s.withBays bays) old new

/-- R38, R67, R71, R139: a move keeps the closure causes and the fume set in agreement. -/
theorem State.Move.causesKept {s t : State} {l : List Field} (m : State.Move s t l) : s.CausesKept t := by
  have refl : ∀ (k : Nat) (z : Zone), z.Calm z := fun _ => Zone.Calm.refl
  have frame : Field.zones ∉ l → Field.fire ∉ l → Field.fumeSet ∉ l → s.CausesKept t := fun hz hf hs =>
    .of_moves (by rw [show t.zones = s.zones from m.keeps .zones hz]; exact .refl refl _) (m.keeps .fire hf)
      (m.keeps .fumeSet hs)
  have calm : Table.Moves (fun _ => Zone.Calm) s.zones t.zones → Field.fire ∉ l → Field.fumeSet ∉ l → s.CausesKept t :=
    fun hz hf hs => .of_moves hz (m.keeps .fire hf) (m.keeps .fumeSet hs)
  have recounted : Table.Moves (fun _ => Zone.Recounted) s.zones t.zones → Field.fire ∉ l → Field.fumeSet ∉ l →
      s.CausesKept t := fun hz => calm (hz.mono fun _ _ _ => Zone.Recounted.calm)
  have noticed : ∀ {m : ZoneSet}, s.Noticed t m → Field.fire ∉ l → Field.fumeSet ∉ l → s.CausesKept t :=
    fun hn hf hs => hn.causesKept (m.keeps .fire hf) (m.keeps .fumeSet hs)
  cases m with
  | putBay b h _ => exact recounted (s.putBay_moves _ b) (by decide) (by decide)
  | newBay b => exact recounted (s.recountIn_moves _ _ _) (by decide) (by decide)
  | dropBay => exact recounted (s.recountIn_moves _ _ _) (by decide) (by decide)
  | credit zone arrival =>
    exact calm (State.addCredit_moves refl zone arrival fun _ _ => ⟨rfl, fun _ h => h⟩) (by decide) (by decide)
  | operatorCause zone present =>
    refine calm ((s.changeCauses_moves zone _).mono ?_) (by decide) (by decide)
    rintro k z _ (rfl | ⟨-, rfl⟩)
    · exact .refl _
    · exact ⟨rfl, fun _ h => h⟩
  | @setZone zone z level st h _ =>
    exact calm (State.setZone_moves h refl (z.withSettings_calm level st)) (by decide) (by decide)
  | @newZone zone level st h hz _ =>
    rintro _ _ ⟨hc, hf⟩
    refine ⟨Table.forall_set (p := fun z : Zone => z.causesSound s.fire.taken) hc _ ⟨rfl, rfl, rfl⟩, fun k => ?_⟩
    by_cases hk : k = zone
    · rw [hk, State.withZones_fumeSet, hf, h, State.withZones_zones, Table.get_set]; rfl
    · rw [State.withZones_fumeSet, hf, State.withZones_zones, Table.get_set_ne _ _ hk]
  | dropZone zone _ =>
    rintro hs _ ⟨hc, hf⟩
    refine ⟨Table.forall_erase (p := fun z : Zone => z.causesSound s.fire.taken) hc _, fun k => ?_⟩
    rw [State.withFumeSet_fumeSet, getLsbD_and_not_zoneSingle, hf k]
    show _ = (Table.get (Table.erase s.zones zone) k).any _
    by_cases hk : k = zone
    · rw [hk, Table.get_erase_self hs.zones.1]; simp
    · rw [Table.get_erase_ne _ hk]; simp [hk]
  | evaluate zone => exact s.evaluateZone_causesKept zone
  | judgeDrives group => exact noticed (s.judgeDrives_noticed group) (by decide) (by decide)
  | @isolate group g => exact noticed (s.isolate_noticed group g) (by decide) (by decide)
  | @returnToService group g _ _ =>
    obtain ⟨m, hm⟩ := s.returnToService_noticed group g
    exact noticed hm (by decide) (by decide)
  | @installFan group zones drives st =>
    obtain ⟨m, hm⟩ := s.installFan_noticed group (Fan.fresh zones drives st) (s.fanZones group ||| zones)
    exact noticed hm (by decide) (by decide)
  | @setFan group g zones drives st =>
    obtain ⟨m, hm⟩ := s.changeFanWhole_noticed group g zones drives st
    exact noticed hm (by decide) (by decide)
  | @dropFan group g h =>
    exact noticed (State.noticed_availabilityNotice (s := s) (u := s.removeFan group) rfl g.served) (by decide) (by decide)
  | enterFault cause h _ => exact noticed (s.enterFault_noticed h cause) (by decide) (by decide)
  | enterFire =>
    refine State.causesKept_of_fire (by rw [State.enterFireMode_fire]; rfl)
      (s.enterFireMode_keeps .fumeSet (by decide)) s.enterFireMode_zones
  | leaveFire =>
    refine State.causesKept_of_fire (by rw [State.leaveFireMode_fire]; rfl)
      (s.leaveFireMode_keeps .fumeSet (by decide)) s.leaveFireMode_zones
  | moveFireZone zone _ =>
    rintro _ _ ⟨hc, hf⟩
    have e1 : (s.moveFireZone zone).zones = s.zones := s.moveFireZone_keeps zone .zones (by decide)
    have e2 : (s.moveFireZone zone).fumeSet = s.fumeSet := s.moveFireZone_keeps zone .fumeSet (by decide)
    refine ⟨?_, ?_⟩
    · simp only [State.causesSound, e1, State.moveFireZone_fire]; exact hc
    · simp only [State.fumeSetSound, e1, e2]; exact hf
  | watchLine level =>
    rintro _ _ ⟨hc, hf⟩
    refine ⟨?_, hf⟩
    have : (s.fire.edge s.ms level).taken = s.fire.taken := by unfold FireMonitor.edge; split <;> rfl
    simp only [State.causesSound, State.withFire_fire, this]; exact hc
  | watchCodes value =>
    rintro _ _ ⟨hc, hf⟩
    refine ⟨?_, hf⟩
    have : (s.fire.codeChange s.ms value).taken = s.fire.taken := by unfold FireMonitor.codeChange; split <;> rfl
    simp only [State.causesSound, State.withFire_fire, this]; exact hc
  | restart => exact s.restartBlocks_causesKept
  | reset pins => exact fun _ _ _ => ⟨fun _ h => absurd h List.not_mem_nil, fun k => by simp [State.fullReset, State.fresh, Table.get]⟩
  | _ => exact frame (by decide) (by decide) (by decide)

/-- Settles O53: every move keeps the fire monitor (`State.Move.fireSound`, `State.Move.filterSound`) and the causes
(`State.Move.causesKept`). -/
theorem fireAndClosureRecordsAgree : Obligations.FireAndClosureRecordsAgree := by
  refine ⟨fun s t hs hc => step_keeps (P := fun s => s.fireSound ∧ s.filterSound) 
      (fun _ _ _ m h => ⟨m.fireSound h.1, m.filterSound h.2⟩) ⟨hs, hc⟩,
    fun s t hw hc hf hstep => (step_keeps (P := fun s => s.tablesSound ∧ s.causesSound ∧ s.fumeSetSound)
      (fun _ _ _ m h => ?_) ⟨hw, hc, hf⟩ hstep).2⟩
  obtain ⟨hw, hcf⟩ := h
  exact ⟨m.tablesSound hw, m.causesKept hw (m.tablesSound hw) hcf⟩

end Sys2Proof.Machine

/-! ## Proofs: the luminaire groups follow forcing (R136, R139 to R141) -/

namespace Sys2Proof.Machine

/-- R136, R139 to R141: what is asked of one group: FORCED exactly where it is due, and its level by its table. -/
def Light.soundIn (s : State) (l : Light) : Prop := (l.state = .forced ↔ s.dueForForcing l.zone = true) ∧ l.levelSound

def State.lightsSound (s : State) : Prop := ∀ e ∈ s.lights, e.2.soundIn s

/-- A group stands sound where the forcing of its zone is as it was. -/
theorem Light.soundIn.congr {s t : State} {l : Light} (h : l.soundIn s)
    (hd : t.dueForForcing l.zone = s.dueForForcing l.zone) : l.soundIn t := ⟨hd ▸ h.1, h.2⟩

theorem State.dueForForcing_congr {s t : State} (h1 : t.fireFlag = s.fireFlag) (h2 : t.fumeSet = s.fumeSet) (zone : Nat) :
    t.dueForForcing zone = s.dueForForcing zone := by
  unfold State.dueForForcing
  rw [h1, h2]

theorem Light.judgeForcing_zone (due : Bool) (now : Seconds) (l : Light) : (l.judgeForcing due now).zone = l.zone := by
  unfold Light.judgeForcing
  split <;> split <;> rfl

/-- R140, R141: a judged group is FORCED exactly where it is due. -/
theorem Light.judgeForcing_forced (due : Bool) (now : Seconds) (l : Light) :
    (l.judgeForcing due now).state = .forced ↔ due = true := by
  unfold Light.judgeForcing
  cases due
  · simp only [Bool.false_eq_true, if_false, iff_false]
    split
    · simp [Light.enterActive]
    · assumption
  · simp only [if_true, iff_true]
    split
    · assumption
    · simp [Light.enterForced]

theorem Light.judgeForcing_levelSound (due : Bool) (now : Seconds) {l : Light} (h : l.levelSound) :
    (l.judgeForcing due now).levelSound := by
  unfold Light.judgeForcing Light.enterForced Light.enterActive
  split <;> split <;> first | exact h | exact Light.relevel_levelSound _

/-- R139 to R141: once the flags have moved, judging the zones that they moved for leaves every group sound. -/
theorem State.lightsSound.judgeForcing {s t : State} {picks : Nat → Bool} (h : s.lightsSound) (hl : t.lights = s.lights)
    (hd : ∀ zone, picks zone = false → t.dueForForcing zone = s.dueForForcing zone) :
    (t.judgeForcing picks).lightsSound := by
  intro e he
  obtain ⟨a, ha, hea⟩ := Table.mem_update he
  rw [hl] at ha
  obtain ⟨hforced, hlevel⟩ := h _ ha
  have hdue : ∀ zone, (t.judgeForcing picks).dueForForcing zone = t.dueForForcing zone := fun _ => rfl
  rw [hea]
  split
  · refine ⟨?_, Light.judgeForcing_levelSound _ _ hlevel⟩
    rw [hdue, Light.judgeForcing_zone]
    exact Light.judgeForcing_forced _ _ _
  · next hp => exact Light.soundIn.congr ⟨hforced, hlevel⟩ ((hdue _).trans (hd _ (by simpa using hp)))

/-- A change of other parts. -/
theorem State.lightsSound.congr {s t : State} (h : s.lightsSound) (hl : t.lights = s.lights)
    (h1 : t.fireFlag = s.fireFlag) (h2 : t.fumeSet = s.fumeSet) : t.lightsSound := by
  intro e he
  rw [hl] at he
  exact (h e he).congr (State.dueForForcing_congr h1 h2 _)

theorem getLsbD_zoneSingle_ne {zone k : Nat} (h : k ≠ zone) : (zoneSingle zone).getLsbD k = false := by
  by_cases hz : zone < 32
  · simp [zoneSingle_getLsbD hz, h]
  · by_cases hk : k < 32
    · simp [zoneSingle, show k < zone by omega]
    · exact BitVec.getLsbD_of_ge _ _ (by omega)

/-- R67, R139: a zone joins or leaves the fume set. -/
theorem State.lightsSound.fumeReported {s : State} (h : s.lightsSound) (zone : Nat) : (s.fumeReported zone).lightsSound := by
  refine h.judgeForcing rfl fun z hz => ?_
  have hne : z ≠ zone := by simpa using hz
  simp only [State.dueForForcing, State.withFumeSet_fireFlag, State.withFumeSet_fumeSet, BitVec.getLsbD_or,
    getLsbD_zoneSingle_ne hne, Bool.or_false]

theorem State.lightsSound.fumeEnded {s : State} (h : s.lightsSound) (zone : Nat) : (s.fumeEnded zone).lightsSound := by
  refine h.judgeForcing rfl fun z hz => ?_
  have hne : z ≠ zone := by simpa using hz
  simp only [State.dueForForcing, State.withFumeSet_fireFlag, State.withFumeSet_fumeSet, getLsbD_and_not_zoneSingle, hne]
  simp

theorem State.lightsSound.setFireFlag {s : State} (h : s.lightsSound) (b : Bool) : (s.setFireFlag b).lightsSound :=
  h.judgeForcing rfl fun _ hz => by simp at hz

theorem State.lightsSound.frame {s t : State} {l : List Field} (h : s.lightsSound) (hk : s.keepsBut t l)
    (hl : ∀ f ∈ [Field.lights, .fireFlag, .fumeSet], f ∉ l := by simp) : t.lightsSound :=
  h.congr (hk .lights (hl _ (by decide))) (hk .fireFlag (hl _ (by decide))) (hk .fumeSet (hl _ (by decide)))

theorem State.lightsSound.fumeEffects {s : State} (h : s.lightsSound) (zone : Nat) (old new : Fume) :
    (s.fumeEffects zone old new).lightsSound := by
  have reported : ∀ (f : Causes → Causes) (r : Reason), ((s.changeCauses zone f).raise .air zone r).lightsSound :=
    fun f r => (h.frame (s.changeCauses_keeps zone f)).frame (State.raise_keeps _ _ _ _)
  unfold State.fumeEffects
  split
  · exact h
  · refine State.lightsSound.frame ?_ (State.judgeAirCause_keeps _ _)
    split
    · exact ((reported _ _).fumeReported zone).frame (State.retargetServing_keeps _ _)
    · split
      · exact ((reported _ _).fumeEnded zone).frame (State.retargetServing_keeps _ _)
      · exact h

theorem State.lightsSound.evaluateZone {s : State} (h : s.lightsSound) (zone : Nat) : (s.evaluateZone zone).lightsSound := by
  cases hz : Table.get s.zones zone with
  | none => rw [State.evaluateZone_undefined hz]; exact h
  | some z =>
    rw [State.evaluateZone_eq hz]
    refine State.lightsSound.fumeEffects (h.congr ?_ ?_ ?_) _ _ _ <;>
      (unfold State.evaluated; dsimp only; split <;> rfl)

theorem State.lightsSound.fireEffects {s : State} (h : s.lightsSound) (present : Bool) (r : Reason) :
    (((s.fireCause present).recomputeSigns.setFireFlag present).raise .fire 0 r).lightsSound :=
  (((h.frame (s.fireCause_keeps present)).frame (State.recomputeSigns_keeps _)).setFireFlag present).frame
    (State.raise_keeps _ _ _ _)

theorem Light.settled_soundIn (l : Light) {s : State} {due : Bool} (now : Seconds)
    (h : ∀ zone, s.dueForForcing zone = due) : (l.settled due now).soundIn s := by
  obtain ⟨hforced, hlevel, -, -⟩ := l.settled_spec due now
  exact ⟨by rw [hforced, h], hlevel⟩

/-- R153: RESTART settles every group. -/
theorem State.restartOutputs_lightsSound (s : State) : s.restartOutputs.lightsSound := by
  have hdue : ∀ zone, s.restartOutputs.dueForForcing zone = s.fireActive := fun zone => by
    show (s.fireActive || BitVec.getLsbD (0 : ZoneSet) zone) = s.fireActive
    simp
  intro e he
  obtain ⟨a, -, hea⟩ := Table.mem_update he
  rw [hea]
  exact Light.settled_soundIn _ _ hdue

theorem State.restartBlocks_lightsSound (s : State) : s.restartBlocks.lightsSound :=
  (State.restartOutputs_lightsSound _).frame (State.restartPorts_keeps _)

/-- R136, R139 to R141: a move keeps every luminaire group as forcing has it. -/
theorem State.Move.lightsSound {s t : State} {l : List Field} (m : State.Move s t l) (h : s.lightsSound) :
    t.lightsSound := by
  have frame : (∀ f ∈ [Field.lights, .fireFlag, .fumeSet], f ∉ l) → t.lightsSound := fun hl => h.frame m.keeps hl
  cases m with
  | movement zone =>
    refine Table.forall_update (p := fun l => Light.soundIn s l) h fun _ l hl => ?_
    unfold Light.moved
    split
    · split
      · exact hl
      · next hf => exact ⟨by simpa [Light.enterActive, hf] using hl.1, Light.relevel_levelSound _⟩
    · exact hl
  | light l' hget hm =>
    obtain ⟨hforced, hlevel⟩ := h _ (Table.mem_of_get hget)
    exact Table.forall_set (p := fun l => Light.soundIn s l) h _ ⟨hm.forcing hforced, hm.level hlevel⟩
  | newLight l hg hp hf hl => exact Table.forall_set (p := fun l => Light.soundIn s l) h _ ⟨hf, hl⟩
  | dropLight group => exact Table.forall_erase (p := fun l => Light.soundIn s l) h group
  | dropZone zone hfree =>
    intro e he
    have hne : e.2.zone ≠ zone := by
      simp only [State.zoneInUse, Bool.or_eq_false_iff] at hfree
      simpa using Table.exists_eq_false.1 hfree.1.1.2 e he
    refine (h e he).congr ?_
    simp only [State.dueForForcing, State.withFumeSet_fireFlag, State.withFumeSet_fumeSet, getLsbD_and_not_zoneSingle, hne]
    simp
  | evaluate zone => exact h.evaluateZone zone
  | enterFire =>
    exact State.lightsSound.fireEffects ((h.frame (s.withFire_keeps _)).frame (State.placeFires_keeps _)) true _
  | leaveFire =>
    exact State.lightsSound.fireEffects ((h.frame (s.withFire_keeps _)).frame (State.removeFires_keeps _)) false _
  | restart => exact s.restartBlocks_lightsSound
  | reset pins => exact fun _ he => absurd he List.not_mem_nil
  | _ => exact frame (by decide)

/-- Settles O55: every move keeps the groups sound, and in fire mode, the fire flag saying the same, each is FORCED at
100. -/
theorem lightsFollowForcing : Obligations.LightsFollowForcing := by
  intro s t hfire hforcing hlevels hstep
  obtain ⟨⟨-, -, hflag⟩, hl⟩ := step_keeps (P := fun s => s.fireSound ∧ s.lightsSound)
    (fun _ _ _ m h => ⟨m.fireSound h.1, m.lightsSound h.2⟩) ⟨hfire, fun e he => ⟨hforcing e he, hlevels e he⟩⟩ hstep
  refine ⟨fun e he => (hl e he).1, fun e he => (hl e he).2, fun ht e he => ?_⟩
  obtain ⟨hforced, hlevel, -⟩ := hl e he
  exact hlevel (hforced.2 (by simp [State.dueForForcing, hflag, ht]))

end Sys2Proof.Machine

/-! ## Proofs: the signs stay current (R119 to R123) -/

namespace Sys2Proof.Machine

/-! ### One sign -/

/-- What is asked of one sign: every zone of its masks is defined, its content is current, and its dirty flag true. -/
def Sign.okIn (s : State) (g : Sign) : Prop := s.zonesDefined g.config.zones = true ∧ g.soundIn s

def State.signsOk (s : State) : Prop := ∀ e ∈ s.signs, e.2.okIn s

theorem State.zonesDefined_congr {s t : State} {m : ZoneSet}
    (h : ∀ k, m.getLsbD k = true → Table.has t.zones k = Table.has s.zones k) : t.zonesDefined m = s.zonesDefined m := by
  refine Bool.eq_iff_iff.2 (State.zonesDefined_iff.trans (Iff.trans ?_ State.zonesDefined_iff.symm))
  exact forall₂_congr fun k hk => by rw [h k hk]

theorem State.zonesDefined_eq {s t : State} (h : t.zones = s.zones) (m : ZoneSet) :
    t.zonesDefined m = s.zonesDefined m := by
  simp only [State.zonesDefined, h]

theorem Table.has_congr {α β : Type} {t t' : Table α} {f : α → β} {k : Nat}
    (h : (Table.get t' k).map f = (Table.get t k).map f) : Table.has t' k = Table.has t k := by
  simpa [Table.has] using congrArg Option.isSome h

/-- A sign stands in a state that shows it the same. -/
theorem Sign.okIn.congr {s t : State} {g : Sign} (h : g.okIn s) (hfire : t.fire = s.fire)
    (hz : ∀ k, g.config.dependsOn k = true →
      (Table.get t.zones k).map Zone.shown = (Table.get s.zones k).map Zone.shown) : g.okIn t :=
  ⟨(State.zonesDefined_congr fun k hk => Table.has_congr (hz k hk)).trans h.1, h.2.congr hfire hz⟩

theorem State.recomputed_config (s : State) (g : Sign) : (s.recomputed g).config = g.config := by
  rw [State.recomputed_only]

theorem State.recomputed_okIn {s t : State} {g : Sign} (h : g.okIn s)
    (hz : ∀ k, Table.has t.zones k = Table.has s.zones k) : (t.recomputed g).okIn t :=
  ⟨by rw [State.recomputed_config, State.zonesDefined_congr fun k _ => hz k]; exact h.1, State.recomputed_soundIn t h.2⟩

/-! ### The signs after a change of the zones (R39) -/

/-- A change of other parts, and of nothing that a zone shows. -/
theorem State.signsOk.congr {s t : State} (h : s.signsOk) (hsigns : t.signs = s.signs) (hfire : t.fire = s.fire)
    (hz : ∀ k, (Table.get t.zones k).map Zone.shown = (Table.get s.zones k).map Zone.shown) : t.signsOk := by
  intro e he
  rw [hsigns] at he
  exact (h e he).congr hfire fun k _ => hz k

theorem State.signsOk.frame {s t : State} {l : List Field} (h : s.signsOk) (hk : s.keepsBut t l)
    (hl : ∀ f ∈ [Field.signs, .fire, .zones], f ∉ l := by simp) : t.signsOk := by
  have hz : t.zones = s.zones := hk .zones (hl _ (by decide))
  exact h.congr (hk .signs (hl _ (by decide))) (hk .fire (hl _ (by decide))) fun k => by rw [hz]

/-- A change that moves what one zone shows, and marks its signs. -/
theorem State.signsOk.marked {s u : State} {zone : Nat} (h : s.signsOk) (hsigns : u.signs = s.signs)
    (hfire : u.fire = s.fire) (hhas : ∀ k, Table.has u.zones k = Table.has s.zones k)
    (hz : ∀ k, k ≠ zone → (Table.get u.zones k).map Zone.shown = (Table.get s.zones k).map Zone.shown) :
    (u.markSigns zone).signsOk := by
  intro e he
  obtain ⟨g, hg, heg⟩ := Table.mem_update he
  rw [hsigns] at hg
  have hg' : g.okIn s := h (e.1, g) hg
  rw [heg]
  have hzones : (u.markSigns zone).zones = u.zones := u.markSigns_keeps zone .zones (by decide)
  have hself : ∀ {g : Sign}, g.okIn u → g.okIn (u.markSigns zone) := fun h' =>
    h'.congr (u.markSigns_keeps zone .fire (by decide)) fun k _ => by rw [hzones]
  split
  · exact hself (State.recomputed_okIn hg' hhas)
  · next hd =>
    refine hself (hg'.congr hfire fun k hk => hz k fun hkz => hd ?_)
    rwa [← hkz]

/-- The record of one zone written over, its signs marked where what it shows is new. -/
theorem State.signsOk.setZone {s : State} {zone : Nat} {z z' : Zone} (h : s.signsOk)
    (hget : Table.get s.zones zone = some z) :
    ((s.withZones (Table.set s.zones zone z')).markSigns zone).signsOk ∧
      (z'.shown = z.shown → (s.withZones (Table.set s.zones zone z')).signsOk) := by
  refine ⟨h.marked rfl rfl (fun k => ?_) fun k hk => ?_, fun hshown => h.congr rfl rfl fun k => ?_⟩
  · by_cases hk : k = zone
    · subst hk; simp [Table.has, hget]
    · simp [Table.has, Table.get_set_ne _ _ hk]
  · simp [Table.get_set_ne _ _ hk]
  · by_cases hk : k = zone
    · subst hk; simp [hget, hshown]
    · simp [Table.get_set_ne _ _ hk]

theorem State.signsOk.changeCauses {s : State} (h : s.signsOk) (zone : Nat) (f : Causes → Causes) :
    (s.changeCauses zone f).signsOk := by
  unfold State.changeCauses
  split
  · exact h
  · next z hz =>
    split
    · exact h
    · exact (h.setZone hz).1

theorem State.signsOk.judgeAirCause {s : State} (h : s.signsOk) (zone : Nat) : (s.judgeAirCause zone).signsOk := by
  unfold State.judgeAirCause
  split
  · exact h
  · exact h.changeCauses _ _

theorem State.signsOk.judgeStatus {s : State} (h : s.signsOk) (zone : Nat) : (s.judgeStatus zone).signsOk := by
  unfold State.judgeStatus
  split
  · exact h
  · next z hz =>
    dsimp only
    split
    · exact h
    · refine State.signsOk.judgeAirCause (State.signsOk.frame ?_ (State.raise_keeps _ _ _ _)) _
      exact (h.setZone hz).2 rfl

theorem State.signsOk.forEach {f : Nat → State → State} (hf : ∀ n {s : State}, s.signsOk → (f n s).signsOk)
    (ns : List Nat) {s : State} (h : s.signsOk) : (State.forEach f ns s).signsOk := by
  induction ns generalizing s with
  | nil => exact h
  | cons n ns ih => exact ih (hf n h)

theorem State.signsOk.availabilityNotice {s : State} (h : s.signsOk) (m : ZoneSet) : (s.availabilityNotice m).signsOk :=
  State.signsOk.forEach (fun n _ h => h.judgeStatus n) _ h

theorem State.signsOk.adjustZone {s : State} (h : s.signsOk) (zone : Nat) {f : Zone → Zone} (hf : countsOnly f) :
    (s.adjustZone zone f).signsOk := by
  cases hz : Table.get s.zones zone with
  | none => rw [State.adjustZone_undefined hz]; exact h
  | some z =>
    rw [State.adjustZone_defined hz]
    split
    · next hsame => exact (h.setZone hz).2 (by simp [Zone.shown, hsame, Zone.adjusted_causes hf])
    · exact (h.setZone hz).1

theorem State.signsOk.recount {s : State} (h : s.signsOk) (old new : Option Bay) : (s.recount old new).signsOk := by
  unfold State.recount
  split
  · split
    · exact h.adjustZone _ fun _ => rfl
    · exact (h.adjustZone _ fun _ => rfl).adjustZone _ fun _ => rfl
  · exact h.adjustZone _ fun _ => rfl
  · exact h.adjustZone _ fun _ => rfl
  · exact h

theorem State.signsOk.putBay {s : State} (h : s.signsOk) (bay : Nat) (b : Bay) : (s.putBay bay b).signsOk := by
  unfold State.putBay
  split
  · exact h
  · dsimp only
    have hrec : ∀ t old new, ((s.withBays t).recount old new).signsOk := fun t old new =>
      (h.frame (s.withBays_keeps t)).recount old new
    split
    · exact h
    · split
      · exact (hrec _ _ _).frame (State.raise_keeps _ _ _ _)
      · exact hrec _ _ _

/-! ### The signs after a change of the fan groups -/

theorem State.signsOk.enterFault {s : State} (h : s.signsOk) (group : Nat) (c : FaultCause) :
    (s.enterFault group c).signsOk := by
  unfold State.enterFault
  split
  · exact h
  · exact (((h.frame (s.changeFan_keeps _ _)).frame (State.leaveQueue_keeps _ _)).frame
      (State.raise_keeps _ _ _ _)).availabilityNotice _

theorem State.signsOk.judgeDrives {s : State} (h : s.signsOk) (group : Nat) : (s.judgeDrives group).signsOk := by
  cases hg : Table.get s.fans group with
  | none => simpa [State.judgeDrives, hg] using h
  | some g =>
    have h1 := fun f => h.frame (s.changeFan_keeps group f)
    rw [State.judgeDrives_eq hg]
    split
    · exact (h1 _).enterFault _ _
    · split
      · exact (h1 _).frame (State.raise_keeps _ _ _ _)
      · exact h1 _

theorem State.signsOk.placeFire {s : State} (h : s.signsOk) (group : Nat) : (s.placeFire group).signsOk :=
  h.frame (s.placeFire_keeps group)

theorem State.signsOk.installFan {s : State} (h : s.signsOk) (group : Nat) (g : Fan) (m : ZoneSet) :
    (s.installFan group g m).signsOk := by
  unfold State.installFan
  dsimp only
  have h1 := (h.frame (s.removeFan_keeps group)).frame (State.withFans_keeps _ (Table.set s.fans group g))
  refine ((State.signsOk.frame ?_ (State.retarget_keeps _ _)).judgeDrives group).availabilityNotice m
  split
  · exact h1.placeFire group
  · exact h1

theorem State.signsOk.changeFanWhole {s : State} (h : s.signsOk) (group : Nat) (g : Fan) (zones : ZoneSet)
    (drives : List Nat) (st : FanSettings) : (s.changeFanWhole group g zones drives st).signsOk := by
  have h1 := h.frame (s.withFans_keeps (Table.set s.fans group (g.changed zones drives st)))
  unfold State.changeFanWhole
  dsimp only
  generalize hu : (if zones = g.served then s.withFans (Table.set s.fans group (g.changed zones drives st))
    else (s.withFans (Table.set s.fans group (g.changed zones drives st))).retarget group) = u
  have hu : u.signsOk := by
    rw [← hu]
    split
    · exact h1
    · exact h1.frame (State.retarget_keeps _ _)
  have h3 : (if drives = g.drives.map (fun d => d.node) then u else u.judgeDrives group).signsOk := by
    split
    · exact hu
    · exact hu.judgeDrives group
  split
  · exact h3
  · exact h3.availabilityNotice _

theorem State.signsOk.isolate {s : State} (h : s.signsOk) (group : Nat) (g : Fan) : (s.isolate group g).signsOk := by
  have h1 := (h.frame (s.changeFan_keeps group (fun g =>
    { g with state := .isolated, commanded := 0, proof := none, faultCause := none }))).frame (State.leaveQueue_keeps _ group)
  unfold State.isolate
  dsimp only
  split
  · exact h1.availabilityNotice _
  · exact h1

theorem State.signsOk.returnToService {s : State} (h : s.signsOk) (group : Nat) (g : Fan) :
    (s.returnToService group g).signsOk := by
  have h1 := (h.frame (s.changeFan_keeps group (fun g => { g with state := .stopped, faultCause := none }))).judgeDrives group
  unfold State.returnToService
  dsimp only
  split
  · exact h1.availabilityNotice _
  · exact h1

/-! ### The evaluation of a zone, fire mode and RESTART -/

theorem State.signsOk.fumeEffects {s : State} (h : s.signsOk) (zone : Nat) (old new : Fume) :
    (s.fumeEffects zone old new).signsOk := by
  have hr : ∀ (f : Causes → Causes) (r : Reason), ((s.changeCauses zone f).raise .air zone r).signsOk := fun f r =>
    (h.changeCauses zone f).frame (State.raise_keeps _ _ _ _)
  unfold State.fumeEffects
  split
  · exact h
  · refine State.signsOk.judgeAirCause ?_ zone
    split
    · exact ((hr _ _).frame (State.fumeReported_keeps _ _)).frame (State.retargetServing_keeps _ _)
    · split
      · exact ((hr _ _).frame (State.fumeEnded_keeps _ _)).frame (State.retargetServing_keeps _ _)
      · exact h

theorem State.signsOk.evaluateZone {s : State} (h : s.signsOk) (zone : Nat) : (s.evaluateZone zone).signsOk := by
  cases hz : Table.get s.zones zone with
  | none => rw [State.evaluateZone_undefined hz]; exact h
  | some z =>
    rw [State.evaluateZone_eq hz]
    refine State.signsOk.fumeEffects ?_ _ _ _
    have h1 := ((h.frame (s.withNodes_keeps (s.clearPeaks zone).nodes)).setZone (s := s.clearPeaks zone)
      (z' := { z with air := (s.airStep zone z).air }) hz).2 rfl
    unfold State.evaluated
    dsimp only
    split
    · exact h1.frame (State.raise_keeps _ _ _ _)
    · exact h1

/-- R123, of a sign whose content may be out of date: its dirty flag is true all the same. -/
def Sign.dirtyTrue (g : Sign) : Prop := g.dirty = true ↔ g.accepted ≠ some g.content

theorem State.recomputed_dirtyTrue (s : State) {g : Sign} (h : g.dirtyTrue) : (s.recomputed g).dirtyTrue := by
  unfold State.recomputed
  dsimp only
  split
  · exact h
  · simp [Sign.dirtyTrue, Sign.judged]

theorem State.recomputed_content (s : State) (g : Sign) : (s.recomputed g).content = s.contentOf g.config := by
  unfold State.recomputed
  dsimp only
  split
  · next h => exact h.symm
  · rfl

/-- Every zone of a mask is defined, and the dirty flags are true: what stands while the contents are out of date. -/
def State.signsStale (s : State) : Prop := ∀ e ∈ s.signs, s.zonesDefined e.2.config.zones = true ∧ e.2.dirtyTrue

theorem State.signsStale.changeCauses {s : State} (h : s.signsStale) (zone : Nat) (f : Causes → Causes) :
    (s.changeCauses zone f).signsStale := by
  unfold State.changeCauses
  split
  · exact h
  · next z hz =>
    split
    · exact h
    · intro e he
      obtain ⟨g, hg, heg⟩ := Table.mem_update he
      obtain ⟨hdef, hdirty⟩ := h _ hg
      rw [heg]
      have hd : ∀ g : Sign, s.zonesDefined g.config.zones = true →
          ((s.withZones (Table.set s.zones zone { z with causes := f z.causes })).markSigns zone).zonesDefined
            g.config.zones = true := fun g hg => by
        rw [State.zonesDefined_congr fun k _ => ?_]
        · exact hg
        · by_cases hk : k = zone
          · subst hk; simp [State.markSigns, Table.has, hz]
          · simp [State.markSigns, Table.has, Table.get_set_ne _ _ hk]
      split
      · refine ⟨?_, State.recomputed_dirtyTrue _ hdirty⟩
        rw [State.recomputed_config]
        exact hd g hdef
      · exact ⟨hd g hdef, hdirty⟩

theorem State.signsStale.fireCause {s : State} (h : s.signsStale) (present : Bool) : (s.fireCause present).signsStale := by
  have key : ∀ (ns : List Nat) {s : State}, s.signsStale → (State.forEach (fun z s => s.changeCauses z (fun c =>
      { c with fire := present })) ns s).signsStale := by
    intro ns
    induction ns with
    | nil => exact id
    | cons n ns ih => exact fun h => ih (h.changeCauses n _)
  exact key _ h

/-- R106, R110: entering and leaving fire mode recompute every sign. -/
theorem State.signsStale.recomputeSigns {s : State} (h : s.signsStale) : s.recomputeSigns.signsOk := by
  intro e he
  obtain ⟨g, hg, heg⟩ := Table.mem_update he
  obtain ⟨hdef, hdirty⟩ := h _ hg
  rw [heg]
  refine ⟨?_, ?_, State.recomputed_dirtyTrue s hdirty⟩
  · rw [State.recomputed_config]; exact hdef
  · rw [State.recomputed_content, State.recomputed_config]; rfl

theorem State.signsStale.fireEffects {s : State} (h : s.signsStale) (present : Bool) (r : Reason) :
    (((s.fireCause present).recomputeSigns.setFireFlag present).raise .fire 0 r).signsOk :=
  ((h.fireCause present).recomputeSigns.frame (State.setFireFlag_keeps _ _)).frame (State.raise_keeps _ _ _ _)

theorem State.signsOk.stale {s : State} (h : s.signsOk) : s.signsStale := fun e he => ⟨(h e he).1, (h e he).2.2⟩

theorem State.signsStale.congr {s t : State} (h : s.signsStale) (hsigns : t.signs = s.signs) (hzones : t.zones = s.zones) :
    t.signsStale := by
  intro e he
  rw [hsigns] at he
  obtain ⟨hdef, hdirty⟩ := h e he
  exact ⟨(State.zonesDefined_eq hzones _).trans hdef, hdirty⟩

/-- R134: RESTART computes every sign's content, and leaves each dirty. -/
theorem State.restartedSigns_ok {s : State} (h : ∀ e ∈ s.signs, s.zonesDefined e.2.config.zones = true) :
    (s.withSigns (Table.update (fun _ g => s.restartedSign g) s.signs)).signsOk := by
  intro e he
  obtain ⟨g, hg, heg⟩ := Table.mem_update he
  have hg' : s.zonesDefined g.config.zones = true := h (e.1, g) hg
  have hcontent : ∀ (t : Table Sign) (d : SignDef), (s.withSigns t).contentOf d = s.contentOf d := fun _ _ => rfl
  rw [heg]
  exact ⟨(State.zonesDefined_eq (State.withSigns_zones _ _) _).trans hg', (hcontent _ _).symm,
    by simp [State.restartedSign]⟩

theorem State.restartOutputs_eq (s : State) : ∃ u : State, u.signs = s.signs ∧ u.zones = s.zones ∧
    s.restartOutputs = u.withSigns (Table.update (fun _ g => u.restartedSign g) u.signs) := 
  ⟨(s.withFireFlag s.fireActive).withFumeSet 0 |>.withLights (Table.update (fun _ l =>
    ((s.withFireFlag s.fireActive).withFumeSet 0).restartedLight l) s.lights), rfl, rfl, rfl⟩

theorem State.restartOutputs_signsOk {s : State} (h : ∀ e ∈ s.signs, s.zonesDefined e.2.config.zones = true) :
    s.restartOutputs.signsOk := by
  obtain ⟨u, hsigns, hzones, hu⟩ := s.restartOutputs_eq
  rw [hu]
  refine State.restartedSigns_ok fun e he => ?_
  rw [hsigns] at he
  rw [State.zonesDefined_eq hzones]
  exact h e he

theorem State.restartBlocks_has (s : State) (k : Nat) :
    Table.has s.restartRecords.restartFans.restartAir.zones k = Table.has s.zones k := by
  have hz : s.restartBlocks.zones = s.restartRecords.restartFans.restartAir.zones := State.restartPorts_keeps _ .zones (by decide)
  rw [← hz, Table.has, State.restartBlocks_zones_get, Table.has]
  cases Table.get s.zones k <;> rfl

theorem State.restartRecords_signs (s : State) : s.restartRecords.signs = s.signs := rfl
theorem State.restartFans_signs (s : State) : s.restartFans.signs = s.signs := rfl
theorem State.restartAir_signs (s : State) : s.restartAir.signs = s.signs := rfl

theorem State.restartBlocks_signsOk {s : State} (h : s.signsOk) : s.restartBlocks.signsOk := by
  have hsigns : s.restartRecords.restartFans.restartAir.signs = s.signs := by
    rw [State.restartAir_signs, State.restartFans_signs, State.restartRecords_signs]
  have hdef : ∀ e ∈ s.restartRecords.restartFans.restartAir.signs,
      s.restartRecords.restartFans.restartAir.zonesDefined e.2.config.zones = true := fun e he => by
    rw [hsigns] at he
    obtain ⟨hz, -⟩ := h e he
    rw [← hz]
    exact State.zonesDefined_congr fun k _ => s.restartBlocks_has k
  exact (State.restartOutputs_signsOk hdef).frame (State.restartPorts_keeps _)

/-! ### Every move -/

theorem State.signsOk.withFire {s : State} (h : s.signsOk) {f : FireMonitor} (hf : f.taken = s.fire.taken) :
    (s.withFire f).signsOk := by
  intro e he
  obtain ⟨hdef, hcontent, hdirty⟩ := h e he
  refine ⟨(State.zonesDefined_eq (s := s) rfl _).trans hdef, hcontent.trans ?_, hdirty⟩
  simp only [State.contentOf, State.fireActive, State.withFire_fire, hf]
  rfl

/-- R43: a retired zone is none that a sign depends on. -/
theorem State.zoneFree_signs {s : State} {zone : Nat} (h : s.zoneInUse zone = false) :
    ∀ e ∈ s.signs, e.2.config.dependsOn zone = false := by
  simp only [State.zoneInUse, Bool.or_eq_false_iff] at h
  exact fun e he => Table.exists_eq_false.1 h.2 e he

theorem State.Move.signsOk {s t : State} {l : List Field} (m : State.Move s t l) (h : s.signsOk) : t.signsOk := by
  have frame : (∀ f ∈ [Field.signs, .fire, .zones], f ∉ l) → t.signsOk := fun hl => h.frame m.keeps hl
  cases m with
  | putBay b => exact h.putBay _ b
  | newBay b => exact (h.frame (s.withBays_keeps _)).recount _ _
  | dropBay => exact (h.frame (s.withBays_keeps _)).recount _ _
  | credit zone arrival =>
    unfold State.addCredit
    split
    · exact h
    · next z hz => exact (h.setZone hz).2 rfl
  | operatorCause zone present => exact h.changeCauses _ _
  | @newZone zone level st hnone hz hc =>
    intro e he
    refine (h e he).congr rfl fun k hk => ?_
    have hdef := State.zonesDefined_iff.1 (h e he).1 k hk
    have hne : k ≠ zone := fun hkz => by simp [Table.has, hkz, hnone] at hdef
    simp [Table.get_set_ne _ _ hne]
  | @setZone zone z level st hz hc =>
    unfold State.setZone
    split
    · next hfill =>
      refine (h.setZone hz).2 ?_
      simp only [Zone.shown, hfill]
      unfold Zone.withSettings
      dsimp only
      split <;> rfl
    · exact (h.setZone hz).1
  | dropZone zone hfree =>
    intro e he
    refine (h e he).congr rfl fun k hk => ?_
    have hne : k ≠ zone := fun hkz => by
      rw [hkz, State.zoneFree_signs hfree e he] at hk
      exact Bool.false_ne_true hk
    show (Table.get (Table.erase s.zones zone) k).map _ = _
    rw [Table.get_erase_ne _ hne]
  | evaluate zone => exact h.evaluateZone zone
  | @sign sign g g' hget hm =>
    obtain ⟨hdef, hsound⟩ := h _ (Table.mem_of_get hget)
    exact Table.forall_set (p := fun g => Sign.okIn s g) h _ ⟨hm.zones hdef, hm.sound hsound⟩
  | newSign g hg hp hz hs => exact Table.forall_set (p := fun g => Sign.okIn s g) h _ ⟨hz, hs⟩
  | dropSign sign => exact Table.forall_erase (p := fun g => Sign.okIn s g) h sign
  | judgeDrives group => exact h.judgeDrives group
  | isolate => exact h.isolate _ _
  | returnToService => exact h.returnToService _ _
  | installFan => exact h.installFan _ _ _
  | setFan => exact h.changeFanWhole _ _ _ _ _
  | dropFan => exact (h.frame (s.removeFan_keeps _)).availabilityNotice _
  | enterFault => exact h.enterFault _ _
  | watchLine level =>
    exact h.withFire (by rw [FireMonitor.edge_only])
  | watchCodes value =>
    exact h.withFire (by rw [FireMonitor.codeChange_only])
  | enterFire =>
    exact State.signsStale.fireEffects (h.stale.congr (State.placeFires_keeps (s.withFire s.fire.rise) .signs (by decide))
      (State.placeFires_keeps (s.withFire s.fire.rise) .zones (by decide))) true _
  | leaveFire =>
    exact State.signsStale.fireEffects (h.stale.congr (State.removeFires_keeps (s.withFire s.fire.fall) .signs (by decide))
      (State.removeFires_keeps (s.withFire s.fire.fall) .zones (by decide))) false _
  | moveFireZone zone htaken =>
    have h1 : (s.withFire { s.fire with zone := some zone, pendingZone := none }).signsOk := h.withFire rfl
    exact (h1.frame (State.relevelFires_keeps _)).frame (State.raise_keeps _ _ _ _)
  | restart => exact State.restartBlocks_signsOk h
  | reset pins => exact fun _ he => absurd he List.not_mem_nil
  | _ => exact frame (by decide)

/-- Settles O58: every move keeps every sign current. -/
theorem signsStayCurrent : Obligations.SignsStayCurrent := by
  intro s t hplaced hsound hstep
  have h := step_keeps (P := State.signsOk) (fun _ _ _ m => m.signsOk) (fun e he => ⟨hplaced e he, hsound e he⟩) hstep
  exact ⟨fun e he => (h e he).1, fun e he => (h e he).2⟩

end Sys2Proof.Machine

/-! ## Proofs: the counts follow the bays (R14, R28, R29, R43) -/

namespace Sys2Proof.Machine

/-! ### Bay changes -/

/-- R28, R29: each zone's counts are those of its bays after a change of the bays too. -/
def State.countsFollow (s t : State) : Prop :=
  ∀ k z', Table.get t.zones k = some z' →
    ∃ z, Table.get s.zones k = some z ∧ (z.countsSound s.bays k → z'.countsSound t.bays k)

/-- R30: one bay counted out of its zone and into its new one. -/
theorem State.recount_follows {s : State} (hw : (Table.keys s.bays).Pairwise (· < ·)) {bay : Nat} {old b : Bay}
    (h : Table.get s.bays bay = some old) :
    s.countsFollow ((s.withBays (Table.set s.bays bay b)).recount (some old) (some b)) := by
  intro k z' hz'
  have hbays : ((s.withBays (Table.set s.bays bay b)).recount (some old) (some b)).bays = Table.set s.bays bay b :=
    State.recount_keeps _ _ _ .bays (by decide)
  rw [hbays]
  unfold State.recount at hz'
  dsimp only at hz'
  by_cases hzone : old.zone = b.zone
  · rw [if_pos hzone, State.adjustZone_zones] at hz'
    by_cases hk : k = old.zone
    · rw [hk, Table.get_modify, Option.map_eq_some_iff] at hz'
      obtain ⟨z, hz, rfl⟩ := hz'
      exact ⟨z, hk ▸ hz, fun hc => Zone.adjusted_countsSound.2
        (hk ▸ Zone.countsSound_replace hw h hzone.symm (hk ▸ hc))⟩
    · rw [Table.get_modify_ne _ _ hk] at hz'
      exact ⟨z', hz', fun hc => Zone.countsSound_replace_other hw h (Ne.symm hk) (hzone ▸ Ne.symm hk) hc⟩
  · rw [if_neg hzone, State.adjustZone_zones, State.adjustZone_zones] at hz'
    have herase := Table.get_erase_self hw bay
    rw [← Table.set_erase hw h]
    by_cases hk : k = b.zone
    · have hne : b.zone ≠ old.zone := Ne.symm hzone
      rw [hk, Table.get_modify, Table.get_modify_ne _ _ hne, Option.map_eq_some_iff] at hz'
      obtain ⟨z, hz, rfl⟩ := hz'
      exact ⟨z, hk ▸ hz, fun hc => Zone.adjusted_countsSound.2
        (hk ▸ Zone.countIn_sound herase (Zone.countsSound_erase_other h hzone (hk ▸ hc)))⟩
    · rw [Table.get_modify_ne _ _ hk] at hz'
      by_cases hk' : k = old.zone
      · rw [hk', Table.get_modify, Option.map_eq_some_iff] at hz'
        obtain ⟨z, hz, rfl⟩ := hz'
        exact ⟨z, hk' ▸ hz, fun hc => Zone.adjusted_countsSound.2 (hk' ▸ Zone.countsSound_set_other herase
          (Ne.symm hzone) (Zone.countOut_sound h (hk' ▸ hc)))⟩
      · rw [Table.get_modify_ne _ _ hk'] at hz'
        exact ⟨z', hz', fun hc => Zone.countsSound_set_other herase (Ne.symm hk)
          (Zone.countsSound_erase_other h (Ne.symm hk') hc)⟩

theorem State.countIn_follows {s : State} {bay : Nat} {b : Bay} (h : Table.get s.bays bay = none) :
    s.countsFollow ((s.withBays (Table.set s.bays bay b)).recount none (some b)) := by
  intro k z' hz'
  have hbays : ((s.withBays (Table.set s.bays bay b)).recount none (some b)).bays = Table.set s.bays bay b :=
    State.recount_keeps _ _ _ .bays (by decide)
  rw [hbays]
  unfold State.recount at hz'
  dsimp only at hz'
  rw [State.adjustZone_zones] at hz'
  by_cases hk : k = b.zone
  · rw [hk, Table.get_modify, Option.map_eq_some_iff] at hz'
    obtain ⟨z, hz, rfl⟩ := hz'
    exact ⟨z, hk ▸ hz, fun hc => Zone.adjusted_countsSound.2 (hk ▸ Zone.countIn_sound h (hk ▸ hc))⟩
  · rw [Table.get_modify_ne _ _ hk] at hz'
    exact ⟨z', hz', fun hc => Zone.countsSound_set_other h (Ne.symm hk) hc⟩

theorem State.countOut_follows {s : State} {bay : Nat} {b : Bay} (h : Table.get s.bays bay = some b) :
    s.countsFollow ((s.withBays (Table.erase s.bays bay)).recount (some b) none) := by
  intro k z' hz'
  have hbays : ((s.withBays (Table.erase s.bays bay)).recount (some b) none).bays = Table.erase s.bays bay :=
    State.recount_keeps _ _ _ .bays (by decide)
  rw [hbays]
  unfold State.recount at hz'
  dsimp only at hz'
  rw [State.adjustZone_zones] at hz'
  by_cases hk : k = b.zone
  · rw [hk, Table.get_modify, Option.map_eq_some_iff] at hz'
    obtain ⟨z, hz, rfl⟩ := hz'
    exact ⟨z, hk ▸ hz, fun hc => Zone.adjusted_countsSound.2 (hk ▸ Zone.countOut_sound h (hk ▸ hc))⟩
  · rw [Table.get_modify_ne _ _ hk] at hz'
    exact ⟨z', hz', fun hc => Zone.countsSound_erase_other h (Ne.symm hk) hc⟩

/-- R2: a bay change takes the stamped record, and the counts with it. -/
theorem State.putBay_bays {s : State} {bay : Nat} {old : Bay} (h : Table.get s.bays bay = some old) {b : Bay}
    (hb : b ≠ old) : (s.putBay bay b).bays = Table.set s.bays bay (Bay.stamped s.seconds old b) ∧
      (s.putBay bay b).zones = ((s.withBays (Table.set s.bays bay (Bay.stamped s.seconds old b))).recount (some old)
        (some (Bay.stamped s.seconds old b))).zones := by
  have hk := fun old new => State.recount_keeps (s.withBays (Table.set s.bays bay new)) (some old) (some new) .bays (by decide)
  unfold State.putBay
  rw [h]
  dsimp only
  rw [if_neg hb]
  split
  · exact ⟨hk _ _, rfl⟩
  · exact ⟨hk _ _, rfl⟩

theorem State.countsFollow.refl (s : State) : s.countsFollow s := fun _ z h => ⟨z, h, id⟩

theorem State.putBay_follows {s : State} (hw : (Table.keys s.bays).Pairwise (· < ·)) {bay : Nat} {old : Bay}
    (h : Table.get s.bays bay = some old) (b : Bay) : s.countsFollow (s.putBay bay b) := by
  by_cases hb : b = old
  · rw [show s.putBay bay b = s by simp [State.putBay, h, hb]]
    exact .refl s
  · obtain ⟨hbays, hzones⟩ := State.putBay_bays h hb
    intro k z' hz'
    rw [hzones] at hz'
    obtain ⟨z, hz, hc⟩ := State.recount_follows hw h k z' hz'
    refine ⟨z, hz, fun hs => ?_⟩
    rw [hbays]
    have := hc hs
    rwa [State.recount_keeps _ _ _ .bays (by decide)] at this

/-! ### Every move -/

/-- R28, R29: what the counts of a zone's record are. -/
def Zone.counts (z : Zone) : Tallies × Nat × FreeCounts := (z.tallies, z.total, z.free)

theorem Zone.countsSound.congr {z z' : Zone} {bays : Table Bay} {zone : Nat} (h : z.countsSound bays zone)
    (hz : z'.counts = z.counts) : z'.countsSound bays zone := by
  simp only [Zone.counts, Prod.mk.injEq] at hz
  obtain ⟨h1, h2, h3⟩ := hz
  unfold Zone.countsSound
  rw [h1, h2, h3]
  exact h

/-- R14, R28, R29, R43. -/
def State.baysSound (s : State) : Prop := s.baysPlaced ∧ s.countsSound ∧ s.reservationsSound

theorem State.countsSound_of_get {s : State} (hs : s.tablesSound)
    (h : ∀ k z, Table.get s.zones k = some z → z.countsSound s.bays k) : s.countsSound :=
  fun e he => h e.1 e.2 (Table.get_of_mem hs.zones.1 he)

/-- A change of the zones alone that moves no count. -/
theorem State.baysSound.congr {s t : State} (h : s.baysSound) (ht : t.tablesSound) (hb : t.bays = s.bays)
    (hz : ∀ k, (Table.get t.zones k).map Zone.counts = (Table.get s.zones k).map Zone.counts) : t.baysSound := by
  obtain ⟨hplaced, hcounts, hres⟩ := h
  refine ⟨fun e he => ?_, State.countsSound_of_get ht fun k z' hz' => ?_, ?_⟩
  · rw [hb] at he
    rw [Table.has_congr (hz _)]
    exact hplaced e he
  · have hk := hz k
    rw [hz', Option.map_some] at hk
    obtain ⟨z, hzk, hzc⟩ := Option.map_eq_some_iff.1 hk.symm
    rw [hb]
    exact (hcounts (k, z) (Table.mem_of_get hzk)).congr hzc.symm
  · intro e he
    rw [hb] at he
    exact hres e he

/-- A change of the bays that the counts have followed. -/
theorem State.baysSound.follow {s t : State} (h : s.baysSound) (ht : t.tablesSound) (hf : s.countsFollow t)
    (hbays : ∀ e ∈ t.bays, Table.has t.zones e.2.zone = true ∧ e.2.reservationSound) : t.baysSound := by
  obtain ⟨-, hcounts, -⟩ := h
  refine ⟨fun e he => (hbays e he).1, State.countsSound_of_get ht fun k z' hz' => ?_, fun e he => (hbays e he).2⟩
  obtain ⟨z, hz, hc⟩ := hf k z' hz'
  exact hc (hcounts (k, z) (Table.mem_of_get hz))

theorem Zone.withStatus_counts (st : AirStatus) (z : Zone) : (z.withStatus st).counts = z.counts := by
  unfold Zone.withStatus
  split <;> rfl

theorem State.Noticed.counts {s t : State} {m : ZoneSet} (h : s.Noticed t m) (k : Nat) :
    (Table.get t.zones k).map Zone.counts = (Table.get s.zones k).map Zone.counts := by
  rw [h.read, Option.map_map]
  congr 1
  funext z
  simp only [Function.comp_def]
  split
  · exact z.withStatus_counts _
  · rfl

theorem State.restartedZone_counts (s : State) (zone : Nat) (z : Zone) :
    (s.restartedZone zone z).countsSound s.restartRecords.bays zone := by
  have hunknown : ∀ e ∈ s.restartRecords.bays, e.2.state = .unknown := by
    intro e he
    obtain ⟨b, -, hb⟩ := Table.mem_update he
    rw [hb]; rfl
  have count : ∀ p q : Bay → Bool, (∀ b : Bay, b.state = .unknown → p b = q b) →
      Table.countOf s.restartRecords.bays (fun _ b => p b) = Table.countOf s.restartRecords.bays (fun _ b => q b) := by
    intro p q hpq
    refine congrArg List.length (List.filter_congr fun e he => hpq _ (hunknown e he))
  have none : Table.countOf s.restartRecords.bays (fun _ _ => false) = 0 := by
    simp [Table.countOf]
  refine ⟨fun st => ?_, fun k => ?_, rfl, ?_⟩
  · by_cases hst : st = .unknown
    · subst hst
      exact count (fun b => decide (b.zone = zone)) _ fun b hb => by simp [hb]
    · rw [count _ (fun _ => false) fun b hb => by simp [hb, Ne.symm hst], none]
      cases st <;> first | exact absurd rfl hst | rfl
  · rw [count _ (fun _ => false) fun b hb => by simp [Bay.isFree, hb], none]
    cases k <;> rfl
  · simp [State.restartedZone, Zone.restarted, Zone.judged, Tallies.none, Tallies.sum]

theorem Zone.withFume_counts (old new : Fume) (z : Zone) : (z.withFume old new).counts = z.counts := by
  unfold Zone.withFume
  split <;> rfl

theorem State.evaluateZone_counts (s : State) (zone k : Nat) :
    (Table.get (s.evaluateZone zone).zones k).map Zone.counts = (Table.get s.zones k).map Zone.counts := by
  cases hz : Table.get s.zones zone with
  | none => rw [State.evaluateZone_undefined hz]
  | some z =>
    rw [State.evaluateZone_get hz]
    split
    · next hk => rw [hk, hz]; simp [State.airZone, Zone.withFume_counts]; rfl
    · rfl

theorem State.baysSound.restart {s : State} (h : s.baysSound) (ht : s.restartBlocks.tablesSound) :
    s.restartBlocks.baysSound := by
  have hbays : s.restartBlocks.bays = s.restartRecords.bays := by
    have h1 : ∀ u : State, u.restartPorts.bays = u.bays := fun u => u.restartPorts_keeps .bays (by decide)
    have h2 : ∀ u : State, u.restartOutputs.bays = u.bays := fun _ => rfl
    have h3 : ∀ u : State, u.restartAir.bays = u.bays := fun _ => rfl
    have h4 : ∀ u : State, u.restartFans.bays = u.bays := fun _ => rfl
    rw [State.restartBlocks, h1, h2, h3, h4]
  obtain ⟨hplaced, -, -⟩ := h
  refine ⟨fun e he => ?_, State.countsSound_of_get ht fun k z' hz' => ?_, fun e he => ?_⟩
  · rw [hbays] at he
    obtain ⟨b, hb, heb⟩ := Table.mem_update he
    have hz : e.2.zone = b.zone := by rw [heb]; rfl
    have := hplaced _ hb
    rw [hz, Table.has, State.restartBlocks_zones_get]
    simpa [Table.has] using this
  · rw [State.restartBlocks_zones_get, Option.map_eq_some_iff] at hz'
    obtain ⟨z, -, rfl⟩ := hz'
    rw [hbays]
    exact s.restartedZone_counts k z
  · rw [hbays] at he
    obtain ⟨b, hb, heb⟩ := Table.mem_update he
    rw [heb]
    simp [Bay.restarted]

theorem Bay.stamped_reservationSound {now : Seconds} {old b : Bay} (h : b.reservationSound) :
    (Bay.stamped now old b).reservationSound := by
  unfold Bay.stamped
  split <;> exact h

theorem Bay.stamped_zone (now : Seconds) (old b : Bay) : (Bay.stamped now old b).zone = b.zone := by
  unfold Bay.stamped
  split <;> rfl

theorem State.Move.baysSound {s t : State} {l : List Field} (m : State.Move s t l) (hs : s.tablesSound)
    (h : s.baysSound) : t.baysSound := by
  have ht := m.tablesSound hs
  have congr : Field.bays ∉ l → (∀ k, (Table.get t.zones k).map Zone.counts = (Table.get s.zones k).map Zone.counts) →
      t.baysSound := fun hb hz => h.congr ht (m.keeps .bays hb) hz
  have frame : Field.bays ∉ l → Field.zones ∉ l → t.baysSound := fun hb hz =>
    congr hb fun k => by rw [show t.zones = s.zones from m.keeps .zones hz]
  have moved : ∀ {R : Nat → Zone → Zone → Prop}, Table.Moves R s.zones t.zones → Field.bays ∉ l →
      (∀ k z z', R k z z' → z'.counts = z.counts) → t.baysSound := fun hm hb hR => congr hb (hm.read hR)
  have noticed : ∀ {m : ZoneSet}, s.Noticed t m → Field.bays ∉ l → t.baysSound := fun hn hb => congr hb hn.counts
  obtain ⟨hplaced, hcounts, hres⟩ := id h
  have refl : ∀ (k : Nat) (z : Zone), z.counts = z.counts := fun _ _ => rfl
  cases m with
  | @putBay bay old b hget hm =>
    have hhas := fun k => (s.putBay_moves bay b).has k
    refine h.follow ht (State.putBay_follows hs.bays.1 hget b) fun e he => ?_
    rw [hhas]
    by_cases hb : b = old
    · rw [show s.putBay bay b = s by simp [State.putBay, hget, hb]] at he
      exact ⟨hplaced e he, hres e he⟩
    · rw [(State.putBay_bays hget hb).1] at he
      rcases Table.mem_set he with rfl | he
      · refine ⟨?_, Bay.stamped_reservationSound (hm.reservation (hres _ (Table.mem_of_get hget)))⟩
        rw [Bay.stamped_zone]
        rcases hm.zone with hz | hz
        · rw [hz]; exact hplaced _ (Table.mem_of_get hget)
        · exact hz
      · exact ⟨hplaced e he, hres e he⟩
  | @newBay bay b hget hlt hz hc hp hr =>
    have hhas := fun k => (s.recountIn_moves (Table.set s.bays bay b) none (some b)).has k
    refine h.follow ht (State.countIn_follows hget) fun e he => ?_
    rw [hhas]
    rw [State.recount_keeps _ _ _ .bays (by decide)] at he
    rcases Table.mem_set he with rfl | he
    · exact ⟨hz, hr⟩
    · exact ⟨hplaced e he, hres e he⟩
  | @dropBay bay b hget =>
    have hhas := fun k => (s.recountIn_moves (Table.erase s.bays bay) (some b) none).has k
    refine h.follow ht (State.countOut_follows hget) fun e he => ?_
    rw [hhas]
    rw [State.recount_keeps _ _ _ .bays (by decide)] at he
    exact ⟨hplaced e (Table.mem_erase he), hres e (Table.mem_erase he)⟩
  | credit zone arrival =>
    exact moved (State.addCredit_moves (R := fun _ z z' => z'.counts = z.counts) refl zone arrival fun _ _ => rfl)
      (by decide) fun _ _ _ hr => hr
  | operatorCause zone present =>
    refine moved (s.changeCauses_moves zone _) (by decide) ?_
    rintro k z _ (rfl | ⟨-, rfl⟩) <;> rfl
  | @newZone zone level st hnone hz hc =>
    have free : ∀ e ∈ s.bays, e.2.zone ≠ zone := fun e he hzone => by
      have := hplaced e he
      simp [Table.has, hzone, hnone] at this
    have zero : ∀ p : Bay → Bool, Table.countOf s.bays (fun _ b => decide (b.zone = zone) && p b) = 0 := fun p => by
      refine List.length_eq_zero_iff.2 (List.filter_eq_nil_iff.2 fun e he => ?_)
      simp [free e he]
    have zero' := zero fun _ => true
    simp only [Bool.and_true] at zero'
    refine ⟨fun e he => ?_, ?_, hres⟩
    · show Table.has (Table.set s.zones zone _) e.2.zone = true
      rw [Table.has, Table.get_set_ne _ _ (free e he)]
      exact hplaced e he
    · intro e he
      rcases Table.mem_set he with rfl | he
      · refine ⟨fun k => ?_, fun k => ?_, ?_, rfl⟩
        · exact (zero _).symm ▸ (by cases k <;> rfl)
        · simp only [Bool.and_assoc]
          exact (zero _).symm ▸ (by cases k <;> rfl)
        · exact zero'.symm
      · exact hcounts e he
  | @setZone zone z level st hget hc =>
    refine moved (State.setZone_moves (R := fun _ z z' => z'.counts = z.counts) hget refl ?_) (by decide) fun _ _ _ hr => hr
    unfold Zone.withSettings
    dsimp only
    split <;> rfl
  | dropZone zone hfree =>
    have free : ∀ e ∈ s.bays, e.2.zone ≠ zone := fun e he => by
      simp only [State.zoneInUse, Bool.or_eq_false_iff] at hfree
      simpa using Table.exists_eq_false.1 hfree.1.1.1.1 e he
    refine ⟨fun e he => ?_, fun e he => hcounts e (Table.mem_erase he), hres⟩
    show Table.has (Table.erase s.zones zone) e.2.zone = true
    rw [Table.has, Table.get_erase_ne _ (free e he)]
    exact hplaced e he
  | evaluate zone => exact congr (by decide) fun k => s.evaluateZone_counts zone k
  | judgeDrives group => exact noticed (s.judgeDrives_noticed group) (by decide)
  | @isolate group g => exact noticed (s.isolate_noticed group g) (by decide)
  | @returnToService group g _ _ =>
    obtain ⟨m, hm⟩ := s.returnToService_noticed group g
    exact noticed hm (by decide)
  | @installFan group zones drives st =>
    obtain ⟨m, hm⟩ := s.installFan_noticed group (Fan.fresh zones drives st) (s.fanZones group ||| zones)
    exact noticed hm (by decide)
  | @setFan group g zones drives st =>
    obtain ⟨m, hm⟩ := s.changeFanWhole_noticed group g zones drives st
    exact noticed hm (by decide)
  | @dropFan group g _ =>
    exact noticed (State.noticed_availabilityNotice (s := s) (u := s.removeFan group) rfl g.served) (by decide)
  | enterFault cause hget _ => exact noticed (s.enterFault_noticed hget cause) (by decide)
  | enterFire =>
    refine congr (by decide) fun k => ?_
    rw [State.enterFireMode_zones, Option.map_map]; rfl
  | leaveFire =>
    refine congr (by decide) fun k => ?_
    rw [State.leaveFireMode_zones, Option.map_map]; rfl
  | restart => exact h.restart ht
  | reset pins =>
    exact ⟨fun _ he => absurd he List.not_mem_nil, fun _ he => absurd he List.not_mem_nil,
      fun _ he => absurd he List.not_mem_nil⟩
  | _ => exact frame (by decide) (by decide)

/-- Settles O57: every move keeps the bays placed, the counts theirs, and R14. -/
theorem countsFollowTheBays : Obligations.CountsFollowTheBays := by
  intro s t hs hplaced hcounts hres hstep
  exact (step_keeps (P := fun s => s.tablesSound ∧ s.baysSound)
    (fun _ _ _ m h => ⟨m.tablesSound h.1, m.baysSound h.1 h.2⟩) ⟨hs, hplaced, hcounts, hres⟩ hstep).2

end Sys2Proof.Machine

/-! ## Proofs: what a change makes of the fan groups and of the start queue (R77 to R97) -/

namespace Sys2Proof.Machine

/-! ### Two writes of one record are one -/

section Writes

variable {α : Type}

theorem Table.set_set (t : Table α) (k : Nat) (a b : α) : Table.set (Table.set t k a) k b = Table.set t k b := by
  induction t with
  | nil => simp [Table.set]
  | cons e t ih =>
    by_cases h1 : k < e.1
    · simp [Table.set, h1]
    · by_cases h2 : e.1 = k
      · simp [Table.set, h2]
      · simp [Table.set, h1, h2, ih]

theorem Table.modify_of_get {t : Table α} {k : Nat} {a : α} (h : Table.get t k = some a) (f : α → α) :
    Table.modify t k f = Table.set t k (f a) := by
  unfold Table.modify; rw [h]

theorem Table.modify_of_none {t : Table α} {k : Nat} (h : Table.get t k = none) (f : α → α) :
    Table.modify t k f = t := by
  unfold Table.modify; rw [h]

theorem Table.modify_set (t : Table α) (k : Nat) (a : α) (f : α → α) :
    Table.modify (Table.set t k a) k f = Table.set t k (f a) := by
  rw [Table.modify_of_get (Table.get_set _ _ _), Table.set_set]

theorem Table.modify_modify (t : Table α) (k : Nat) (f g : α → α) :
    Table.modify (Table.modify t k f) k g = Table.modify t k (fun a => g (f a)) := by
  cases h : Table.get t k with
  | none => simp only [Table.modify_of_none h]
  | some a => rw [Table.modify_of_get h, Table.modify_of_get h, Table.modify_set]

theorem Table.get_modify_eq (t : Table α) (k n : Nat) (f : α → α) :
    Table.get (Table.modify t k f) n = (Table.get t n).map (fun a => if n = k then f a else a) := by
  by_cases hn : n = k
  · subst hn; simp
  · simp [Table.get_modify_ne _ _ hn, hn]

end Writes

/-! ### The group a change makes -/

/-- R85: the record with its target recomputed. -/
def State.retargeted (s : State) (g : Fan) : Fan := { g with target := s.targetOf g }

/-- R80: the record of a group that enters FAULT. -/
def Fan.faulted (c : FaultCause) (g : Fan) : Fan :=
  { g with state := .fault, faultCause := some c, commanded := 0, proof := none }

/-- R95: the record of a group that is isolated. -/
def Fan.isolated (g : Fan) : Fan := { g with state := .isolated, commanded := 0, proof := none, faultCause := none }

/-- R96: the record of a group that returns to service. -/
def Fan.returned (g : Fan) : Fan := { g with state := .stopped, faultCause := none }

/-- R91: the record of a group that is granted a start. -/
def State.granted (s : State) (g : Fan) : Fan :=
  { g with
    state := .running
    grantedAt := some s.seconds
    proof := some { expiry := s.expiryIn s.settings.proofTime, proven := false }
    commanded := if g.fireTop then max g.settings.vmin g.target else g.settings.vmin }

/-- R84, R107: the record of a group that gets its FIRE entry. -/
def State.firePlaced (s : State) (g : Fan) : Fan :=
  s.retargeted { g with stack := stackWithFire g.stack (g.fireLevel s.fire.zone) }

/-- R84, R109: with the level of its FIRE entry judged again. -/
def State.fireLeveled (s : State) (g : Fan) : Fan :=
  s.retargeted { g with stack := g.stack.map (fun e =>
    if e.cls = .fire then { e with level := g.fireLevel s.fire.zone } else e) }

/-- R84, R110: with its FIRE entry taken off. -/
def State.fireRemoved (s : State) (g : Fan) : Fan :=
  s.retargeted { g with stack := g.stack.filter (fun e => decide (e.cls ≠ .fire)) }

/-! ### What targets and drives read -/

theorem State.targetOf_congr {s t : State} (h : t.zones = s.zones) (g : Fan) : t.targetOf g = s.targetOf g := by
  have records : t.zoneRecords = s.zoneRecords := by funext m; simp only [State.zoneRecords, h]
  unfold State.targetOf State.fumeServed State.autoTarget
  rw [records]

theorem State.retargeted_congr {s t : State} (h : t.zones = s.zones) : t.retargeted = s.retargeted := by
  funext g
  rw [State.retargeted, State.retargeted, State.targetOf_congr h]

/-- R85: a target reads the air state of the zones alone. -/
theorem State.targetOf_congr_air {s t : State}
    (h : ∀ k, (Table.get t.zones k).map (fun z => (z.air.fume, z.air.zoneDemand)) =
      (Table.get s.zones k).map (fun z => (z.air.fume, z.air.zoneDemand))) (g : Fan) : t.targetOf g = s.targetOf g := by
  have records : ∀ m : ZoneSet, (t.zoneRecords m).map (fun z => (z.air.fume, z.air.zoneDemand)) =
      (s.zoneRecords m).map (fun z => (z.air.fume, z.air.zoneDemand)) := fun m => by
    simp only [State.zoneRecords, List.map_filterMap, h]
  have fume : ∀ zs : List Zone, zs.any (fun z => decide (z.air.fume = .fume)) =
      (zs.map (fun z => (z.air.fume, z.air.zoneDemand))).any (fun v => decide (v.1 = .fume)) := fun zs => by
    simp [List.any_map, Function.comp_def]
  have demand : ∀ zs : List Zone, zs.foldl (fun m z => max m z.air.zoneDemand) 0 =
      (zs.map (fun z => (z.air.fume, z.air.zoneDemand))).foldl (fun m v => max m v.2) 0 := fun zs => by
    rw [List.foldl_map]
  simp only [State.targetOf, State.fumeServed, State.autoTarget, fume, demand, records]

theorem State.driveFailed_congr {s t : State} (h : t.nodes = s.nodes) : t.driveFailed = s.driveFailed := by
  funext d
  simp only [State.driveFailed, h]

theorem State.drivesJudged_congr {s t : State} (h : t.nodes = s.nodes) : t.drivesJudged = s.drivesJudged := by
  funext g
  unfold State.drivesJudged
  rw [State.driveFailed_congr h]

/-! ### The table after each change -/

theorem State.changeFan_fans (s : State) (group : Nat) (f : Fan → Fan) :
    (s.changeFan group f).fans = Table.modify s.fans group f := rfl

theorem State.availabilityNotice_fans (s : State) (m : ZoneSet) : (s.availabilityNotice m).fans = s.fans :=
  s.availabilityNotice_keeps m .fans (by decide)

theorem State.availabilityNotice_queue (s : State) (m : ZoneSet) : (s.availabilityNotice m).queue = s.queue :=
  s.availabilityNotice_keeps m .queue (by decide)

theorem State.retarget_fans (s : State) (group : Nat) :
    (s.retarget group).fans = Table.modify s.fans group s.retargeted := rfl

theorem State.enterFault_fans (s : State) (group : Nat) (c : FaultCause) :
    (s.enterFault group c).fans = Table.modify s.fans group (Fan.faulted c) := by
  unfold State.enterFault
  split
  · next h => rw [Table.modify_of_none h]
  · rw [State.availabilityNotice_fans]; rfl

/-- R78: the record of a group whose drives are judged. -/
theorem State.drivesJudged_eq (s : State) (g : Fan) : s.drivesJudged g =
    if s.faults g then Fan.faulted .allDrives { g with degraded := false } else { g with degraded := s.degrades g } := by
  unfold State.drivesJudged State.faults State.degrades Fan.faulted
  by_cases h1 : ∀ d ∈ g.drives, s.driveFailed d = false
  · have h1' : g.drives.all (fun d => !s.driveFailed d) = true := by simpa using h1
    rw [if_pos h1, h1']
    rfl
  · have h1' : g.drives.all (fun d => !s.driveFailed d) = false := by simpa using h1
    rw [if_neg h1, h1']
    by_cases h2 : ∀ d ∈ g.drives, s.driveFailed d = true
    · have h2' : g.drives.all s.driveFailed = true := by simpa using h2
      rw [if_pos h2, h2']
      cases hst : g.state <;> simp [FanState.available]
    · have h2' : g.drives.all s.driveFailed = false := by simpa using h2
      rw [if_neg h2, h2']
      rfl

theorem State.judgeDrives_fans (s : State) (group : Nat) :
    (s.judgeDrives group).fans = Table.modify s.fans group s.drivesJudged := by
  cases h : Table.get s.fans group with
  | none => rw [Table.modify_of_none h]; simp [State.judgeDrives, h]
  | some g =>
    rw [State.judgeDrives_eq h, Table.modify_of_get h, State.drivesJudged_eq]
    split
    · rw [State.enterFault_fans, State.changeFan_fans, Table.modify_modify, Table.modify_of_get h]
    · split
      · rw [State.raise_fans, State.changeFan_fans, Table.modify_of_get h]
      · rw [State.changeFan_fans, Table.modify_of_get h]

theorem State.isolate_fans (s : State) (group : Nat) (g : Fan) :
    (s.isolate group g).fans = Table.modify s.fans group Fan.isolated := by
  unfold State.isolate
  dsimp only
  split
  · rw [State.availabilityNotice_fans]; rfl
  · rfl

theorem State.returnToService_fans (s : State) (group : Nat) (g : Fan) :
    (s.returnToService group g).fans = Table.modify s.fans group (fun g => s.drivesJudged g.returned) := by
  have h : ((s.changeFan group Fan.returned).judgeDrives group).fans =
      Table.modify s.fans group (fun g => s.drivesJudged g.returned) := by
    rw [State.judgeDrives_fans, State.changeFan_fans, Table.modify_modify,
      State.drivesJudged_congr (s := s) (State.changeFan_keeps _ _ _ .nodes (by decide))]
  unfold State.returnToService
  dsimp only
  split
  · rw [State.availabilityNotice_fans]; exact h
  · exact h

theorem State.grant_fans (s : State) (group : Nat) : (s.grant group).fans = Table.modify s.fans group s.granted := rfl

/-- R87, R90: the record of a group that joins: WAITING, or granted at once where the slot is idle. -/
def State.joined (s : State) (g : Fan) : Fan :=
  match s.slot with
  | none => s.granted g
  | some _ => { g with state := .waiting }

theorem State.joinQueue_fans (s : State) (group : Nat) :
    (s.joinQueue group).fans = Table.modify s.fans group s.joined := by
  unfold State.joinQueue State.joined
  dsimp only
  cases s.slot with
  | none =>
    show Table.modify (Table.modify s.fans group _) group _ = _
    rw [Table.modify_modify]
    rfl
  | some _ =>
    have h : ∀ u : State, (u.enqueue group).fans = u.fans := fun u => u.enqueue_keeps group .fans (by decide)
    exact (h _).trans rfl

theorem State.placeFire_fans (s : State) (group : Nat) :
    (s.placeFire group).fans = Table.modify s.fans group s.firePlaced := by
  unfold State.placeFire
  split
  · next h => rw [Table.modify_of_none h]
  · have h1 : ((s.changeFan group (fun g => { g with stack := stackWithFire g.stack (g.fireLevel s.fire.zone) })).retarget
        group).fans = Table.modify s.fans group s.firePlaced := by
      rw [State.retarget_fans, State.changeFan_fans, Table.modify_modify]
      rfl
    have raised : ∀ (u : State) (b : Prop) [Decidable b] (r : Reason), (if b then u.raise .fan group r else u).fans = u.fans :=
      fun u b _ r => by split <;> rfl
    have moved : ∀ u : State, (u.moveForward group).fans = u.fans := fun u => u.moveForward_keeps group .fans (by decide)
    dsimp only
    split
    · rw [moved, raised, raised, h1]
    · rw [raised, raised, h1]

theorem State.relevelFire_fans (s : State) (group : Nat) :
    (s.relevelFire group).fans = Table.modify s.fans group s.fireLeveled := by
  unfold State.relevelFire
  rw [State.retarget_fans, State.changeFan_fans, Table.modify_modify]
  rfl

theorem State.removeFire_fans (s : State) (group : Nat) :
    (s.removeFire group).fans = Table.modify s.fans group s.fireRemoved := by
  unfold State.removeFire
  rw [State.retarget_fans, State.changeFan_fans, Table.modify_modify]
  rfl

/-- R97, R113: a new group's record, with its FIRE entry in fire mode, before its drives are judged. -/
def State.freshFan (s : State) (g : Fan) : Fan :=
  if s.fireActive then s.firePlaced g else s.retargeted g

theorem State.installFan_fans (s : State) (group : Nat) (g : Fan) (m : ZoneSet) :
    (s.installFan group g m).fans = Table.set s.fans group (s.drivesJudged (s.freshFan g)) := by
  have hset : ((s.removeFan group).withFans (Table.set s.fans group g)).fans = Table.set s.fans group g := rfl
  have hplaced := ((s.removeFan group).withFans (Table.set s.fans group g)).placeFire_fans group
  rw [hset, Table.modify_set] at hplaced
  have hactive : ((s.removeFan group).withFans (Table.set s.fans group g)).fireActive = s.fireActive := rfl
  unfold State.installFan
  dsimp only
  rw [State.availabilityNotice_fans, State.judgeDrives_fans, State.retarget_fans, hactive]
  unfold State.freshFan
  split
  · have hz := State.placeFire_zones ((s.removeFan group).withFans (Table.set s.fans group g)) group
    have hn : (((((s.removeFan group).withFans (Table.set s.fans group g)).placeFire group)).retarget group).nodes =
        s.nodes := State.placeFire_keeps _ group .nodes (by decide)
    rw [hplaced, Table.modify_set, Table.modify_set, State.retargeted_congr hz, State.drivesJudged_congr hn]
    rfl
  · rw [hset, Table.modify_set, Table.modify_set]
    rfl

/-- R98: a group's record with its new fields, its target and its drives judged where these rest on new ones. -/
def State.reset98 (s : State) (g : Fan) (zones : ZoneSet) (drives : List Nat) (st : FanSettings) : Fan :=
  let g1 := g.changed zones drives st
  let g2 := if zones = g.served then g1 else s.retargeted g1
  if drives = g.drives.map (fun d => d.node) then g2 else s.drivesJudged g2

theorem State.changeFanWhole_fans (s : State) (group : Nat) (g : Fan) (zones : ZoneSet) (drives : List Nat)
    (st : FanSettings) : (s.changeFanWhole group g zones drives st).fans =
      Table.set s.fans group (s.reset98 g zones drives st) := by
  have h2 : (if zones = g.served then s.withFans (Table.set s.fans group (g.changed zones drives st))
      else (s.withFans (Table.set s.fans group (g.changed zones drives st))).retarget group).fans =
      Table.set s.fans group (if zones = g.served then g.changed zones drives st
        else s.retargeted (g.changed zones drives st)) := by
    split
    · rfl
    · rw [State.retarget_fans, State.withFans_fans, Table.modify_set]; rfl
  have hn : (if zones = g.served then s.withFans (Table.set s.fans group (g.changed zones drives st))
      else (s.withFans (Table.set s.fans group (g.changed zones drives st))).retarget group).nodes = s.nodes := by
    split <;> rfl
  unfold State.changeFanWhole State.reset98
  dsimp only
  generalize (if zones = g.served then s.withFans (Table.set s.fans group (g.changed zones drives st))
      else (s.withFans (Table.set s.fans group (g.changed zones drives st))).retarget group) = u at h2 hn
  have h3 : (if drives = g.drives.map (fun d => d.node) then u else u.judgeDrives group).fans =
      Table.set s.fans group (if drives = g.drives.map (fun d => d.node)
        then (if zones = g.served then g.changed zones drives st else s.retargeted (g.changed zones drives st))
        else s.drivesJudged (if zones = g.served then g.changed zones drives st
          else s.retargeted (g.changed zones drives st))) := by
    split
    · exact h2
    · rw [State.judgeDrives_fans, h2, Table.modify_set, State.drivesJudged_congr hn]
  split
  · next hz => simpa only [if_pos hz] using h3
  · next hz => rw [State.availabilityNotice_fans]; simpa only [if_neg hz] using h3

/-! ### The queue after each change -/

theorem State.enterFault_queue (s : State) {group : Nat} {g : Fan} (h : Table.get s.fans group = some g)
    (c : FaultCause) : (s.enterFault group c).queue = s.queue.filter (fun n => decide (n ≠ group)) := by
  unfold State.enterFault
  rw [h]
  dsimp only
  rw [State.availabilityNotice_queue]
  rfl

theorem State.judgeDrives_queue (s : State) {group : Nat} {g : Fan} (h : Table.get s.fans group = some g) :
    (s.judgeDrives group).queue = if s.faults g then s.queue.filter (fun n => decide (n ≠ group)) else s.queue := by
  rw [State.judgeDrives_eq h]
  split
  · have hg : Table.get (s.changeFan group (fun g => { g with degraded := false })).fans group =
        some { g with degraded := false } := by rw [State.changeFan_read, h]; simp
    rw [State.enterFault_queue _ hg]
    rfl
  · split <;> rfl

theorem State.isolate_queue (s : State) (group : Nat) (g : Fan) :
    (s.isolate group g).queue = s.queue.filter (fun n => decide (n ≠ group)) := by
  unfold State.isolate
  dsimp only
  split
  · rw [State.availabilityNotice_queue]; rfl
  · rfl

/-! ### The forcing of many groups -/

/-- One change of one record for each number of a list, each once. -/
theorem forEach_reads {op : Nat → State → State} {f : Fan → Fan} {P : State → Prop}
    (hop : ∀ n s, P s → ∀ k, Table.get (op n s).fans k = (Table.get s.fans k).map (fun g => if k = n then f g else g))
    (hP : ∀ n s, P s → P (op n s)) {ns : List Nat} (hns : ns.Nodup) (s : State) (hs : P s) (k : Nat) :
    Table.get (State.forEach op ns s).fans k = (Table.get s.fans k).map (fun g => if k ∈ ns then f g else g) := by
  induction ns generalizing s with
  | nil => simp [State.forEach]
  | cons n ns ih =>
    obtain ⟨hn, hns⟩ := List.nodup_cons.1 hns
    rw [State.forEach, ih hns _ (hP n s hs), hop n s hs, Option.map_map]
    congr 1
    funext g
    by_cases hk : k = n
    · subst hk; simp [hn]
    · simp [hk]

theorem forEach_fans {op : Nat → State → State} {f : Fan → Fan} {P : State → Prop}
    (hop : ∀ n s, P s → (op n s).fans = Table.modify s.fans n f) (hP : ∀ n s, P s → P (op n s))
    {ns : List Nat} (hns : ns.Nodup) (s : State) (hs : P s) (k : Nat) :
    Table.get (State.forEach op ns s).fans k = (Table.get s.fans k).map (fun g => if k ∈ ns then f g else g) :=
  forEach_reads (fun n s h k => by rw [hop n s h, Table.get_modify_eq]) hP hns s hs k

end Sys2Proof.Machine

/-! ## Proofs: stacks, speeds, targets and demands stay sound (R68, R81, R85, R88) -/

namespace Sys2Proof.Machine

/-! ### What each change leaves of a group's record -/

/-- R78: judging the drives moves none of a group's definition, its stack or its target. -/
theorem State.drivesJudged_only (s : State) (g : Fan) : s.drivesJudged g = { g with
    degraded := (s.drivesJudged g).degraded, state := (s.drivesJudged g).state
    faultCause := (s.drivesJudged g).faultCause, commanded := (s.drivesJudged g).commanded
    proof := (s.drivesJudged g).proof } := by
  rw [State.drivesJudged_eq]
  split <;> rfl

@[simp] theorem State.drivesJudged_stack (s : State) (g : Fan) : (s.drivesJudged g).stack = g.stack := by
  rw [State.drivesJudged_only]
@[simp] theorem State.drivesJudged_served (s : State) (g : Fan) : (s.drivesJudged g).served = g.served := by
  rw [State.drivesJudged_only]
@[simp] theorem State.drivesJudged_settings (s : State) (g : Fan) : (s.drivesJudged g).settings = g.settings := by
  rw [State.drivesJudged_only]
@[simp] theorem State.drivesJudged_target (s : State) (g : Fan) : (s.drivesJudged g).target = g.target := by
  rw [State.drivesJudged_only]

theorem State.reset98_stack (s : State) (g : Fan) (zones : ZoneSet) (drives : List Nat) (st : FanSettings) :
    (s.reset98 g zones drives st).stack = g.stack := by
  unfold State.reset98
  dsimp only
  split <;> split <;> simp [Fan.changed, State.retargeted]

theorem State.joined_only (s : State) (g : Fan) : s.joined g = { g with
    state := (s.joined g).state, grantedAt := (s.joined g).grantedAt, proof := (s.joined g).proof
    commanded := (s.joined g).commanded } := by
  unfold State.joined
  split <;> rfl

theorem State.joined_stack (s : State) (g : Fan) : (s.joined g).stack = g.stack := by rw [State.joined_only]

/-- R102: the groups as RESTART leaves them, from the zones it has left. -/
theorem State.restartBlocks_fans (s : State) : s.restartBlocks.fans = Table.update
    (fun _ g => s.restartRecords.restartJudged g)
    (Table.update (fun _ g => g.restarted (if s.fireActive then some s.fire else none)) s.fans) := by
  have h1 : ∀ u : State, u.restartPorts.fans = u.fans := fun u => u.restartPorts_keeps .fans (by decide)
  have h2 : ∀ u : State, u.restartOutputs.fans = u.fans := fun _ => rfl
  have h3 : ∀ u : State, u.restartAir.fans = u.fans := fun _ => rfl
  rw [State.restartBlocks, h1, h2, h3]
  rfl

/-- R85: what an evaluation makes of the groups: those that serve the zone are retargeted where it enters or leaves
FUME. -/
theorem State.evaluateZone_fans {s : State} {zone : Nat} {z : Zone} (h : Table.get s.zones zone = some z) :
    (s.evaluateZone zone).fans =
      if z.air.fume ≠ (s.airStep zone z).air.fume ∧ (z.air.fume = .fume ∨ (s.airStep zone z).air.fume = .fume)
      then Table.update (fun _ g => if g.served.getLsbD zone then (s.evaluateZone zone).retargeted g else g) s.fans
      else s.fans := by
  have hfans : (s.evaluated zone z).fans = s.fans := by unfold State.evaluated; dsimp only; split <;> rfl
  have hair : ∀ k, (Table.get (s.evaluateZone zone).zones k).map (fun z => (z.air.fume, z.air.zoneDemand)) =
      (Table.get (s.evaluated zone z).zones k).map (fun z => (z.air.fume, z.air.zoneDemand)) := fun k => by
    rw [State.evaluateZone_get h, State.evaluated_zones]
    by_cases hk : k = zone
    · subst hk; simp [State.airZone_air]
    · simp [hk, Table.get_set_ne _ _ hk]
  rw [show (s.evaluateZone zone).retargeted = (s.evaluated zone z).retargeted by
    funext g; rw [State.retargeted, State.retargeted, State.targetOf_congr_air hair]]
  rw [State.evaluateZone_eq h]
  generalize s.evaluated zone z = u at hfans
  generalize (s.airStep zone z).air.fume = new
  have judged : ∀ u : State, (u.judgeAirCause zone).fans = u.fans := fun u => u.judgeAirCause_keeps zone .fans (by decide)
  have reported : ∀ (f : Causes → Causes) (r : Reason), ((u.changeCauses zone f).raise .air zone r).fans = u.fans :=
    fun f r => (u.changeCauses_keeps zone f) .fans (by decide)
  have serving : ∀ (v : State), v.fans = u.fans → (∀ k, (Table.get v.zones k).map (fun z => (z.air.fume, z.air.zoneDemand)) =
      (Table.get u.zones k).map (fun z => (z.air.fume, z.air.zoneDemand))) → (v.retargetServing zone).fans =
      Table.update (fun _ g => if g.served.getLsbD zone then u.retargeted g else g) s.fans := fun v hv ha => by
    rw [← hfans, ← hv]
    show Table.update _ v.fans = _
    congr 1
    funext k g
    rw [State.targetOf_congr_air ha]
    rfl
  have causes : ∀ (f : Causes → Causes) (k : Nat),
      (Table.get (u.changeCauses zone f).zones k).map (fun z => (z.air.fume, z.air.zoneDemand)) =
      (Table.get u.zones k).map (fun z => (z.air.fume, z.air.zoneDemand)) := fun f k => by
    rw [State.changeCauses_get, Option.map_map]
    congr 1
    funext z
    simp only [Function.comp_def]
    split <;> rfl
  unfold State.fumeEffects
  by_cases hon : z.air.fume = new
  · simp [hon, hfans]
  · rw [if_neg hon, judged]
    by_cases hn : new = .fume
    · rw [if_pos hn, if_pos ⟨hon, .inr hn⟩]
      exact serving _ (reported _ .fumeEntered) (causes _)
    · by_cases ho : z.air.fume = .fume
      · rw [if_neg hn, if_pos ho, if_pos ⟨hon, .inl ho⟩]
        exact serving _ (reported _ .fumeLeft) (causes _)
      · rw [if_neg hn, if_neg ho, if_neg (by simp [hn, ho]), hfans]

/-! ### The override stacks (R81) -/

/-- Each group gets, keeps or loses one FIRE entry, its own. -/
theorem State.placeFires_get {s : State} (hw : (Table.keys s.fans).Nodup) (k : Nat) :
    Table.get s.placeFires.fans k = (Table.get s.fans k).map s.firePlaced := by
  rw [State.placeFires, forEach_fans (f := s.firePlaced) (P := fun u => u.zones = s.zones ∧ u.fire = s.fire)
    (fun n u ⟨hz, hf⟩ => ?_) (fun n u ⟨hz, hf⟩ => ⟨(u.placeFire_zones n).trans hz, (u.placeFire_keeps n .fire (by decide)).trans hf⟩)
    hw s ⟨rfl, rfl⟩]
  · cases h : Table.get s.fans k with
    | none => rfl
    | some g => simp [Table.mem_keys_of_get h]
  · rw [State.placeFire_fans]
    congr 1
    funext g
    rw [State.firePlaced, State.firePlaced, State.retargeted_congr hz, hf]

theorem State.removeFires_get {s : State} (hw : (Table.keys s.fans).Nodup) (k : Nat) :
    Table.get s.removeFires.fans k = (Table.get s.fans k).map s.fireRemoved := by
  rw [State.removeFires, forEach_fans (f := s.fireRemoved) (P := fun u => u.zones = s.zones)
    (fun n u hz => ?_) (fun n u hz => (u.removeFire_keeps n .zones (by decide)).trans hz) hw s rfl]
  · cases h : Table.get s.fans k with
    | none => rfl
    | some g => simp [Table.mem_keys_of_get h]
  · rw [State.removeFire_fans]
    congr 1
    funext g
    rw [State.fireRemoved, State.fireRemoved, State.retargeted_congr hz]

theorem State.relevelFires_get {s : State} (hw : (Table.keys s.fans).Nodup) (k : Nat) :
    Table.get s.relevelFires.fans k = (Table.get s.fans k).map s.fireLeveled := by
  rw [State.relevelFires, forEach_fans (f := s.fireLeveled) (P := fun u => u.zones = s.zones ∧ u.fire = s.fire)
    (fun n u ⟨hz, hf⟩ => ?_) (fun n u ⟨hz, hf⟩ => ⟨(u.relevelFire_keeps n .zones (by decide)).trans hz,
      (u.relevelFire_keeps n .fire (by decide)).trans hf⟩) hw s ⟨rfl, rfl⟩]
  · cases h : Table.get s.fans k with
    | none => rfl
    | some g => simp [Table.mem_keys_of_get h]
  · rw [State.relevelFire_fans]
    congr 1
    funext g
    rw [State.fireLeveled, State.fireLeveled, State.retargeted_congr hz, hf]

theorem Table.keys_nodup {α : Type} {t : Table α} (h : (Table.keys t).Pairwise (· < ·)) : (Table.keys t).Nodup :=
  h.imp fun hlt => Nat.ne_of_lt hlt

/-- R84: the stack with a FIRE entry on top. -/
theorem stackSound_withFire {stack : List Entry} (h : stackSound false stack) (level : Nat) :
    stackSound true (stackWithFire stack level) := by
  obtain ⟨hlen, hrise, hfire, hexp⟩ := h
  have nofire : ∀ e ∈ stack, e.cls ≠ .fire := fun e he hc => by
    have := List.length_eq_zero_iff.1 hfire
    simpa [hc] using List.filter_eq_nil_iff.1 this e he
  have key : ∀ st : List Entry, st.Sublist stack → st.length < Config.stackDepth →
      stackSound true (st ++ [{ cls := .fire, level := level, expiry := none, tag := 0 }]) := fun st hst hlt => by
    have nofire' : st.filter (fun e => decide (e.cls = .fire)) = [] :=
      List.filter_eq_nil_iff.2 fun e he => by simpa using nofire e (hst.subset he)
    refine ⟨by simpa using hlt, List.pairwise_append.2 ⟨hrise.sublist hst, List.pairwise_singleton _ _, ?_⟩, ?_, ?_⟩
    · intro a ha b hb
      obtain rfl := List.mem_singleton.1 hb
      show a.cls.rank ≤ Cls.rank .fire
      cases a.cls <;> decide
    · simp [List.filter_append, nofire']
    · intro e he hc
      rcases List.mem_append.1 he with he | he
      · exact absurd hc (nofire e (hst.subset he))
      · rw [List.mem_singleton.1 he]
  unfold stackWithFire
  split
  · next hfull =>
    refine key _ (List.drop_sublist _ _) ?_
    have : 0 < Config.stackDepth := by decide
    simp only [List.length_drop]
    omega
  · next hroom => exact key _ (List.Sublist.refl _) (by omega)

theorem stackSound_withoutFire {fire : Bool} {stack : List Entry} (h : stackSound fire stack) :
    stackSound false (stack.filter (fun e => decide (e.cls ≠ .fire))) := by
  obtain ⟨hlen, hrise, -, hexp⟩ := h
  refine ⟨(List.length_filter_le _ _).trans hlen, hrise.filter _, ?_, fun e he => hexp e (List.mem_of_mem_filter he)⟩
  rw [List.filter_filter]
  simp

/-- R84, R109: an entry whose level alone changes keeps the stack sound. -/
theorem stackSound_map {fire : Bool} {stack : List Entry} (h : stackSound fire stack) {f : Entry → Entry}
    (hc : ∀ e, (f e).cls = e.cls) (he : ∀ e, (f e).expiry = e.expiry) : stackSound fire (stack.map f) := by
  obtain ⟨hlen, hrise, hfire, hexp⟩ := h
  refine ⟨by simpa using hlen, List.pairwise_map.2 (hrise.imp fun hab => by simpa [hc] using hab), ?_, ?_⟩
  · rw [List.filter_map, List.length_map, ← hfire]
    simp [Function.comp_def, hc]
  · intro e hmem hcls
    obtain ⟨a, ha, rfl⟩ := List.mem_map.1 hmem
    rw [he]
    exact hexp a ha (by rwa [hc] at hcls)

theorem stackSound_nil : stackSound false [] := ⟨by decide, .nil, rfl, fun _ h => absurd h List.not_mem_nil⟩

theorem State.stacksSound_of_get {s : State} (hs : s.tablesSound)
    (h : ∀ k g, Table.get s.fans k = some g → stackSound s.fire.taken g.stack) : s.stacksSound :=
  fun e he => h e.1 e.2 (Table.get_of_mem hs.fans.1 he)

theorem State.firePlaced_stack (s : State) (g : Fan) :
    (s.firePlaced g).stack = stackWithFire g.stack (g.fireLevel s.fire.zone) := rfl

theorem State.Move.stacksSound {s t : State} {l : List Field} (m : State.Move s t l) (hs : s.tablesSound)
    (h : s.stacksSound) : t.stacksSound := by
  have ht := m.tablesSound hs
  have sound : t.fire.taken = s.fire.taken → (∀ e ∈ t.fans, stackSound s.fire.taken e.2.stack) → t.stacksSound :=
    fun hf hall => by unfold State.stacksSound; rw [hf]; exact hall
  have taken : Field.fire ∉ l → t.fire.taken = s.fire.taken := fun hf => by rw [show t.fire = s.fire from m.keeps .fire hf]
  have frame : Field.fire ∉ l → Field.fans ∉ l → t.stacksSound := fun hf hg =>
    sound (taken hf) (by rw [show t.fans = s.fans from m.keeps .fans hg]; exact h)
  have modify : ∀ {f : Fan → Fan} {group : Nat}, t.fans = Table.modify s.fans group f → Field.fire ∉ l →
      (∀ g, (f g).stack = g.stack) → t.stacksSound := fun hfans hf hst => by
    refine sound (taken hf) ?_
    rw [hfans]
    exact Table.forall_modify (p := fun g : Fan => stackSound s.fire.taken g.stack) h _ fun g hg => by rw [hst]; exact hg
  have written : ∀ {g : Fan} {group : Nat}, t.fans = Table.set s.fans group g → Field.fire ∉ l →
      stackSound s.fire.taken g.stack → t.stacksSound := fun hfans hf hst => by
    refine sound (taken hf) ?_
    rw [hfans]
    exact Table.forall_set (p := fun g : Fan => stackSound s.fire.taken g.stack) h _ hst
  cases m with
  | evaluate zone =>
    refine sound (taken (by decide)) ?_
    cases hz : Table.get s.zones zone with
    | none => rw [State.evaluateZone_undefined hz]; exact h
    | some z =>
      rw [State.evaluateZone_fans hz]
      split
      · refine Table.forall_update (p := fun g : Fan => stackSound s.fire.taken g.stack) h fun _ g hg => ?_
        split <;> exact hg
      · exact h
  | report group f hf hd => exact modify (s.changeFan_fans group f) (by decide) fun g => by rw [hf]
  | judgeDrives group => exact modify (s.judgeDrives_fans group) (by decide) fun g => s.drivesJudged_stack g
  | isolate => exact modify (s.isolate_fans _ _) (by decide) fun _ => rfl
  | returnToService =>
    exact modify (s.returnToService_fans _ _) (by decide) fun g => s.drivesJudged_stack g.returned
  | installFan zones drives st =>
    refine written (s.installFan_fans _ _ _) (by decide) ?_
    rw [State.drivesJudged_stack]
    unfold State.freshFan
    split
    · next hf =>
      rw [show s.fire.taken = true from hf]
      exact stackSound_withFire stackSound_nil _
    · next hf =>
      rw [show s.fire.taken = false by simpa [State.fireActive] using hf]
      exact stackSound_nil
  | setFan zones drives st hget =>
    refine written (s.changeFanWhole_fans _ _ _ _ _) (by decide) ?_
    rw [State.reset98_stack]
    exact h _ (Table.mem_of_get hget)
  | @dropFan group g hget =>
    refine sound (taken (by decide)) ?_
    rw [State.availabilityNotice_fans]
    exact Table.forall_erase (p := fun g : Fan => stackSound s.fire.taken g.stack) h group
  | @restack group g k hget hm =>
    have hfans : ((s.changeFan group (fun g => { g with stack := k g.stack })).retarget group).fans =
        Table.set s.fans group (s.retargeted { g with stack := k g.stack }) := by
      rw [State.retarget_fans, State.changeFan_fans, Table.modify_modify, Table.modify_of_get hget]
      rfl
    exact written hfans (by decide) (hm.sound (h _ (Table.mem_of_get hget)))
  | retarget group => exact modify (s.retarget_fans group) (by decide) fun _ => rfl
  | joinQueue hget _ =>
    exact modify (s.joinQueue_fans _) (by decide) s.joined_stack
  | quitQueue => exact modify (State.changeFan_fans _ _ _) (by decide) fun _ => rfl
  | @run group g f hget hst hm =>
    refine written (g := f g) (by rw [State.changeFan_fans, Table.modify_of_get hget]) (by decide) ?_
    rw [hm.only]
    exact h _ (Table.mem_of_get hget)
  | grantHead => exact modify (State.grant_fans _ _) (by decide) fun _ => rfl
  | enterFault c => exact modify (s.enterFault_fans _ _) (by decide) fun _ => rfl
  | watchLine level => exact sound (by rw [State.withFire_fire, FireMonitor.edge_only]) h
  | watchCodes value => exact sound (by rw [State.withFire_fire, FireMonitor.codeChange_only]) h
  | enterFire _ htaken =>
    refine State.stacksSound_of_get ht fun k g' hg' => ?_
    have hfans : s.enterFireMode.fans = (s.withFire s.fire.rise).placeFires.fans :=
      State.fireEffects_keeps _ true _ .fans (by decide)
    rw [hfans, State.placeFires_get (s := s.withFire s.fire.rise) (Table.keys_nodup hs.fans.1), Option.map_eq_some_iff] at hg'
    obtain ⟨g, hg, rfl⟩ := hg'
    rw [State.enterFireMode_fire, State.firePlaced_stack]
    exact stackSound_withFire (htaken ▸ h _ (Table.mem_of_get hg)) _
  | leaveFire _ htaken =>
    refine State.stacksSound_of_get ht fun k g' hg' => ?_
    have hfans : s.leaveFireMode.fans = (s.withFire s.fire.fall).removeFires.fans :=
      State.fireEffects_keeps _ false _ .fans (by decide)
    rw [hfans, State.removeFires_get (s := s.withFire s.fire.fall) (Table.keys_nodup hs.fans.1), Option.map_eq_some_iff] at hg'
    obtain ⟨g, hg, rfl⟩ := hg'
    rw [State.leaveFireMode_fire]
    exact stackSound_withoutFire (h _ (Table.mem_of_get hg))
  | moveFireZone zone htaken =>
    refine State.stacksSound_of_get ht fun k g' hg' => ?_
    have hfans : (s.moveFireZone zone).fans =
        (s.withFire { s.fire with zone := some zone, pendingZone := none }).relevelFires.fans := rfl
    rw [hfans, State.relevelFires_get
      (s := s.withFire { s.fire with zone := some zone, pendingZone := none }) (Table.keys_nodup hs.fans.1), Option.map_eq_some_iff] at hg'
    obtain ⟨g, hg, rfl⟩ := hg'
    rw [State.moveFireZone_fire]
    refine stackSound_map (h _ (Table.mem_of_get hg)) ?_ ?_ <;> (intro e; dsimp only; split <;> rfl)
  | restart =>
    refine sound (taken (by decide)) ?_
    rw [State.restartBlocks_fans]
    refine Table.forall_update (p := fun g : Fan => stackSound s.fire.taken g.stack) ?_ fun _ _ hg => hg
    intro e he
    obtain ⟨g, -, heg⟩ := Table.mem_update he
    rw [heg]
    unfold Fan.restarted State.fireActive
    cases htaken : s.fire.taken
    · exact stackSound_nil
    · exact stackSound_withFire stackSound_nil _
  | reset pins => exact fun _ he => absurd he List.not_mem_nil
  | _ => exact frame (by decide) (by decide)

end Sys2Proof.Machine

/-! ## Proofs: demands, targets and commanded speeds stay in range, and 100 is the target in FUME (R68, R85, R88) -/

namespace Sys2Proof.Machine

/-! ### The demands of the zones (R59 to R62, R68) -/

def State.demandsSound (s : State) : Prop := ∀ e ∈ s.zones, e.2.demandSound

theorem Zone.Stays.demandSound {z z' : Zone} (h : z.Stays z') (hz : z.demandSound) : z'.demandSound := by
  rw [h]; exact hz

/-- Zones that keep their demands in range, one by one. -/
theorem State.demandsSound.moves {s t : State}
    (h : s.demandsSound) (hm : Table.Moves (fun _ z z' => z.demandSound → z'.demandSound) s.zones t.zones) :
    t.demandsSound := by
  intro e he
  obtain ⟨z, hz, hr⟩ := hm.back e he
  exact hr (h _ hz)

theorem State.demandsSound.stay {s t : State} (h : s.demandsSound) (hm : s.ZonesStay t) : t.demandsSound :=
  h.moves (Table.Moves.mono hm fun _ _ _ => Zone.Stays.demandSound)

theorem ZoneSettings.consistent_demands {level : Nat} {st : ZoneSettings} (h : st.consistent level = true) :
    st.minDemand ≤ 100 ∧ st.blindDemand ≤ 100 := by
  simp only [ZoneSettings.consistent, within, Bool.and_eq_true, decide_eq_true_eq] at h
  omega

theorem gasDemandOf_le {g : GasSettings} {blindDemand : Nat} (h : blindDemand ≤ 100) (blind : Bool) (avg : Option Nat) :
    gasDemandOf g blind blindDemand avg ≤ 100 := by
  unfold gasDemandOf
  split
  · exact h
  · exact h
  · next a =>
    split
    · exact Nat.zero_le _
    · split
      · exact Nat.le_refl _
      · next h1 h2 =>
        have hpos : 0 < 16 * (g.full - g.start) := by omega
        have : (a - 16 * g.start) * 100 ≤ 100 * (16 * (g.full - g.start)) := by
          rw [Nat.mul_comm]; exact Nat.mul_le_mul_left _ (by omega)
        exact Nat.div_le_of_le_mul (by omega)

theorem State.airStep_demandSound (s : State) (zone : Nat) {z : Zone} (h : z.demandSound) :
    Zone.demandSound { z with air := (s.airStep zone z).air } := by
  obtain ⟨hmin, hblind, hcredit, -, -, -⟩ := h
  have hgas : (s.airStep zone z).air.gasDemand ≤ 100 := by
    simp only [State.airStep, evaluateAir]
    split
    · exact Nat.max_le.2 ⟨gasDemandOf_le hblind _ _, gasDemandOf_le hblind _ _⟩
    · exact Nat.zero_le _
  refine ⟨hmin, hblind, (Nat.sub_le _ _).trans hcredit, hgas, hcredit, ?_⟩
  have hz : (s.airStep zone z).air.zoneDemand = if (s.airStep zone z).air.fume = .fume then 100
      else max (max (s.airStep zone z).air.gasDemand z.air.credit) z.settings.minDemand := rfl
  show (s.airStep zone z).air.zoneDemand ≤ 100
  rw [hz]
  split <;> omega

theorem State.fumeEffects_stay (s : State) (zone : Nat) (old new : Fume) : s.ZonesStay (s.fumeEffects zone old new) := by
  have reported : ∀ (f : Causes → Causes) (r : Reason), s.ZonesStay ((s.changeCauses zone f).raise .air zone r) :=
    fun f r => (s.changeCauses_stay zone f).trans (.of_eq rfl)
  unfold State.fumeEffects
  split
  · exact .refl s
  · refine State.ZonesStay.trans ?_ (State.judgeAirCause_stay _ zone)
    split
    · exact (reported _ _).trans (.of_eq (by rw [State.retargetServing_zones, State.fumeReported_zones]))
    · split
      · exact (reported _ _).trans (.of_eq (by rw [State.retargetServing_zones, State.fumeEnded_zones]))
      · exact .refl s

theorem State.evaluateZone_demands {s : State} (h : s.demandsSound) (zone : Nat) : (s.evaluateZone zone).demandsSound := by
  cases hz : Table.get s.zones zone with
  | none => rw [State.evaluateZone_undefined hz]; exact h
  | some z =>
    rw [State.evaluateZone_eq hz]
    refine State.demandsSound.stay ?_ (State.fumeEffects_stay _ _ _ _)
    unfold State.demandsSound
    rw [State.evaluated_zones]
    exact Table.forall_set (p := Zone.demandSound) h zone (s.airStep_demandSound zone (h _ (Table.mem_of_get hz)))

theorem State.fireCause_stay (s : State) (present : Bool) : s.ZonesStay (s.fireCause present) :=
  .forEach (fun _ s => s.changeCauses_stay _ _) _ _

theorem State.Move.demandsSound {s t : State} {l : List Field} (m : State.Move s t l) (h : s.demandsSound) :
    t.demandsSound := by
  have frame : Field.zones ∉ l → t.demandsSound := fun hz => h.stay (.of_eq (m.keeps .zones hz))
  have recounted : Table.Moves (fun _ => Zone.Recounted) s.zones t.zones → t.demandsSound := fun hm =>
    h.stay (Table.Moves.mono hm fun _ _ _ => Zone.Recounted.stays)
  have refl : ∀ (_ : Nat) (z : Zone), z.demandSound → z.demandSound := fun _ _ => id
  cases m with
  | putBay b => exact recounted (s.putBay_moves _ b)
  | newBay b => exact recounted (s.recountIn_moves _ _ _)
  | dropBay => exact recounted (s.recountIn_moves _ _ _)
  | credit zone arrival =>
    refine h.moves (State.addCredit_moves (R := fun _ z z' => z.demandSound → z'.demandSound) refl zone arrival
      fun z c ⟨h1, h2, _, h4, h5, h6⟩ => ⟨h1, h2, Nat.min_le_left _ _, h4, h5, h6⟩)
  | operatorCause zone present => exact h.stay (s.changeCauses_stay _ _)
  | newZone level st hnone hz hc =>
    obtain ⟨hmin, hblind⟩ := ZoneSettings.consistent_demands hc
    exact Table.forall_set (p := Zone.demandSound) h _
      ⟨hmin, hblind, Nat.zero_le _, Nat.zero_le _, Nat.zero_le _, hmin⟩
  | @setZone zone z level st hget hc =>
    obtain ⟨hmin, hblind⟩ := ZoneSettings.consistent_demands hc
    refine h.moves (State.setZone_moves (R := fun _ z z' => z.demandSound → z'.demandSound) hget refl
      fun ⟨_, _, h3, h4, h5, h6⟩ => ?_)
    unfold Zone.withSettings
    dsimp only
    split <;> exact ⟨hmin, hblind, h3, h4, h5, h6⟩
  | dropZone zone => exact Table.forall_erase (p := Zone.demandSound) h zone
  | evaluate zone => exact State.evaluateZone_demands h zone
  | judgeDrives group => exact h.stay (s.judgeDrives_noticed group).stay
  | isolate => exact h.stay (s.isolate_noticed _ _).stay
  | @returnToService group g =>
    obtain ⟨m, hm⟩ := s.returnToService_noticed group g
    exact h.stay hm.stay
  | @installFan group zones drives st =>
    obtain ⟨m, hm⟩ := s.installFan_noticed group (Fan.fresh zones drives st) (s.fanZones group ||| zones)
    exact h.stay hm.stay
  | @setFan group g zones drives st =>
    obtain ⟨m, hm⟩ := s.changeFanWhole_noticed group g zones drives st
    exact h.stay hm.stay
  | @dropFan group g _ =>
    exact h.stay (State.noticed_availabilityNotice (s := s) (u := s.removeFan group) rfl g.served).stay
  | enterFault cause hget _ => exact h.stay (s.enterFault_noticed hget cause).stay
  | enterFire =>
    have hz : (s.withFire s.fire.rise).placeFires.zones = s.zones := State.placeFires_keeps _ .zones (by decide)
    rw [State.enterFireMode_eq]
    exact (h.stay ((State.ZonesStay.of_eq hz).trans (State.fireCause_stay _ true))).stay
      (.of_eq (State.fireEffects_zones _ _ _))
  | leaveFire =>
    have hz : (s.withFire s.fire.fall).removeFires.zones = s.zones := State.removeFires_keeps _ .zones (by decide)
    rw [State.leaveFireMode_eq]
    exact (h.stay ((State.ZonesStay.of_eq hz).trans (State.fireCause_stay _ false))).stay
      (.of_eq (State.fireEffects_zones _ _ _))
  | restart =>
    intro e he
    rw [State.restartBlocks_zones] at he
    obtain ⟨z1, h1, he⟩ := Table.mem_update he
    obtain ⟨z, hz, h1⟩ := Table.mem_update h1
    obtain ⟨hmin, hblind, -, -, -, -⟩ := h _ hz
    rw [he]
    dsimp only at h1
    rw [h1]
    exact ⟨hmin, hblind, Nat.zero_le _, Nat.zero_le _, Nat.zero_le _, hmin⟩
  | reset pins => exact fun _ he => absurd he List.not_mem_nil
  | _ => exact frame (by decide)

/-! ### Targets and commanded speeds (R85, R88) -/

/-- R85: a target lies in 0-100 where the demands and the stack's levels do. -/
theorem State.targetOf_le {s : State} (h : s.demandsSound) {g : Fan} (hl : ∀ e ∈ g.stack, e.level ≤ 100) :
    s.targetOf g ≤ 100 := by
  have auto : s.autoTarget g.served ≤ 100 := by
    have key : ∀ (zs : List Zone) (m : Nat), m ≤ 100 → (∀ z ∈ zs, z.air.zoneDemand ≤ 100) →
        zs.foldl (fun m z => max m z.air.zoneDemand) m ≤ 100 := by
      intro zs
      induction zs with
      | nil => exact fun m hm _ => hm
      | cons z zs ih =>
        exact fun m hm hz => ih _ (Nat.max_le.2 ⟨hm, hz z List.mem_cons_self⟩) fun z' hz' => hz z' (List.mem_cons_of_mem _ hz')
    refine key _ 0 (Nat.zero_le _) fun z hz => ?_
    obtain ⟨k, -, hk⟩ := State.mem_zoneRecords.1 hz
    obtain ⟨-, -, -, -, -, hd⟩ := h _ (Table.mem_of_get hk)
    exact hd
  unfold State.targetOf
  split
  · exact Nat.le_refl _
  · split
    · exact auto
    · next e he => exact hl e (List.mem_of_getLast? he)

theorem State.retargeted_speed {s : State} (hd : s.demandsSound) {g : Fan} (h : g.speedSound) :
    (s.retargeted g).speedSound := by
  obtain ⟨hv, hi, ho, hl, _, hn, hr⟩ := h
  exact ⟨hv, hi, ho, hl, State.targetOf_le hd hl, hn, hr⟩

/-- A record whose group is not RUNNING stands still. -/
theorem Fan.speedSound.still {g g' : Fan} (h : g.speedSound) (hg : g' = { g with
    drives := g'.drives, state := g'.state, commanded := g'.commanded, grantedAt := g'.grantedAt, proof := g'.proof
    degraded := g'.degraded, faultCause := g'.faultCause }) (hs : g'.state ≠ .running) (hc : g'.commanded = 0) :
    g'.speedSound := by
  obtain ⟨hv, hi, ho, hl, ht, -, -⟩ := h
  unfold Fan.speedSound
  refine ⟨?_, ?_, ?_, ?_, ?_, fun _ => hc, fun h => absurd h hs⟩ <;> rw [hg] <;> assumption

theorem State.drivesJudged_speed (s : State) {g : Fan} (h : g.speedSound) : (s.drivesJudged g).speedSound := by
  rw [State.drivesJudged_eq]
  split
  · exact h.still rfl (by simp [Fan.faulted]) rfl
  · exact h

theorem State.granted_speed (s : State) {g : Fan} (h : g.speedSound) : (s.granted g).speedSound := by
  obtain ⟨hv, hi, ho, hl, ht, -, -⟩ := h
  refine ⟨hv, hi, ho, hl, ht, fun h => absurd rfl h, fun _ => ?_⟩
  simp only [State.granted]
  split <;> omega

theorem Fan.changed_speed {g : Fan} (h : g.speedSound) (zones : ZoneSet) (drives : List Nat) {st : FanSettings}
    (hst : st.sound) : (g.changed zones drives st).speedSound := by
  obtain ⟨hv, hi, ho, hl, ht, hn, hr⟩ := h
  obtain ⟨sv, si, so⟩ := hst
  refine ⟨sv, si, so, hl, ht, fun h => ?_, fun h => ?_⟩
  · have hstate : ¬(g.state = .running ∧ g.settings.vmin ≠ st.vmin) := fun h' => h h'.1
    simpa only [Fan.changed, if_neg hstate] using hn h
  · obtain ⟨h1, h2⟩ := hr h
    simp only [Fan.changed]
    have hs : g.state = .running := h
    by_cases hvm : g.settings.vmin = st.vmin
    · simp only [hs, hvm, ne_eq, not_true_eq_false, and_false, if_false]; omega
    · simp only [hs, hvm, ne_eq, not_false_eq_true, and_true, if_true]; omega

theorem stackWithFire_levels {stack : List Entry} {level : Nat} (h : ∀ e ∈ stack, e.level ≤ 100) (hl : level ≤ 100) :
    ∀ e ∈ stackWithFire stack level, e.level ≤ 100 := by
  intro e he
  unfold stackWithFire at he
  rcases List.mem_append.1 he with he | he
  · split at he
    · exact h e (List.mem_of_mem_drop he)
    · exact h e he
  · rw [List.mem_singleton.1 he]; exact hl

theorem Fan.fireLevel_le {g : Fan} (h : g.speedSound) (zone : Option Nat) : g.fireLevel zone ≤ 100 := by
  obtain ⟨-, hi, ho, -⟩ := h
  unfold Fan.fireLevel
  split
  · exact hi
  · exact ho

theorem State.withStack_speed {g : Fan} (h : g.speedSound) {stack : List Entry}
    (hl : ∀ e ∈ stack, e.level ≤ 100) : Fan.speedSound { g with stack := stack } := by
  obtain ⟨hv, hi, ho, _, ht, hn, hr⟩ := h
  exact ⟨hv, hi, ho, hl, ht, hn, hr⟩

theorem Fan.speedSound.levels {g : Fan} (h : g.speedSound) : ∀ e ∈ g.stack, e.level ≤ 100 := by
  obtain ⟨_, _, _, hl, _⟩ := h
  exact hl

theorem State.firePlaced_speed {s : State} (hd : s.demandsSound) {g : Fan} (h : g.speedSound) :
    (s.firePlaced g).speedSound :=
  State.retargeted_speed hd (State.withStack_speed h (stackWithFire_levels h.levels (g.fireLevel_le h _)))

theorem State.fireLeveled_speed {s : State} (hd : s.demandsSound) {g : Fan} (h : g.speedSound) :
    (s.fireLeveled g).speedSound := by
  refine State.retargeted_speed hd (State.withStack_speed h fun e he => ?_)
  obtain ⟨a, ha, rfl⟩ := List.mem_map.1 he
  split
  · exact g.fireLevel_le h _
  · exact h.levels a ha

theorem State.fireRemoved_speed {s : State} (hd : s.demandsSound) {g : Fan} (h : g.speedSound) :
    (s.fireRemoved g).speedSound :=
  State.retargeted_speed hd (State.withStack_speed h fun e he => h.levels e (List.mem_of_mem_filter he))

theorem Fan.fresh_speed (zones : ZoneSet) (drives : List Nat) {st : FanSettings} (h : st.sound) :
    (Fan.fresh zones drives st).speedSound := by
  obtain ⟨hv, hi, ho⟩ := h
  exact ⟨hv, hi, ho, fun _ he => absurd he List.not_mem_nil, Nat.zero_le _, fun _ => rfl, fun h => by simp [Fan.fresh] at h⟩

theorem Fan.restarted_speed {g : Fan} (h : g.speedSound) (fire : Option FireMonitor) : (g.restarted fire).speedSound := by
  obtain ⟨hv, hi, ho, _, ht, _, _⟩ := id h
  have hstill : (g.restarted fire).state ≠ .running := by
    unfold Fan.restarted
    dsimp only
    split <;> simp
  refine ⟨hv, hi, ho, ?_, ht, fun _ => rfl, fun hr => absurd hr hstill⟩
  cases fire with
  | none => exact fun _ he => absurd he List.not_mem_nil
  | some f => exact stackWithFire_levels (fun _ he => absurd he List.not_mem_nil) (g.fireLevel_le h _)

theorem State.restartJudged_speed {s : State} (hd : s.demandsSound) {g : Fan} (h : g.speedSound) :
    (s.restartJudged g).speedSound := by
  obtain ⟨hv, hi, ho, hl, _, hn, hr⟩ := h
  refine ⟨hv, hi, ho, hl, State.targetOf_le hd hl, fun hs => ?_, fun hs => ?_⟩
  · refine hn fun hrun => hs ?_
    simp [State.restartJudged, hrun]
  · refine hr ?_
    simp only [State.restartJudged] at hs
    split at hs
    · exact absurd hs (by decide)
    · exact hs

/-- Many groups, each changed once, with the zones as they are. -/
theorem State.forEach_speeds {op : Nat → State → State} (hz : ∀ n s, (op n s).zones = s.zones)
    (hop : ∀ n s, State.demandsSound s → (∀ e ∈ s.fans, e.2.speedSound) → ∀ e ∈ (op n s).fans, e.2.speedSound)
    (ns : List Nat) {s : State} (hd : s.demandsSound) (h : ∀ e ∈ s.fans, e.2.speedSound) :
    ∀ e ∈ (State.forEach op ns s).fans, e.2.speedSound := by
  induction ns generalizing s with
  | nil => exact h
  | cons n ns ih => exact ih (hd.stay (.of_eq (hz n s))) (hop n s hd h)

theorem State.Move.speeds {s t : State} {l : List Field} (m : State.Move s t l) (hd : s.demandsSound)
    (h : ∀ e ∈ s.fans, e.2.speedSound) : ∀ e ∈ t.fans, e.2.speedSound := by
  have frame : Field.fans ∉ l → ∀ e ∈ t.fans, e.2.speedSound := fun hf => by
    rw [show t.fans = s.fans from m.keeps .fans hf]; exact h
  have modify : ∀ {f : Fan → Fan} {group : Nat}, t.fans = Table.modify s.fans group f →
      (∀ g, g.speedSound → (f g).speedSound) → ∀ e ∈ t.fans, e.2.speedSound := fun hfans hf => by
    rw [hfans]
    exact Table.forall_modify (p := Fan.speedSound) h _ hf
  have written : ∀ {g : Fan} {group : Nat}, t.fans = Table.set s.fans group g → g.speedSound →
      ∀ e ∈ t.fans, e.2.speedSound := fun hfans hg => by
    rw [hfans]
    exact Table.forall_set (p := Fan.speedSound) h _ hg
  have hdt := m.demandsSound hd
  cases m with
  | evaluate zone =>
    cases hz : Table.get s.zones zone with
    | none => rw [State.evaluateZone_undefined hz]; exact h
    | some z =>
      rw [State.evaluateZone_fans hz]
      split
      · refine Table.forall_update (p := Fan.speedSound) h fun _ g hg => ?_
        split
        · exact State.retargeted_speed hdt hg
        · exact hg
      · exact h
  | report group f hf _ => exact modify (s.changeFan_fans group f) fun g hg => by rw [hf]; exact hg
  | judgeDrives group => exact modify (s.judgeDrives_fans group) fun g => s.drivesJudged_speed
  | isolate => exact modify (s.isolate_fans _ _) fun g hg => hg.still rfl (by simp [Fan.isolated]) rfl
  | @returnToService group g hget hst =>
    have hg : Fan.speedSound g := h _ (Table.mem_of_get hget)
    refine written (g := s.drivesJudged g.returned) (by rw [State.returnToService_fans, Table.modify_of_get hget]) ?_
    refine s.drivesJudged_speed (hg.still rfl (by simp [Fan.returned]) ?_)
    obtain ⟨-, -, -, -, -, hn, -⟩ := hg
    exact hn (by rcases hst with h | h <;> simp [h])
  | installFan zones drives st hg hz hd' hs =>
    refine written (s.installFan_fans _ _ _) (s.drivesJudged_speed ?_)
    unfold State.freshFan
    split
    · exact State.firePlaced_speed hd (Fan.fresh_speed _ _ hs)
    · exact State.retargeted_speed hd (Fan.fresh_speed _ _ hs)
  | @setFan group g zones drives st hget hz hd' hs =>
    have hg : Fan.speedSound g := h _ (Table.mem_of_get hget)
    obtain ⟨hv, hi, ho, -⟩ := id hg
    have h1 := Fan.changed_speed hg zones drives (hs ⟨hv, hi, ho⟩)
    refine written (s.changeFanWhole_fans _ _ _ _ _) ?_
    have h2 : (if zones = g.served then g.changed zones drives st else s.retargeted (g.changed zones drives st)).speedSound := by
      split
      · exact h1
      · exact State.retargeted_speed hd h1
    unfold State.reset98
    dsimp only
    generalize (if zones = g.served then g.changed zones drives st else s.retargeted (g.changed zones drives st)) = g2 at h2
    split
    · exact h2
    · exact s.drivesJudged_speed h2
  | @dropFan group g hget =>
    rw [State.availabilityNotice_fans]
    exact Table.forall_erase (p := Fan.speedSound) h group
  | @restack group g k hget hm =>
    have hg : Fan.speedSound g := h _ (Table.mem_of_get hget)
    have hfans : ((s.changeFan group (fun g => { g with stack := k g.stack })).retarget group).fans =
        Table.set s.fans group (s.retargeted { g with stack := k g.stack }) := by
      rw [State.retarget_fans, State.changeFan_fans, Table.modify_modify, Table.modify_of_get hget]
      rfl
    exact written hfans (State.retargeted_speed hd (State.withStack_speed hg (hm.levels hg.levels)))
  | retarget group => exact modify (s.retarget_fans group) fun _ => State.retargeted_speed hd
  | @joinQueue group g hget hst =>
    have hg : Fan.speedSound g := h _ (Table.mem_of_get hget)
    refine written (g := s.joined g) (by rw [State.joinQueue_fans, Table.modify_of_get hget]) ?_
    unfold State.joined
    split
    · exact s.granted_speed hg
    · obtain ⟨-, -, -, -, -, hn, -⟩ := id hg
      exact hg.still rfl (by simp) (hn (by simp [hst]))
  | quitQueue => exact modify (State.changeFan_fans _ _ _) fun _ => Fan.stopped_speed
  | @run group g f hget hst hm =>
    exact written (g := f g) (by rw [State.changeFan_fans, Table.modify_of_get hget])
      (hm.speed (h _ (Table.mem_of_get hget)))
  | grantHead => exact modify (State.grant_fans _ _) fun _ => s.granted_speed
  | enterFault c => exact modify (s.enterFault_fans _ _) fun g hg => hg.still rfl (by simp [Fan.faulted]) rfl
  | enterFire =>
    have hfans : s.enterFireMode.fans = (s.withFire s.fire.rise).placeFires.fans :=
      State.fireEffects_keeps _ true _ .fans (by decide)
    rw [hfans]
    refine State.forEach_speeds (fun n s => s.placeFire_zones n) (fun n u hu hg => ?_) _ (s := s.withFire s.fire.rise) hd h
    rw [State.placeFire_fans]
    exact Table.forall_modify (p := Fan.speedSound) hg n fun _ => State.firePlaced_speed hu
  | leaveFire =>
    have hfans : s.leaveFireMode.fans = (s.withFire s.fire.fall).removeFires.fans :=
      State.fireEffects_keeps _ false _ .fans (by decide)
    rw [hfans]
    refine State.forEach_speeds (fun n s => s.removeFire_keeps n .zones (by decide)) (fun n u hu hg => ?_) _
      (s := s.withFire s.fire.fall) hd h
    rw [State.removeFire_fans]
    exact Table.forall_modify (p := Fan.speedSound) hg n fun _ => State.fireRemoved_speed hu
  | moveFireZone zone _ =>
    refine State.forEach_speeds (fun n s => s.relevelFire_keeps n .zones (by decide)) (fun n u hu hg => ?_) _
      (s := s.withFire { s.fire with zone := some zone, pendingZone := none }) hd h
    rw [State.relevelFire_fans]
    exact Table.forall_modify (p := Fan.speedSound) hg n fun _ => State.fireLeveled_speed hu
  | restart =>
    rw [State.restartBlocks_fans]
    have hdr : s.restartRecords.demandsSound := by
      refine Table.forall_update (p := Zone.demandSound) hd fun _ z ⟨hmin, hblind, _⟩ => ?_
      exact ⟨hmin, hblind, Nat.zero_le _, Nat.zero_le _, Nat.zero_le _, hmin⟩
    refine Table.forall_update (p := Fan.speedSound) (Table.forall_update (p := Fan.speedSound) h fun _ g hg => ?_)
      fun _ g hg => ?_
    · exact Fan.restarted_speed hg _
    · exact State.restartJudged_speed hdr hg
  | reset pins => exact fun _ he => absurd he List.not_mem_nil
  | _ => exact frame (by decide)

/-! ### The target in FUME (R85) -/

/-- R85, of one group: where a served zone is in FUME, and its top entry is not FIRE, its target is 100. -/
def Fan.targetIn (s : State) (g : Fan) : Prop := s.fumeServed g.served = true → g.fireTop = false → g.target = 100

theorem State.fumeServed_iff {s : State} {m : ZoneSet} : s.fumeServed m = true ↔
    ∃ k z, m.getLsbD k = true ∧ Table.get s.zones k = some z ∧ z.air.fume = .fume := by
  simp only [State.fumeServed, List.any_eq_true, State.mem_zoneRecords, decide_eq_true_eq]
  exact ⟨fun ⟨z, ⟨k, hk, hz⟩, hf⟩ => ⟨k, z, hk, hz, hf⟩, fun ⟨k, z, hk, hz, hf⟩ => ⟨z, ⟨k, hk, hz⟩, hf⟩⟩

theorem Fan.fireTop_eq_false {g : Fan} : g.fireTop = false ↔ ∀ x, g.stack.getLast? = some x → x.cls ≠ .fire := by
  unfold Fan.fireTop Fan.top
  cases g.stack.getLast? <;> simp

def State.targetsOk (s : State) : Prop := ∀ e ∈ s.fans, e.2.targetIn s

theorem State.targetsOk_iff {s : State} : s.targetsOk ↔ s.targetsSound := by
  refine forall₂_congr fun e _ => ?_
  unfold Fan.targetIn
  rw [State.fumeServed_iff, Fan.fireTop_eq_false]
  exact ⟨fun h h1 h2 => h h2 h1, fun h h1 h2 => h h2 h1⟩

/-- A recomputed target is as R85 asks. -/
theorem State.retargeted_targetIn (s : State) (g : Fan) : (s.retargeted g).targetIn s := by
  intro hserved htop
  have h1 : s.fumeServed g.served = true := hserved
  have h2 : g.fireTop = false := htop
  simp [State.retargeted, State.targetOf, h1, h2]

theorem Fan.targetIn.congr {s t : State} {g g' : Fan} (h : g.targetIn s)
    (hz : t.fumeServed g.served = true → s.fumeServed g.served = true) (hserved : g'.served = g.served)
    (hstack : g'.stack = g.stack) (htarget : g'.target = g.target) : g'.targetIn t := by
  intro h1 h2
  rw [htarget]
  refine h (hz (hserved ▸ h1)) ?_
  rwa [Fan.fireTop, Fan.top, hstack] at h2

theorem State.fumeServed_congr {s t : State}
    (h : ∀ k, (Table.get t.zones k).map (fun z => z.air.fume) = (Table.get s.zones k).map (fun z => z.air.fume))
    (m : ZoneSet) : t.fumeServed m = s.fumeServed m := by
  have records : (t.zoneRecords m).map (fun z => z.air.fume) = (s.zoneRecords m).map (fun z => z.air.fume) := by
    simp only [State.zoneRecords, List.map_filterMap, h]
  have fume : ∀ zs : List Zone, zs.any (fun z => decide (z.air.fume = .fume)) =
      (zs.map (fun z => z.air.fume)).any (fun f => decide (f = .fume)) := fun zs => by
    simp [List.any_map, Function.comp_def]
  simp only [State.fumeServed, fume, records]

theorem State.Noticed.fume {s t : State} {m : ZoneSet} (h : s.Noticed t m) (k : Nat) :
    (Table.get t.zones k).map (fun z => z.air.fume) = (Table.get s.zones k).map (fun z => z.air.fume) :=
  h.stay.read (f := fun z => z.air.fume) (fun _ _ _ hz => by rw [hz]) k

theorem State.joined_served (s : State) (g : Fan) : (s.joined g).served = g.served := by rw [State.joined_only]
theorem State.joined_target (s : State) (g : Fan) : (s.joined g).target = g.target := by rw [State.joined_only]

theorem State.reset98_targetIn {s : State} {g : Fan} (h : g.targetIn s) (zones : ZoneSet) (drives : List Nat)
    (st : FanSettings) : (s.reset98 g zones drives st).targetIn s := by
  have h2 : Fan.targetIn s (if zones = g.served then g.changed zones drives st else s.retargeted (g.changed zones drives st)) := by
    split
    · next hz => exact h.congr id hz rfl rfl
    · exact s.retargeted_targetIn _
  unfold State.reset98
  dsimp only
  generalize (if zones = g.served then g.changed zones drives st else s.retargeted (g.changed zones drives st)) = g2 at h2
  split
  · exact h2
  · exact h2.congr id (by simp) (by simp) (by simp)

theorem State.Move.targets {s t : State} {l : List Field} (m : State.Move s t l) (hs : s.tablesSound)
    (h : s.targetsOk) : t.targetsOk := by
  have sameFans : t.fans = s.fans → (∀ m, t.fumeServed m = true → s.fumeServed m = true) → t.targetsOk :=
    fun hf hz e he => by
      rw [hf] at he
      exact Fan.targetIn.congr (h e he) (hz _) rfl rfl rfl
  have fumes : (∀ k, (Table.get t.zones k).map (fun z => z.air.fume) = (Table.get s.zones k).map (fun z => z.air.fume)) →
      ∀ m, t.fumeServed m = true → s.fumeServed m = true := fun hz m => by rw [State.fumeServed_congr hz]; exact id
  have sameZones : Field.zones ∉ l → ∀ m, t.fumeServed m = true → s.fumeServed m = true := fun hz =>
    fumes fun k => by rw [show t.zones = s.zones from m.keeps .zones hz]
  have frame : Field.fans ∉ l → Field.zones ∉ l → t.targetsOk := fun hf hz => sameFans (m.keeps .fans hf) (sameZones hz)
  have moved : ∀ {R : Nat → Zone → Zone → Prop}, Table.Moves R s.zones t.zones →
      (∀ k z z', R k z z' → z'.air.fume = z.air.fume) → Field.fans ∉ l → t.targetsOk := fun hm hR hf =>
    sameFans (m.keeps .fans hf) (fumes (hm.read hR))
  have modify : ∀ {f : Fan → Fan} {group : Nat}, t.fans = Table.modify s.fans group f →
      (∀ m, t.fumeServed m = true → s.fumeServed m = true) → (∀ g, g.targetIn s → (f g).targetIn s) → t.targetsOk :=
    fun {f group} hf hz hall e he => by
      rw [hf] at he
      have := Table.forall_modify (p := Fan.targetIn s) h group hall e he
      exact Fan.targetIn.congr this (hz _) rfl rfl rfl
  have written : ∀ {g : Fan} {group : Nat}, t.fans = Table.set s.fans group g →
      (∀ m, t.fumeServed m = true → s.fumeServed m = true) → g.targetIn s → t.targetsOk :=
    fun {g group} hf hz hg e he => by
      rw [hf] at he
      have := Table.forall_set (p := Fan.targetIn s) h group hg e he
      exact Fan.targetIn.congr this (hz _) rfl rfl rfl
  have read : ∀ {f : Fan → Fan} {u : State}, u.zones = s.zones →
      (∀ k, Table.get t.fans k = (Table.get s.fans k).map f) → t.tablesSound → (∀ g, (f g).targetIn u) →
      (∀ m, t.fumeServed m = true → s.fumeServed m = true) → t.targetsOk := fun hu hf ht hall hz e he => by
    have hg := Table.get_of_mem ht.fans.1 (k := e.1) (a := e.2) he
    rw [hf, Option.map_eq_some_iff] at hg
    obtain ⟨g, -, hg⟩ := hg
    rw [← hg]
    refine Fan.targetIn.congr (hall g) (fun hm => ?_) rfl rfl rfl
    rw [State.fumeServed_congr (s := s) fun k => by rw [hu]]
    exact hz _ hm
  have ht := m.tablesSound hs
  cases m with
  | putBay b => exact moved (s.putBay_moves _ b) (fun _ _ _ hr => by rw [hr]) (by decide)
  | newBay b => exact moved (s.recountIn_moves _ _ _) (fun _ _ _ hr => by rw [hr]) (by decide)
  | dropBay => exact moved (s.recountIn_moves _ _ _) (fun _ _ _ hr => by rw [hr]) (by decide)
  | credit zone arrival =>
    exact moved (State.addCredit_moves (R := fun _ z z' => z'.air.fume = z.air.fume) (fun _ _ => rfl) zone arrival
      fun _ _ => rfl) (fun _ _ _ hr => hr) (by decide)
  | operatorCause zone present =>
    exact moved (s.changeCauses_stay _ _) (fun _ _ _ hr => by rw [hr]) (by decide)
  | @newZone zone level st hnone hz hc =>
    refine sameFans rfl fun m hm => ?_
    obtain ⟨k, z, hk, hget, hf⟩ := State.fumeServed_iff.1 hm
    rw [State.withZones_zones] at hget
    by_cases hkz : k = zone
    · rw [hkz, Table.get_set, Option.some.injEq] at hget
      rw [← hget] at hf
      simp [Zone.fresh, AirState.start] at hf
    · rw [Table.get_set_ne _ _ hkz] at hget
      exact State.fumeServed_iff.2 ⟨k, z, hk, hget, hf⟩
  | @setZone zone z level st hget hc =>
    refine moved (State.setZone_moves (R := fun _ z z' => z'.air.fume = z.air.fume) hget (fun _ _ => rfl) ?_)
      (fun _ _ _ hr => hr) (by decide)
    exact (z.withSettings_calm level st).fume
  | dropZone zone =>
    refine sameFans rfl fun m hm => ?_
    obtain ⟨k, z, hk, hget, hf⟩ := State.fumeServed_iff.1 hm
    refine State.fumeServed_iff.2 ⟨k, z, hk, ?_, hf⟩
    have hget : Table.get (Table.erase s.zones zone) k = some z := hget
    have hkz : k ≠ zone := fun hkz => by
      rw [hkz, Table.get_erase_self hs.zones.1] at hget
      simp at hget
    rwa [Table.get_erase_ne _ hkz] at hget
  | evaluate zone =>
    cases hz : Table.get s.zones zone with
    | none => rw [State.evaluateZone_undefined hz]; exact h
    | some z =>
      have hread := State.evaluateZone_get hz
      have hfans := State.evaluateZone_fans hz
      have other : ∀ k z', k ≠ zone → Table.get (s.evaluateZone zone).zones k = some z' → Table.get s.zones k = some z' :=
        fun k z' hk hz' => by rwa [hread, if_neg hk] at hz'
      have same : z.air.fume = (s.airStep zone z).air.fume ∨ (s.airStep zone z).air.fume ≠ .fume →
          ∀ m, (s.evaluateZone zone).fumeServed m = true → s.fumeServed m = true := fun hc m hm => by
        obtain ⟨k, z', hk, hz', hf⟩ := State.fumeServed_iff.1 hm
        by_cases hkz : k = zone
        · rw [hread, if_pos hkz, Option.some.injEq] at hz'
          rw [← hz', State.airZone_air] at hf
          rcases hc with hc | hc
          · exact State.fumeServed_iff.2 ⟨k, z, hk, hkz ▸ hz, hc.trans hf⟩
          · exact absurd hf hc
        · exact State.fumeServed_iff.2 ⟨k, z', hk, other k z' hkz hz', hf⟩
      intro e he
      rw [hfans] at he
      split at he
      · obtain ⟨g, hg, heg⟩ := Table.mem_update he
        rw [heg]
        split
        · exact State.retargeted_targetIn _ _
        · next hserved =>
          refine Fan.targetIn.congr (h _ hg) (fun hm => ?_) rfl rfl rfl
          obtain ⟨k, z', hk, hz', hf⟩ := State.fumeServed_iff.1 hm
          have hkz : k ≠ zone := fun hkz => hserved (hkz ▸ hk)
          exact State.fumeServed_iff.2 ⟨k, z', hk, other k z' hkz hz', hf⟩
      · next hcond =>
        refine Fan.targetIn.congr (h e he) (same ?_ _) rfl rfl rfl
        by_contra hc
        simp only [not_or, not_not] at hc
        exact hcond ⟨hc.1, .inr hc.2⟩
  | report group f hf hd =>
    exact modify (s.changeFan_fans group f) (sameZones (by decide)) fun g hg => by
      rw [hf]; exact hg.congr id rfl rfl rfl
  | judgeDrives group =>
    exact modify (s.judgeDrives_fans group) (fumes (s.judgeDrives_noticed group).fume) fun g hg =>
      hg.congr id (by simp) (by simp) (by simp)
  | isolate =>
    exact modify (s.isolate_fans _ _) (fumes (s.isolate_noticed _ _).fume) fun g hg => hg.congr id rfl rfl rfl
  | @returnToService group g =>
    obtain ⟨m, hm⟩ := s.returnToService_noticed group g
    exact modify (s.returnToService_fans _ _) (fumes hm.fume) fun g hg =>
      hg.congr id (by simp [Fan.returned]) (by simp [Fan.returned]) (by simp [Fan.returned])
  | @installFan group zones drives st =>
    obtain ⟨m, hm⟩ := s.installFan_noticed group (Fan.fresh zones drives st) (s.fanZones group ||| zones)
    refine written (s.installFan_fans _ _ _) (fumes hm.fume) ?_
    have h1 : (s.freshFan (Fan.fresh zones drives st)).targetIn s := by
      unfold State.freshFan
      split <;> exact s.retargeted_targetIn _
    exact h1.congr id (by simp) (by simp) (by simp)
  | @setFan group g zones drives st hget =>
    obtain ⟨m, hm⟩ := s.changeFanWhole_noticed group g zones drives st
    exact written (s.changeFanWhole_fans _ _ _ _ _) (fumes hm.fume)
      (State.reset98_targetIn (h _ (Table.mem_of_get hget)) zones drives st)
  | @dropFan group g =>
    have hn := State.noticed_availabilityNotice (s := s) (u := s.removeFan group) rfl g.served
    intro e he
    rw [State.availabilityNotice_fans] at he
    exact Fan.targetIn.congr (h e (Table.mem_erase he)) (fumes hn.fume _) rfl rfl rfl
  | @restack group g k hget hm =>
    have hfans : ((s.changeFan group (fun g => { g with stack := k g.stack })).retarget group).fans =
        Table.set s.fans group (s.retargeted { g with stack := k g.stack }) := by
      rw [State.retarget_fans, State.changeFan_fans, Table.modify_modify, Table.modify_of_get hget]
      rfl
    exact written hfans (sameZones (by decide)) (s.retargeted_targetIn _)
  | retarget group => exact modify (s.retarget_fans group) (sameZones (by decide)) fun g _ => s.retargeted_targetIn g
  | joinQueue =>
    exact modify (s.joinQueue_fans _) (sameZones (by decide)) fun g hg =>
      hg.congr id (s.joined_served g) (s.joined_stack g) (s.joined_target g)
  | quitQueue => exact modify (State.changeFan_fans _ _ _) (sameZones (by decide)) fun g hg => hg.congr id rfl rfl rfl
  | @run group g f hget hst hm =>
    refine written (g := f g) (by rw [State.changeFan_fans, Table.modify_of_get hget]) (sameZones (by decide)) ?_
    refine Fan.targetIn.congr (h _ (Table.mem_of_get hget)) id ?_ ?_ ?_ <;> rw [hm.only]
  | grantHead => exact modify (State.grant_fans _ _) (sameZones (by decide)) fun g hg => hg.congr id rfl rfl rfl
  | enterFault c hget =>
    exact modify (s.enterFault_fans _ _) (fumes (s.enterFault_noticed hget c).fume) fun g hg => hg.congr id rfl rfl rfl
  | enterFire =>
    have hfans : s.enterFireMode.fans = (s.withFire s.fire.rise).placeFires.fans :=
      State.fireEffects_keeps _ true _ .fans (by decide)
    refine read (f := (s.withFire s.fire.rise).firePlaced) (u := s.withFire s.fire.rise) rfl (fun k => ?_) ht
      (fun g => State.retargeted_targetIn _ _) (fumes fun k => ?_)
    · rw [hfans, State.placeFires_get (s := s.withFire s.fire.rise) (Table.keys_nodup hs.fans.1)]; rfl
    · rw [State.enterFireMode_zones, Option.map_map]; rfl
  | leaveFire =>
    have hfans : s.leaveFireMode.fans = (s.withFire s.fire.fall).removeFires.fans :=
      State.fireEffects_keeps _ false _ .fans (by decide)
    refine read (f := (s.withFire s.fire.fall).fireRemoved) (u := s.withFire s.fire.fall) rfl (fun k => ?_) ht
      (fun g => State.retargeted_targetIn _ _) (fumes fun k => ?_)
    · rw [hfans, State.removeFires_get (s := s.withFire s.fire.fall) (Table.keys_nodup hs.fans.1)]; rfl
    · rw [State.leaveFireMode_zones, Option.map_map]; rfl
  | moveFireZone zone _ =>
    refine read (f := (s.withFire { s.fire with zone := some zone, pendingZone := none }).fireLeveled)
      (u := s.withFire { s.fire with zone := some zone, pendingZone := none }) rfl (fun k => ?_) ht
      (fun g => State.retargeted_targetIn _ _) (sameZones (by decide))
    exact State.relevelFires_get (s := s.withFire { s.fire with zone := some zone, pendingZone := none })
      (Table.keys_nodup hs.fans.1) k
  | restart =>
    intro e he hserved
    obtain ⟨k, z', -, hz', hf⟩ := State.fumeServed_iff.1 hserved
    rw [State.restartBlocks_zones_get, Option.map_eq_some_iff] at hz'
    obtain ⟨z, -, rfl⟩ := hz'
    simp [State.restartedZone, Zone.restarted, Zone.judged, AirState.start] at hf
  | reset pins => exact fun _ he => absurd he List.not_mem_nil
  | _ => exact frame (by decide) (by decide)

/-- Settles O56: every move keeps the stacks, the speeds with the demands they follow, and the targets in FUME. -/
theorem stacksAndSpeedsStaySound : Obligations.StacksAndSpeedsStaySound := by
  refine ⟨fun s t hs h hstep => ?_, fun s t h hstep => ?_, fun s t hs h hstep => ?_⟩
  · exact (step_keeps (P := fun s => s.tablesSound ∧ s.stacksSound)
      (fun _ _ _ m h => ⟨m.tablesSound h.1, m.stacksSound h.1 h.2⟩) ⟨hs, h⟩ hstep).2
  · exact step_keeps (P := State.speedsSound) (fun _ _ _ m h => ⟨m.demandsSound h.1, m.speeds h.1 h.2⟩) h hstep
  · exact State.targetsOk_iff.1 (step_keeps (P := fun s => s.tablesSound ∧ s.targetsOk)
      (fun _ _ _ m h => ⟨m.tablesSound h.1, m.targets h.1 h.2⟩) ⟨hs, State.targetsOk_iff.2 h⟩ hstep).2

end Sys2Proof.Machine

/-! ## Proofs: the queue and the air status follow the groups (R69, R70, R92) -/

namespace Sys2Proof.Machine

/-! ### The queue holds the waiters (R92) -/

/-- A change that moves no group into or out of WAITING and leaves the queue's members. -/
theorem State.queueSound.congr {s t : State} (h : s.queueSound) (hnodup : t.queue.Nodup)
    (hmem : ∀ n, n ∈ t.queue ↔ n ∈ s.queue)
    (hw : ∀ n, (Table.get t.fans n).any (fun g => decide (g.state = .waiting)) =
      (Table.get s.fans n).any (fun g => decide (g.state = .waiting))) : t.queueSound := by
  have waits : ∀ (u : State) (n : Nat), (∃ g, Table.get u.fans n = some g ∧ g.state = .waiting) ↔
      (Table.get u.fans n).any (fun g => decide (g.state = .waiting)) = true := fun u n => by
    simp [Option.any_eq_true]
  refine ⟨hnodup, fun n => ?_⟩
  rw [hmem, h.2 n, waits, waits, hw]

/-- A group that leaves the queue and is WAITING no longer. -/
theorem State.queueSound.leaves {s t : State} (h : s.queueSound) {group : Nat}
    (hq : t.queue = s.queue.filter (fun n => decide (n ≠ group)))
    (hg : ∀ g, Table.get t.fans group = some g → g.state ≠ .waiting)
    (hw : ∀ n, n ≠ group → Table.get t.fans n = Table.get s.fans n) : t.queueSound := by
  refine ⟨hq ▸ h.1.filter _, fun n => ?_⟩
  rw [hq, List.mem_filter, h.2 n, decide_eq_true_eq]
  by_cases hn : n = group
  · subst hn
    simp only [ne_eq, not_true_eq_false, and_false, false_iff, not_exists, not_and]
    exact hg
  · rw [hw n hn]
    simp [hn]

theorem State.queueSound.changeFan {s : State} (h : s.queueSound) {group : Nat} {f : Fan → Fan}
    (hf : ∀ g, Table.get s.fans group = some g → ((f g).state = .waiting ↔ g.state = .waiting)) :
    (s.changeFan group f).queueSound := by
  refine h.congr h.1 (fun _ => Iff.rfl) fun n => ?_
  rw [State.changeFan_read, Option.any_map]
  by_cases hn : n = group
  · subst hn
    cases hg : Table.get s.fans n with
    | none => rfl
    | some g => simp [hf g hg]
  · simp [hn]

theorem State.queueSound.frame {s t : State} (h : s.queueSound) (hf : t.fans = s.fans) (hq : t.queue = s.queue) :
    t.queueSound := by
  unfold State.queueSound
  rw [hf, hq]
  exact h

theorem State.queueSound.enterFault {s : State} (h : s.queueSound) (group : Nat) (c : FaultCause) :
    (s.enterFault group c).queueSound := by
  cases hg : Table.get s.fans group with
  | none => simpa [State.enterFault, hg] using h
  | some g =>
    refine h.leaves (s.enterFault_queue hg c) (fun g' hg' => ?_) fun n hn => ?_
    · rw [State.enterFault_fans, Table.get_modify, hg, Option.map_some, Option.some.injEq] at hg'
      rw [← hg']
      simp [Fan.faulted]
    · rw [State.enterFault_fans, Table.get_modify_ne _ _ hn]

theorem State.queueSound.judgeDrives {s : State} (h : s.queueSound) (group : Nat) : (s.judgeDrives group).queueSound := by
  cases hg : Table.get s.fans group with
  | none => simpa [State.judgeDrives, hg] using h
  | some g =>
    have h1 : ∀ f : Fan → Bool, (s.changeFan group (fun g => { g with degraded := f g })).queueSound := fun f =>
      h.changeFan fun _ _ => Iff.rfl
    rw [State.judgeDrives_eq hg]
    split
    · exact (h1 fun _ => false).enterFault group _
    · split
      · exact (h1 s.degrades).frame rfl rfl
      · exact h1 s.degrades

theorem State.queueSound.availabilityNotice {s : State} (h : s.queueSound) (m : ZoneSet) :
    (s.availabilityNotice m).queueSound :=
  h.frame (s.availabilityNotice_fans m) (s.availabilityNotice_queue m)

theorem State.queueSound.isolate {s : State} (h : s.queueSound) (group : Nat) (g : Fan) :
    (s.isolate group g).queueSound := by
  refine h.leaves (s.isolate_queue group g) (fun g' hg' => ?_) fun n hn => ?_
  · rw [State.isolate_fans, Table.get_modify, Option.map_eq_some_iff] at hg'
    obtain ⟨a, -, rfl⟩ := hg'
    simp [Fan.isolated]
  · rw [State.isolate_fans, Table.get_modify_ne _ _ hn]

theorem State.queueSound.returnToService {s : State} (h : s.queueSound) {group : Nat} {g : Fan}
    (hg : Table.get s.fans group = some g) (hst : g.state = .isolated ∨ g.state = .fault) :
    (s.returnToService group g).queueSound := by
  have h1 : ((s.changeFan group Fan.returned).judgeDrives group).queueSound := by
    refine (h.changeFan fun g' hg' => ?_).judgeDrives group
    obtain rfl : g = g' := Option.some.inj (hg.symm.trans hg')
    rcases hst with hst | hst <;> simp [Fan.returned, hst]
  unfold State.returnToService
  dsimp only
  split
  · exact h1.availabilityNotice _
  · exact h1

/-- A member put among the waiters behind those whose top entry is FIRE. -/
theorem insertFire_perm (isFire : Nat → Bool) (group : Nat) (q : List Nat) :
    (insertFire isFire group q).Perm (group :: q) := by
  induction q with
  | nil => exact .refl _
  | cons n q ih =>
    unfold insertFire
    split
    · exact (ih.cons n).trans (.swap group n q)
    · exact .refl _

theorem State.enqueue_perm (s : State) (group : Nat) : (s.enqueue group).queue.Perm (group :: s.queue) := by
  unfold State.enqueue
  split
  · exact insertFire_perm _ _ _
  · exact List.perm_append_comm

theorem State.moveForward_perm {s : State} {group : Nat} (h : s.queue.Nodup) (hg : group ∈ s.queue) :
    (s.moveForward group).queue.Perm s.queue := by
  refine (insertFire_perm _ _ _).trans ?_
  have : s.queue.filter (fun n => decide (n ≠ group)) = s.queue.erase group := by
    rw [h.erase_eq_filter]
    exact List.filter_congr fun n _ => by by_cases hn : n = group <;> simp [hn]
  show (group :: s.queue.filter (fun n => decide (n ≠ group))).Perm s.queue
  rw [this]
  exact (List.perm_cons_erase hg).symm

theorem State.queueSound.perm {s t : State} (h : s.queueSound) (hq : t.queue.Perm s.queue)
    (hw : ∀ n, (Table.get t.fans n).any (fun g => decide (g.state = .waiting)) =
      (Table.get s.fans n).any (fun g => decide (g.state = .waiting))) : t.queueSound :=
  h.congr (hq.symm.nodup h.1) (fun _ => hq.mem_iff) hw

theorem State.queueSound.placeFire {s : State} (h : s.queueSound) (group : Nat) : (s.placeFire group).queueSound := by
  have waits : ∀ n, (Table.get (s.placeFire group).fans n).any (fun g => decide (g.state = .waiting)) =
      (Table.get s.fans n).any (fun g => decide (g.state = .waiting)) := fun n => by
    rw [State.placeFire_fans, Table.get_modify_eq, Option.any_map]
    congr 1
    funext g
    by_cases hn : n = group <;> simp [hn, State.firePlaced, State.retargeted]
  refine h.perm ?_ waits
  unfold State.placeFire
  split
  · exact .refl _
  · next g hg =>
    dsimp only
    have hq : ∀ (u : State) (b : Prop) [Decidable b] (r : Reason), (if b then u.raise .fan group r else u).queue = u.queue :=
      fun u b _ r => by split <;> rfl
    split
    · next hst =>
      have hmem : group ∈ s.queue := (h.2 group).2 ⟨g, hg, hst⟩
      generalize hu : (if g.state = FanState.isolated then _ else _ : State) = u
      have hqu : u.queue = s.queue := by rw [← hu, hq, hq]; rfl
      rw [← hqu] at hmem ⊢
      exact State.moveForward_perm (hqu ▸ h.1) hmem
    · rw [hq, hq]
      exact .refl _

theorem State.queueSound.forEach {op : Nat → State → State} (hop : ∀ n {s : State}, s.queueSound → (op n s).queueSound)
    (ns : List Nat) {s : State} (h : s.queueSound) : (State.forEach op ns s).queueSound := by
  induction ns generalizing s with
  | nil => exact h
  | cons n ns ih => exact ih (hop n h)

theorem State.queueSound.removeFan {s : State} (h : s.queueSound) (hs : s.tablesSound) (group : Nat) :
    (s.removeFan group).queueSound := by
  refine h.leaves rfl (fun g hg => ?_) fun n hn => Table.get_erase_ne _ hn
  have hg : Table.get (Table.erase s.fans group) group = some g := hg
  rw [Table.get_erase_self hs.fans.1] at hg
  simp at hg

theorem State.queueSound.installFan {s : State} (h : s.queueSound) {group : Nat} {g : Fan} (hg : g.state = .stopped)
    (m : ZoneSet) : (s.installFan group g m).queueSound := by
  have h1 : ((s.removeFan group).withFans (Table.set s.fans group g)).queueSound := by
    refine h.leaves rfl (fun g' hg' => ?_) fun n hn => ?_
    · rw [State.withFans_fans, Table.get_set, Option.some.injEq] at hg'
      rw [← hg', hg]
      simp
    · rw [State.withFans_fans, Table.get_set_ne _ _ hn]
  unfold State.installFan
  dsimp only
  refine State.queueSound.availabilityNotice (State.queueSound.judgeDrives ?_ group) m
  refine State.queueSound.changeFan ?_ fun _ _ => Iff.rfl
  split
  · exact h1.placeFire group
  · exact h1

theorem State.queueSound.changeFanWhole {s : State} (h : s.queueSound) {group : Nat} {g : Fan}
    (hg : Table.get s.fans group = some g) (zones : ZoneSet) (drives : List Nat) (st : FanSettings) :
    (s.changeFanWhole group g zones drives st).queueSound := by
  have h1 : (s.withFans (Table.set s.fans group (g.changed zones drives st))).queueSound := by
    have := h.changeFan (group := group) (f := fun g => g.changed zones drives st) fun _ _ => Iff.rfl
    rwa [State.changeFan, Table.modify_of_get hg] at this
  unfold State.changeFanWhole
  dsimp only
  generalize hu : (if zones = g.served then s.withFans (Table.set s.fans group (g.changed zones drives st))
    else (s.withFans (Table.set s.fans group (g.changed zones drives st))).retarget group) = u
  have h2 : u.queueSound := by
    rw [← hu]
    split
    · exact h1
    · exact h1.changeFan fun _ _ => Iff.rfl
  have h3 : (if drives = g.drives.map (fun d => d.node) then u else u.judgeDrives group).queueSound := by
    split
    · exact h2
    · exact h2.judgeDrives group
  split
  · exact h3
  · exact h3.availabilityNotice _

theorem State.queueSound.grant {s : State} (h : s.queueSound) (group : Nat) : (s.grant group).queueSound := by
  refine h.leaves rfl (fun g hg => ?_) fun n hn => ?_
  · rw [State.grant_fans, Table.get_modify, Option.map_eq_some_iff] at hg
    obtain ⟨a, -, rfl⟩ := hg
    simp [State.granted]
  · rw [State.grant_fans, Table.get_modify_ne _ _ hn]

theorem State.queueSound.joinQueue {s : State} (h : s.queueSound) {group : Nat} {g : Fan}
    (hg : Table.get s.fans group = some g) (hst : g.state = .stopped) : (s.joinQueue group).queueSound := by
  have hout : group ∉ s.queue := fun hm => by
    obtain ⟨g', hg', hw⟩ := (h.2 group).1 hm
    obtain rfl : g = g' := Option.some.inj (hg.symm.trans hg')
    exact absurd (hst.symm.trans hw) (by decide)
  have hother : ∀ n, n ≠ group → Table.get (s.joinQueue group).fans n = Table.get s.fans n := fun n hn => by
    rw [State.joinQueue_fans, Table.get_modify_ne _ _ hn]
  have hself : Table.get (s.joinQueue group).fans group = some (s.joined g) := by
    rw [State.joinQueue_fans, Table.get_modify, hg, Option.map_some]
  cases hslot : s.slot with
  | none =>
    have hq : (s.joinQueue group).queue = s.queue.filter (fun n => decide (n ≠ group)) := by
      unfold State.joinQueue
      rw [hslot]
      rfl
    refine h.leaves hq (fun g' hg' => ?_) hother
    rw [hself, Option.some.injEq] at hg'
    rw [← hg']
    simp [State.joined, hslot, State.granted]
  | some due =>
    have hq : (s.joinQueue group).queue.Perm (group :: s.queue) := by
      unfold State.joinQueue
      rw [hslot]
      exact State.enqueue_perm (s.changeFan group (fun g => { g with state := .waiting })) group
    refine ⟨hq.symm.nodup (List.nodup_cons.2 ⟨hout, h.1⟩), fun n => ?_⟩
    rw [hq.mem_iff, List.mem_cons, h.2 n]
    by_cases hn : n = group
    · subst hn
      simp [hself, State.joined, hslot]
    · simp [hother n hn, hn]

theorem State.queueSound.retarget {s : State} (h : s.queueSound) (group : Nat) : (s.retarget group).queueSound := by
  refine h.changeFan ?_
  exact fun _ _ => Iff.rfl

theorem State.queueSound.withStack {s : State} (h : s.queueSound) (group : Nat) (f : Fan → List Entry) :
    (s.changeFan group (fun g => { g with stack := f g })).queueSound :=
  h.changeFan fun _ _ => Iff.rfl

theorem State.restartBlocks_queue (s : State) : s.restartBlocks.queue = [] := by
  have h1 : ∀ u : State, u.restartPorts.queue = u.queue := fun u => u.restartPorts_keeps .queue (by decide)
  have h2 : ∀ u : State, u.restartOutputs.queue = u.queue := fun _ => rfl
  have h3 : ∀ u : State, u.restartAir.queue = u.queue := fun _ => rfl
  rw [State.restartBlocks, h1, h2, h3]
  rfl

/-- R102: no group waits after RESTART. -/
theorem State.restartJudged_state (s : State) (g : Fan) (fire : Option FireMonitor) :
    (s.restartJudged (g.restarted fire)).state = .fault ∨
      (s.restartJudged (g.restarted fire)).state = if g.state = .isolated then .isolated else .stopped := by
  unfold State.restartJudged
  dsimp only
  split
  · exact .inl rfl
  · exact .inr rfl

theorem State.Move.queueSound {s t : State} {l : List Field} (m : State.Move s t l) (hs : s.tablesSound)
    (h : s.queueSound) : t.queueSound := by
  have frame : Field.fans ∉ l → Field.queue ∉ l → t.queueSound := fun hf hq => h.frame (m.keeps .fans hf) (m.keeps .queue hq)
  cases m with
  | evaluate zone =>
    cases hz : Table.get s.zones zone with
    | none => rw [State.evaluateZone_undefined hz]; exact h
    | some z =>
      refine h.congr ?_ (fun n => ?_) fun n => ?_
      · rw [show (s.evaluateZone zone).queue = s.queue from s.evaluateZone_keeps zone .queue (by decide)]
        exact h.1
      · rw [show (s.evaluateZone zone).queue = s.queue from s.evaluateZone_keeps zone .queue (by decide)]
      · rw [State.evaluateZone_fans hz]
        split
        · rw [Table.get_update, Option.any_map]
          congr 1
          funext g
          show decide ((if _ then _ else _ : Fan).state = _) = _
          split <;> rfl
        · rfl
  | report group f hf hd => exact h.changeFan fun g _ => by rw [hf]
  | judgeDrives group => exact h.judgeDrives group
  | isolate => exact h.isolate _ _
  | returnToService hget hst => exact h.returnToService hget hst
  | installFan => exact h.installFan rfl _
  | setFan zones drives st hget => exact h.changeFanWhole hget zones drives st
  | dropFan => exact (h.removeFan hs _).availabilityNotice _
  | restack k hget hm =>
    exact (h.withStack _ fun g => k g.stack).retarget _
  | retarget group => exact h.retarget group
  | joinQueue hget hst => exact h.joinQueue hget hst
  | @quitQueue group g hget hst =>
    refine h.leaves rfl (fun g' hg' => ?_) fun n hn => ?_
    · rw [State.changeFan_fans, Table.get_modify, Option.map_eq_some_iff] at hg'
      obtain ⟨a, -, rfl⟩ := hg'
      simp [Fan.stopped]
    · rw [State.changeFan_fans, Table.get_modify_ne _ _ hn]
      rfl
  | @run group g f hget hst hm =>
    refine h.changeFan fun g' hg' => ?_
    obtain rfl : g = g' := Option.some.inj (hget.symm.trans hg')
    rcases hm.state with h' | h' <;> simp [h', hst]
  | grantHead => exact (h.grant _).frame rfl rfl
  | enterFault c => exact h.enterFault _ c
  | enterFire =>
    have h1 : (s.withFire s.fire.rise).placeFires.queueSound :=
      State.queueSound.forEach (fun n _ h => h.placeFire n) _ (s := s.withFire s.fire.rise) (h.frame rfl rfl)
    exact h1.frame (State.fireEffects_keeps _ true _ .fans (by decide)) (State.fireEffects_keeps _ true _ .queue (by decide))
  | leaveFire =>
    have h1 : (s.withFire s.fire.fall).removeFires.queueSound :=
      State.queueSound.forEach (fun n _ h => (h.withStack n _).retarget n) _
        (s := s.withFire s.fire.fall) (h.frame rfl rfl)
    exact h1.frame (State.fireEffects_keeps _ false _ .fans (by decide)) (State.fireEffects_keeps _ false _ .queue (by decide))
  | moveFireZone zone _ =>
    have h1 : (s.withFire { s.fire with zone := some zone, pendingZone := none }).relevelFires.queueSound :=
      State.queueSound.forEach (fun n _ h => (h.withStack n _).retarget n) _
        (h.frame rfl rfl)
    exact h1.frame rfl rfl
  | restart =>
    refine ⟨by rw [State.restartBlocks_queue]; exact .nil, fun n => ?_⟩
    rw [State.restartBlocks_queue, State.restartBlocks_fans, Table.get_update, Table.get_update]
    simp only [List.not_mem_nil, false_iff, not_exists, not_and, Option.map_map, Option.map_eq_some_iff]
    rintro _ ⟨g, -, rfl⟩
    rcases s.restartRecords.restartJudged_state g (if s.fireActive then some s.fire else none) with hst | hst
    · simp [hst]
    · simp only [Function.comp_apply, hst]; split <;> simp
  | reset pins => exact ⟨.nil, fun n => by simp [State.fullReset, State.fresh, Table.get]⟩
  | _ => exact frame (by decide) (by decide)

/-! ### FIRE ahead (R92) -/

/-- R81, R104: with a sound stack the top entry is FIRE exactly in fire mode. -/
theorem stackSound.fireTop {fire : Bool} {g : Fan} (h : stackSound fire g.stack) : g.fireTop = fire := by
  obtain ⟨-, hrise, hfire, -⟩ := h
  cases fire with
  | false =>
    have hnone := List.length_eq_zero_iff.1 hfire
    refine Fan.fireTop_eq_false.2 fun x hx hc => ?_
    have := List.filter_eq_nil_iff.1 hnone x (List.mem_of_getLast? hx)
    simp [hc] at this
  | true =>
    obtain ⟨e, he⟩ := List.length_eq_one_iff.1 hfire
    obtain ⟨hmem, hcls⟩ := List.mem_filter.1 (he ▸ List.mem_singleton_self e : e ∈ g.stack.filter _)
    have hcls : e.cls = .fire := by simpa using hcls
    obtain ⟨init, last, hlast⟩ : ∃ init last, g.stack = init ++ [last] := by
      rcases List.eq_nil_or_concat g.stack with hnil | ⟨init, last, h⟩
      · rw [hnil] at hmem; exact absurd hmem List.not_mem_nil
      · exact ⟨init, last, by simpa using h⟩
    have hrank : last.cls = .fire := by
      rw [hlast] at hmem hrise
      rcases List.mem_append.1 hmem with hm | hm
      · have hle := (List.pairwise_append.1 hrise).2.2 e hm last (List.mem_singleton_self _)
        by_contra hne
        have := Cls.rank_lt_fire hne
        rw [hcls] at hle
        omega
      · rw [← List.mem_singleton.1 hm]; exact hcls
    simp [Fan.fireTop, Fan.top, hlast, hrank]

theorem State.queueOrdered_of {s : State} (hst : s.stacksSound) (hq : s.queueSound) : s.queueOrdered := by
  have top : ∀ n ∈ s.queue, s.isFireWaiter n = s.fire.taken := fun n hn => by
    obtain ⟨g, hg, -⟩ := (hq.2 n).1 hn
    have := (stackSound.fireTop (hst _ (Table.mem_of_get hg)) : g.fireTop = _)
    simp [State.isFireWaiter, hg, this]
  exact List.Pairwise.imp_of_mem (fun ha hb _ hfire => by rw [top _ ha, ← top _ hb]; exact hfire)
    (List.pairwise_of_forall (R := fun _ _ => True) fun _ _ => trivial)

end Sys2Proof.Machine

/-! ## Proofs: the air status follows the groups that serve (R69, R70) -/

namespace Sys2Proof.Machine

/-! ### What a zone's air status reads of the groups -/

/-- What a group is to the zones: those it serves, and whether it is available. -/
def Fan.duty (g : Fan) : ZoneSet × Bool := (g.served, g.state.available)

/-- Whether a group serves a zone, and if so whether it is available. -/
def State.serving (s : State) (zone n : Nat) : Option Bool :=
  (((Table.get s.fans n).map Fan.duty).filter (fun d => d.1.getLsbD zone)).map (fun d => d.2)

theorem State.serving_eq_some {s : State} {zone n : Nat} {b : Bool} : s.serving zone n = some b ↔
    ∃ g, Table.get s.fans n = some g ∧ g.served.getLsbD zone = true ∧ g.state.available = b := by
  simp [State.serving, Fan.duty, Option.filter_eq_some_iff, and_assoc]

theorem FanState.available_eq_false {f : FanState} : f.available = false ↔ f = .isolated ∨ f = .fault := by
  cases f <;> simp [FanState.available]

/-- R69: a zone is AIR_LOST exactly while some group serves it and none that does is available. -/
theorem State.airStatusOf_lost {s : State} (hs : s.tablesSound) (zone : Nat) : s.airStatusOf zone = .lost ↔
    (∃ n b, s.serving zone n = some b) ∧ ∀ n, s.serving zone n ≠ some true := by
  have table : s.airStatusOf zone = .lost ↔ (∃ e ∈ s.fans, e.2.served.getLsbD zone = true) ∧
      ∀ e ∈ s.fans, e.2.served.getLsbD zone = true → e.2.state.available = false := by
    have split : ∀ b : Bool, (if b then AirStatus.ok else .lost) = .lost ↔ b = false := fun b => by cases b <;> simp
    unfold State.airStatusOf
    dsimp only
    rw [split, Bool.or_eq_false_iff, List.any_eq_false]
    simp only [List.isEmpty_eq_false_iff_exists_mem, List.mem_filter, and_imp, Bool.not_eq_true]
  have mem : ∀ {e : Nat × Fan}, e ∈ s.fans ↔ Table.get s.fans e.1 = some e.2 := fun {e} =>
    Table.mem_iff_get (a := e.2) hs.fans.1
  rw [table]
  simp only [ne_eq, State.serving_eq_some, not_exists, not_and, Bool.not_eq_true, mem, Prod.forall, Prod.exists]
  exact and_congr ⟨fun ⟨n, g, hg, h⟩ => ⟨n, _, g, hg, h, rfl⟩, fun ⟨n, _, g, hg, h, _⟩ => ⟨n, g, hg, h⟩⟩ Iff.rfl

theorem State.airStatusOf_of_serving {s t : State} (hs : s.tablesSound) (ht : t.tablesSound) {zone : Nat}
    (h : ∀ n, t.serving zone n = s.serving zone n) : t.airStatusOf zone = s.airStatusOf zone := by
  have hlost : t.airStatusOf zone = .lost ↔ s.airStatusOf zone = .lost := by
    rw [State.airStatusOf_lost hs, State.airStatusOf_lost ht]
    simp only [h]
  cases h1 : t.airStatusOf zone <;> cases h2 : s.airStatusOf zone <;> simp_all

/-- R69, for sound tables: every zone's status is the one that its groups give. -/
theorem State.airSound_iff {s : State} (hs : s.tablesSound) :
    s.airSound ↔ ∀ k z, Table.get s.zones k = some z → z.air.status = s.airStatusOf k := by
  have due : ∀ (k : Nat), ((∃ f ∈ s.fans, f.2.served.getLsbD k = true) ∧
      ∀ f ∈ s.fans, f.2.served.getLsbD k = true → f.2.state = .isolated ∨ f.2.state = .fault) ↔
      s.airStatusOf k = .lost := fun k => by
    rw [State.airStatusOf_lost hs]
    simp only [← FanState.available_eq_false, ne_eq, State.serving_eq_some, not_exists, not_and, Bool.not_eq_true,
      Prod.forall, Prod.exists, Table.mem_iff_get hs.fans.1]
    exact and_congr ⟨fun ⟨n, g, hg, h⟩ => ⟨n, _, g, hg, h, rfl⟩, fun ⟨n, _, g, hg, h, _⟩ => ⟨n, g, hg, h⟩⟩ Iff.rfl
  have same : ∀ {a b : AirStatus}, (a = .lost ↔ b = .lost) ↔ a = b := fun {a b} => by cases a <;> cases b <;> simp
  simp only [State.airSound, due, same]
  exact ⟨fun h k z hz => h (k, z) (Table.mem_of_get hz), fun h e he => h e.1 e.2 (Table.get_of_mem hs.zones.1 he)⟩

/-! ### The changes that keep it -/

/-- The groups are to the zones what they were. -/
def State.SameDuties (s t : State) : Prop :=
  ∀ n, (Table.get t.fans n).map Fan.duty = (Table.get s.fans n).map Fan.duty

theorem State.SameDuties.of_eq {s t : State} (h : t.fans = s.fans) : s.SameDuties t := fun n => by rw [h]

theorem State.SameDuties.serving {s t : State} (h : s.SameDuties t) (zone n : Nat) :
    t.serving zone n = s.serving zone n := by
  unfold State.serving
  rw [h n]

theorem State.SameDuties.modify {s t : State} {group : Nat} {f : Fan → Fan}
    (h : t.fans = Table.modify s.fans group f) (hf : ∀ g, Table.get s.fans group = some g → (f g).duty = g.duty) :
    s.SameDuties t := fun n => by
  rw [h, Table.get_modify_eq]
  by_cases hn : n = group
  · subst hn
    cases hg : Table.get s.fans n with
    | none => rfl
    | some g => simp [hf g hg]
  · simp [hn]

theorem State.SameDuties.update {s t : State} {f : Nat → Fan → Fan}
    (h : ∀ n, Table.get t.fans n = (Table.get s.fans n).map (f n)) (hf : ∀ n g, (f n g).duty = g.duty) :
    s.SameDuties t := fun n => by
  rw [h, Option.map_map]
  congr 1
  funext g
  exact hf n g

/-- A zone's record before and after a change that leaves its air status. -/
def Zone.StatusKept (z z' : Zone) : Prop := z'.air.status = z.air.status

theorem Zone.StatusKept.refl (z : Zone) : z.StatusKept z := rfl

/-- A change of the zones that leaves every status, and of the groups that leaves what they are to the zones. -/
theorem State.airSound.moves {s t : State} (hs : s.tablesSound) (ht : t.tablesSound) (h : s.airSound)
    (hz : Table.Moves (fun _ => Zone.StatusKept) s.zones t.zones) (hd : s.SameDuties t) :
    t.airSound := by
  rw [State.airSound_iff hs] at h
  rw [State.airSound_iff ht]
  intro k z' hz'
  obtain ⟨z, hget, hst⟩ := hz.back (k, z') (Table.mem_of_get hz')
  rw [hst, State.airStatusOf_of_serving hs ht (hd.serving k), h k z (Table.get_of_mem hs.zones.1 hget)]

/-- R70: a notice has named every zone for which a group is not what it was. -/
def State.Announced (s t : State) : Prop :=
  ∃ m, s.Noticed t m ∧ ∀ k, m.getLsbD k = false → ∀ n, t.serving k n = s.serving k n

theorem State.Announced.of_duties {s t : State} (hz : t.zones = s.zones) (hd : s.SameDuties t) : s.Announced t :=
  ⟨0, .of_eq hz, fun k _ => hd.serving k⟩

theorem State.Announced.airSound {s t : State} (h : s.Announced t) (hs : s.tablesSound) (ht : t.tablesSound)
    (ha : s.airSound) : t.airSound := by
  obtain ⟨m, hn, hserv⟩ := h
  rw [State.airSound_iff hs] at ha
  rw [State.airSound_iff ht]
  intro k z' hz'
  rw [hn.read, Option.map_eq_some_iff] at hz'
  obtain ⟨z, hz, rfl⟩ := hz'
  split
  · exact Zone.withStatus_status _ z
  · next hm =>
    rw [State.airStatusOf_of_serving hs ht (hserv k (by simpa using hm)), ha k z hz]

/-- One group's record changed, its zones among those of the notice where it is not to them what it was. -/
theorem State.Announced.modify {s t : State} {m : ZoneSet} {group : Nat} {f : Fan → Fan} (hn : s.Noticed t m)
    (h : t.fans = Table.modify s.fans group f)
    (hf : ∀ g k, Table.get s.fans group = some g → m.getLsbD k = false →
      ((f g).served.getLsbD k = g.served.getLsbD k ∧ (g.served.getLsbD k = true →
        (f g).state.available = g.state.available))) : s.Announced t := by
  refine ⟨m, hn, fun k hk n => ?_⟩
  unfold State.serving
  rw [h, Table.get_modify_eq, Option.map_map]
  by_cases hng : n = group
  · subst hng
    cases hg : Table.get s.fans n with
    | none => rfl
    | some g =>
      obtain ⟨hsame, havail⟩ := hf g k hg hk
      by_cases hserved : g.served.getLsbD k = true
      · simp [Fan.duty, Option.filter_some, hsame, hserved, havail hserved]
      · simp [Fan.duty, Option.filter_some, hsame, hserved]
  · congr 2
    simp [hng, Function.comp_def]

/-- R78: judged drives move a group's availability only where they put it in FAULT. -/
theorem State.drivesJudged_available {s : State} {g : Fan} (h : s.faults g = false) :
    (s.drivesJudged g).state = g.state := by
  rw [State.drivesJudged_eq, h]
  rfl

theorem State.judgeDrives_announced (s : State) (group : Nat) : s.Announced (s.judgeDrives group) := by
  refine .modify (s.judgeDrives_noticed group) (s.judgeDrives_fans group) fun g k hg hk => ?_
  rw [State.drivesJudged_served]
  refine ⟨rfl, fun hserved => ?_⟩
  have hfree : s.faults g = false := by
    by_contra hfault
    simp only [Bool.not_eq_false] at hfault
    simp [State.faultZones, hg, hfault, hserved] at hk
  rw [State.drivesJudged_available hfree]

theorem State.isolate_announced {s : State} {group : Nat} {g : Fan} (hg : Table.get s.fans group = some g) :
    s.Announced (s.isolate group g) := by
  refine .modify (s.isolate_noticed group g) (s.isolate_fans group g) fun g' k hg' hk => ⟨rfl, fun hserved => ?_⟩
  obtain rfl : g = g' := Option.some.inj (hg.symm.trans hg')
  cases ha : g.state.available
  · rfl
  · simp [ha, hserved] at hk

theorem State.enterFault_announced {s : State} {group : Nat} {g : Fan} (hg : Table.get s.fans group = some g)
    (c : FaultCause) : s.Announced (s.enterFault group c) := by
  refine .modify (s.enterFault_noticed hg c) (s.enterFault_fans group c) fun g' k hg' hk => ⟨rfl, fun hserved => ?_⟩
  obtain rfl : g = g' := Option.some.inj (hg.symm.trans hg')
  simp [hserved] at hk

/-- R96: a group that comes back is announced where it is then available. -/
theorem State.returnToService_announced {s : State} {group : Nat} {g : Fan} (hg : Table.get s.fans group = some g)
    (hst : g.state = .isolated ∨ g.state = .fault) : s.Announced (s.returnToService group g) := by
  have hjudged : Table.get ((s.changeFan group Fan.returned).judgeDrives group).fans group =
      some (s.drivesJudged g.returned) := by
    rw [State.judgeDrives_fans, State.changeFan_fans, Table.modify_modify, Table.get_modify, hg, Option.map_some,
      State.drivesJudged_congr (s := s) (State.changeFan_keeps _ _ _ .nodes (by decide))]
  have hold : g.state.available = false := FanState.available_eq_false.2 hst
  have hn : ∃ m, s.Noticed (s.returnToService group g) m ∧
      ((s.drivesJudged g.returned).state.available = true → ∀ k, g.served.getLsbD k = true → m.getLsbD k = true) := by
    have hnotice := (State.judgeDrives_noticed (s.changeFan group Fan.returned) group).after (s := s) (by rfl)
    unfold State.returnToService
    dsimp only
    rw [show (Table.get ((s.changeFan group (fun g => { g with state := .stopped, faultCause := none })).judgeDrives
      group).fans group) = some (s.drivesJudged g.returned) from hjudged, Option.any_some]
    split
    · exact ⟨_, hnotice.notice g.served, fun _ k hk => by simp [hk]⟩
    · next h => exact ⟨_, hnotice, fun h' => absurd h' h⟩
  obtain ⟨m, hm, hcover⟩ := hn
  refine .modify hm (s.returnToService_fans group g) fun g' k hg' hk => ⟨by simp [Fan.returned], fun hserved => ?_⟩
  obtain rfl : g = g' := Option.some.inj (hg.symm.trans hg')
  rw [hold]
  by_contra ha
  simp [hcover (by simpa using ha) k hserved] at hk

/-- A group written over, what it was to the zones and what it is lying among those of the notice. -/
theorem State.Announced.set {s t : State} {m : ZoneSet} {group : Nat} {g : Fan} (hn : s.Noticed t m)
    (h : t.fans = Table.set s.fans group g) (hnew : ∀ k, m.getLsbD k = false → g.served.getLsbD k = false)
    (hold : ∀ k, m.getLsbD k = false → ∀ g', Table.get s.fans group = some g' → g'.served.getLsbD k = false) :
    s.Announced t := by
  refine ⟨m, hn, fun k hk n => ?_⟩
  unfold State.serving
  rw [h]
  by_cases hng : n = group
  · subst hng
    rw [Table.get_set]
    cases hg : Table.get s.fans n with
    | none => simp [Fan.duty, Option.filter_some, hnew k hk]
    | some g' => simp [Fan.duty, Option.filter_some, hnew k hk, hold k hk g' hg]
  · rw [Table.get_set_ne _ _ hng]

theorem State.freshFan_served (s : State) (g : Fan) : (s.freshFan g).served = g.served := by
  unfold State.freshFan
  split <;> rfl

theorem State.installFan_announced (s : State) (group : Nat) (zones : ZoneSet) (drives : List Nat) (st : FanSettings) :
    s.Announced (s.installFan group (Fan.fresh zones drives st) (s.fanZones group ||| zones)) := by
  obtain ⟨m, hn⟩ := s.installFan_noticed group (Fan.fresh zones drives st) (s.fanZones group ||| zones)
  refine .set hn (s.installFan_fans _ _ _) (fun k hk => ?_) fun k hk g hg => ?_
  · rw [State.drivesJudged_served, State.freshFan_served]
    simp only [BitVec.getLsbD_or, Bool.or_eq_false_iff] at hk
    exact hk.2.2
  · simp only [BitVec.getLsbD_or, Bool.or_eq_false_iff, State.fanZones, hg] at hk
    exact hk.2.1

theorem State.reset98_served (s : State) (g : Fan) (zones : ZoneSet) (drives : List Nat) (st : FanSettings) :
    (s.reset98 g zones drives st).served = zones := by
  unfold State.reset98
  dsimp only
  split <;> split <;> simp [Fan.changed, State.retargeted]

/-- R98: new served zones are announced with the old; new drives announce what they move. -/
theorem State.changeFanWhole_announced {s : State} {group : Nat} {g : Fan} (hg : Table.get s.fans group = some g)
    (zones : ZoneSet) (drives : List Nat) (st : FanSettings) :
    s.Announced (s.changeFanWhole group g zones drives st) := by
  by_cases hz : zones = g.served
  · subst hz
    have hset : (s.withFans (Table.set s.fans group (g.changed g.served drives st))).fans =
        Table.modify s.fans group (Fan.changed g.served drives st) := by
      rw [Table.modify_of_get hg]; rfl
    have h1 : s.SameDuties (s.withFans (Table.set s.fans group (g.changed g.served drives st))) :=
      .modify hset fun g' hg' => by
        obtain rfl : g = g' := Option.some.inj (hg.symm.trans hg')
        rfl
    unfold State.changeFanWhole
    dsimp only
    rw [if_pos rfl, if_pos rfl]
    split
    · exact .of_duties rfl h1
    · obtain ⟨m, hn, hserv⟩ := State.judgeDrives_announced
        (s.withFans (Table.set s.fans group (g.changed g.served drives st))) group
      exact ⟨m, hn.after rfl, fun k hk n => (hserv k hk n).trans (h1.serving k n)⟩
  · obtain ⟨m, hn⟩ := s.changeFanWhole_noticed group g zones drives st
    rw [if_neg hz] at hn
    refine .set hn (s.changeFanWhole_fans _ _ _ _ _) (fun k hk => ?_) fun k hk g' hg' => ?_
    all_goals simp only [BitVec.getLsbD_or, Bool.or_eq_false_iff] at hk
    · rw [State.reset98_served]
      exact hk.2.2
    · obtain rfl : g = g' := Option.some.inj (hg.symm.trans hg')
      exact hk.2.1

theorem State.dropFan_announced {s : State} (hs : s.tablesSound) {group : Nat} {g : Fan}
    (hg : Table.get s.fans group = some g) : s.Announced ((s.removeFan group).availabilityNotice g.served) := by
  refine ⟨_, State.noticed_availabilityNotice (s := s) (u := s.removeFan group) rfl g.served, fun k hk n => ?_⟩
  unfold State.serving
  rw [State.availabilityNotice_fans]
  show (((Table.get (Table.erase s.fans group) n).map Fan.duty).filter _).map _ = _
  by_cases hn : n = group
  · subst hn
    rw [Table.get_erase_self hs.fans.1, hg]
    simp [Fan.duty, Option.filter_some, hk]
  · rw [Table.get_erase_ne _ hn]

/-! ### Every move -/

theorem State.fansPlaced.follows {s t : State} (ht : t.tablesSound) (h : s.fansPlaced)
    (hz : ∀ k, Table.has t.zones k = Table.has s.zones k)
    (hf : ∀ n g', Table.get t.fans n = some g' →
      (∃ g, Table.get s.fans n = some g ∧ g'.served = g.served) ∨ s.zonesDefined g'.served = true) : t.fansPlaced := by
  intro e he
  rw [State.zonesDefined_congr fun k _ => hz k]
  rcases hf e.1 e.2 (Table.get_of_mem ht.fans.1 he) with ⟨g, hg, hserved⟩ | hdef
  · rw [hserved]
    exact h _ (Table.mem_of_get hg)
  · exact hdef

theorem State.fireCause_status (s : State) (present : Bool) :
    Table.Moves (fun _ => Zone.StatusKept) s.zones (s.fireCause present).zones := by
  unfold State.fireCause
  generalize Table.keys s.zones = ks
  induction ks generalizing s with
  | nil => exact .refl (fun _ => Zone.StatusKept.refl) _
  | cons k ks ih =>
    refine Table.Moves.trans (fun _ _ _ _ h h' => Eq.trans h' h) ?_ (ih _)
    refine (s.changeCauses_moves k _).mono ?_
    rintro k z _ (rfl | ⟨-, rfl⟩) <;> rfl

/-- R102: what a group is to the zones as RESTART leaves it. -/
theorem State.restartFans_fans (s : State) : s.restartFans.fans = Table.update (fun _ g => s.restartJudged g)
    (Table.update (fun _ g => g.restarted (if s.fireActive then some s.fire else none)) s.fans) := rfl

theorem State.restartBlocks_status (s : State) (k : Nat) :
    s.restartBlocks.airStatusOf k = s.restartRecords.restartFans.airStatusOf k := by
  refine State.airStatusOf_congr ?_ k
  rw [State.restartBlocks_fans, State.restartFans_fans]
  rfl

theorem State.restartJudged_served (s : State) (g : Fan) : (s.restartJudged g).served = g.served := by
  rfl

theorem Table.Moves.status_of_recounted {t t' : Table Zone} (h : Table.Moves (fun _ => Zone.Recounted) t t') :
    Table.Moves (fun _ => Zone.StatusKept) t t' :=
  h.mono fun _ _ _ hr => by rw [hr]; rfl

theorem Zone.fresh_status (level : Nat) (st : ZoneSettings) (fire : Bool) :
    (Zone.fresh level st fire).air.status = .ok := rfl

/-- R43, R41: no group serves an undefined zone. -/
theorem State.fansPlaced.unserved {s : State} (h : s.fansPlaced) {zone : Nat} (hz : Table.get s.zones zone = none) (n : Nat) :
    s.serving zone n = none := by
  by_contra hne
  obtain ⟨b, hb⟩ := Option.ne_none_iff_exists'.1 hne
  obtain ⟨g, hg, hserved, -⟩ := State.serving_eq_some.1 hb
  have := State.zonesDefined_iff.1 (h _ (Table.mem_of_get hg)) zone hserved
  simp [Table.has, hz] at this

/-- R69: what the fan step, a request or a fire change makes of the groups leaves what they are to the zones. -/
theorem State.joined_duty (s : State) {g : Fan} (h : g.state = .stopped) : (s.joined g).duty = g.duty := by
  unfold State.joined
  split <;> simp [Fan.duty, State.granted, h, FanState.available]

theorem State.Move.airSound {s t : State} {l : List Field} (m : State.Move s t l) (hs : s.tablesSound)
    (hq : s.queueSound) (hp : s.fansPlaced) (h : s.airSound) : t.airSound := by
  have ht := m.tablesSound hs
  have calm : Table.Moves (fun _ => Zone.StatusKept) s.zones t.zones → Field.fans ∉ l →
      t.airSound := fun hz hf => h.moves hs ht hz (.of_eq (m.keeps .fans hf))
  have same : ∀ {t : Table Zone}, Table.Moves (fun _ => Zone.StatusKept) t t :=
    fun {t} => .refl (fun _ => Zone.StatusKept.refl) t
  have frame : Field.zones ∉ l → Field.fans ∉ l → t.airSound := fun hz hf =>
    calm (by rw [show t.zones = s.zones from m.keeps .zones hz]; exact same) hf
  have duties : Field.zones ∉ l → s.SameDuties t → t.airSound := fun hz hd =>
    h.moves hs ht (by rw [show t.zones = s.zones from m.keeps .zones hz]; exact same) hd
  have announced : s.Announced t → t.airSound := fun ha => ha.airSound hs ht h
  cases m with
  | putBay b => exact calm (Table.Moves.status_of_recounted (s.putBay_moves _ b)) (by decide)
  | newBay b => exact calm (Table.Moves.status_of_recounted (s.recountIn_moves _ _ _)) (by decide)
  | dropBay => exact calm (Table.Moves.status_of_recounted (s.recountIn_moves _ _ _)) (by decide)
  | credit zone arrival => exact calm (State.addCredit_moves (fun _ => Zone.StatusKept.refl) zone arrival fun _ _ => rfl) (by decide)
  | operatorCause zone present =>
    refine calm ((s.changeCauses_moves zone _).mono ?_) (by decide)
    rintro k z _ (rfl | ⟨-, rfl⟩) <;> rfl
  | @newZone zone level st hnone hz hc =>
    rw [State.airSound_iff ht]
    rw [State.airSound_iff hs] at h
    intro k z hget
    rw [State.airStatusOf_of_serving (s := s) hs ht fun _ => rfl]
    rw [State.withZones_zones] at hget
    by_cases hk : k = zone
    · subst hk
      rw [Table.get_set, Option.some.injEq] at hget
      have hok : s.airStatusOf k ≠ .lost := fun hlost => by
        obtain ⟨⟨n, b, hb⟩, -⟩ := (State.airStatusOf_lost hs k).1 hlost
        simp [hp.unserved hnone n] at hb
      rw [← hget, Zone.fresh_status]
      cases hst : s.airStatusOf k
      · rfl
      · exact absurd hst hok
    · rw [Table.get_set_ne _ _ hk] at hget
      exact h k z hget
  | @setZone zone z level st hget hc =>
    refine calm (State.setZone_moves hget (fun _ => Zone.StatusKept.refl) ?_) (by decide)
    unfold Zone.withSettings
    dsimp only
    split <;> rfl
  | dropZone zone hfree =>
    rw [State.airSound_iff ht]
    rw [State.airSound_iff hs] at h
    intro k z hget
    rw [State.airStatusOf_of_serving (s := s) hs ht fun _ => rfl]
    have hget : Table.get (Table.erase s.zones zone) k = some z := hget
    have hk : k ≠ zone := fun hk => by
      rw [hk, Table.get_erase_self hs.zones.1] at hget
      simp at hget
    rw [Table.get_erase_ne _ hk] at hget
    exact h k z hget
  | evaluate zone =>
    cases hz : Table.get s.zones zone with
    | none => rw [State.evaluateZone_undefined hz]; exact h
    | some z =>
      rw [State.airSound_iff ht]
      rw [State.airSound_iff hs] at h
      have hd : s.SameDuties (s.evaluateZone zone) := by
        have hfans := State.evaluateZone_fans hz
        split at hfans
        · refine .update (fun n => by rw [hfans, Table.get_update]) fun n g => ?_
          split <;> rfl
        · exact .of_eq hfans
      intro k z' hget
      rw [State.airStatusOf_of_serving hs ht (hd.serving k)]
      rw [State.evaluateZone_get hz] at hget
      split at hget
      · next hk =>
        rw [Option.some.injEq] at hget
        rw [← hget, State.airZone_air, State.airStep_status, hk]
        exact h zone z hz
      · exact h k z' hget
  | report group f hf hd => exact duties (by decide) (.modify (s.changeFan_fans group f) fun g _ => by rw [hf]; rfl)
  | judgeDrives group => exact announced (s.judgeDrives_announced group)
  | isolate hget => exact announced (State.isolate_announced hget)
  | returnToService hget hst => exact announced (State.returnToService_announced hget hst)
  | installFan zones drives st => exact announced (s.installFan_announced _ zones drives st)
  | setFan zones drives st hget => exact announced (State.changeFanWhole_announced hget zones drives st)
  | dropFan hget => exact announced (State.dropFan_announced hs hget)
  | @restack group g k hget hm =>
    refine duties (by decide) (.modify (group := group) (f := fun g => s.retargeted { g with stack := k g.stack }) ?_ fun _ _ => rfl)
    rw [State.retarget_fans, State.changeFan_fans, Table.modify_modify]
    rfl
  | retarget group => exact duties (by decide) (.modify (s.retarget_fans group) fun _ _ => rfl)
  | joinQueue hget hst =>
    refine duties (by decide) (.modify (s.joinQueue_fans _) fun g' hg' => ?_)
    obtain rfl := Option.some.inj (hget.symm.trans hg')
    exact s.joined_duty hst
  | quitQueue hget hst =>
    refine duties (by decide) (.modify (State.changeFan_fans _ _ _) fun g' hg' => ?_)
    obtain rfl := Option.some.inj (hget.symm.trans hg')
    simp [Fan.duty, Fan.stopped, hst, FanState.available]
  | @run group g f hget hst hm =>
    refine duties (by decide) (.modify (State.changeFan_fans _ _ _) fun g' hg' => ?_)
    obtain rfl := Option.some.inj (hget.symm.trans hg')
    have hserved : (f g).served = g.served := by rw [hm.only]
    rcases hm.state with h' | h' <;> simp [Fan.duty, hserved, h', hst, FanState.available]
  | @grantHead group rest hqueue =>
    obtain ⟨g, hget, hst⟩ := (hq.2 group).1 (by simp [hqueue])
    refine duties (by decide) (.modify (s.grant_fans group) fun g' hg' => ?_)
    obtain rfl := Option.some.inj (hget.symm.trans hg')
    simp [Fan.duty, State.granted, hst, FanState.available]
  | enterFault c hget => exact announced (State.enterFault_announced hget c)
  | enterFire =>
    have hfans : s.enterFireMode.fans = (s.withFire s.fire.rise).placeFires.fans :=
      State.fireEffects_keeps _ true _ .fans (by decide)
    refine h.moves hs ht ?_ (.update (f := fun _ => (s.withFire s.fire.rise).firePlaced) (fun k => ?_) fun _ _ => rfl)
    · have hz : (s.withFire s.fire.rise).placeFires.zones = s.zones := State.placeFires_keeps _ .zones (by decide)
      rw [State.enterFireMode_eq, State.fireEffects_zones, ← hz]
      exact State.fireCause_status _ true
    · rw [hfans, State.placeFires_get (s := s.withFire s.fire.rise) (Table.keys_nodup hs.fans.1)]; rfl
  | leaveFire =>
    have hfans : s.leaveFireMode.fans = (s.withFire s.fire.fall).removeFires.fans :=
      State.fireEffects_keeps _ false _ .fans (by decide)
    refine h.moves hs ht ?_ (.update (f := fun _ => (s.withFire s.fire.fall).fireRemoved) (fun k => ?_) fun _ _ => rfl)
    · have hz : (s.withFire s.fire.fall).removeFires.zones = s.zones := State.removeFires_keeps _ .zones (by decide)
      rw [State.leaveFireMode_eq, State.fireEffects_zones, ← hz]
      exact State.fireCause_status _ false
    · rw [hfans, State.removeFires_get (s := s.withFire s.fire.fall) (Table.keys_nodup hs.fans.1)]; rfl
  | moveFireZone zone _ =>
    refine duties (by decide) (.update
      (f := fun _ => (s.withFire { s.fire with zone := some zone, pendingZone := none }).fireLeveled) (fun k => ?_) fun _ _ => rfl)
    exact State.relevelFires_get (s := s.withFire { s.fire with zone := some zone, pendingZone := none })
      (Table.keys_nodup hs.fans.1) k
  | restart =>
    rw [State.airSound_iff ht]
    intro k z' hz'
    rw [State.restartBlocks_zones_get, Option.map_eq_some_iff] at hz'
    obtain ⟨z, -, rfl⟩ := hz'
    rw [State.restartBlocks_status]
    rfl
  | reset pins => exact fun _ he => absurd he List.not_mem_nil
  | _ => exact frame (by decide) (by decide)

theorem State.Move.fansPlaced {s t : State} {l : List Field} (m : State.Move s t l) (hs : s.tablesSound)
    (h : s.fansPlaced) : t.fansPlaced := by
  have ht := m.tablesSound hs
  have frame : Field.zones ∉ l → Field.fans ∉ l → t.fansPlaced := fun hz hf =>
    h.follows ht (fun k => by rw [show t.zones = s.zones from m.keeps .zones hz]) fun n g' hg' =>
      .inl ⟨g', by rwa [← show t.fans = s.fans from m.keeps .fans hf], rfl⟩
  have zonesHave : Field.zones ∉ l → ∀ k, Table.has t.zones k = Table.has s.zones k := fun hz k => by
    rw [show t.zones = s.zones from m.keeps .zones hz]
  have sameFans : t.fans = s.fans → (∀ k, Table.has t.zones k = Table.has s.zones k) → t.fansPlaced := fun hf hz =>
    h.follows ht hz fun n g' hg' => .inl ⟨g', by rwa [← hf], rfl⟩
  have moved : ∀ {R : Nat → Zone → Zone → Prop}, Table.Moves R s.zones t.zones → Field.fans ∉ l → t.fansPlaced :=
    fun hm hf => sameFans (m.keeps .fans hf) hm.has
  have read : ∀ {f : Nat → Fan → Fan}, (∀ k, Table.has t.zones k = Table.has s.zones k) →
      (∀ n, Table.get t.fans n = (Table.get s.fans n).map (f n)) → (∀ n g, (f n g).served = g.served) → t.fansPlaced :=
    fun hz hf hserved => h.follows ht hz fun n g' hg' => by
      rw [hf, Option.map_eq_some_iff] at hg'
      obtain ⟨g, hg, rfl⟩ := hg'
      exact .inl ⟨g, hg, hserved n g⟩
  have modify : ∀ {f : Fan → Fan} {group : Nat}, (∀ k, Table.has t.zones k = Table.has s.zones k) →
      t.fans = Table.modify s.fans group f → (∀ g, (f g).served = g.served) → t.fansPlaced := fun {f group} hz hf hserved =>
    read (f := fun n g => if n = group then f g else g) hz (fun n => by rw [hf, Table.get_modify_eq]) fun n g => by
      split
      · exact hserved g
      · rfl
  have written : ∀ {g : Fan} {group : Nat}, (∀ k, Table.has t.zones k = Table.has s.zones k) →
      t.fans = Table.set s.fans group g → s.zonesDefined g.served = true → t.fansPlaced := fun {g group} hz hf hdef =>
    h.follows ht hz fun n g' hg' => by
      by_cases hn : n = group
      · rw [hf, hn, Table.get_set, Option.some.injEq] at hg'
        exact .inr (hg' ▸ hdef)
      · rw [hf, Table.get_set_ne _ _ hn] at hg'
        exact .inl ⟨g', hg', rfl⟩
  cases m with
  | putBay b => exact moved (s.putBay_moves _ b) (by decide)
  | newBay b => exact moved (s.recountIn_moves _ _ _) (by decide)
  | dropBay => exact moved (s.recountIn_moves _ _ _) (by decide)
  | credit zone arrival =>
    exact moved (State.addCredit_moves (R := fun _ _ _ => True) (fun _ _ => trivial) zone arrival fun _ _ => trivial) (by decide)
  | operatorCause zone present => exact moved (s.changeCauses_stay _ _) (by decide)
  | @newZone zone level st hnone hz hc =>
    intro e he
    refine State.zonesDefined_iff.2 fun k hk => ?_
    have hdef := State.zonesDefined_iff.1 (h e he) k hk
    have hkz : k ≠ zone := fun hkz => by simp [hkz, Table.has, hnone] at hdef
    rwa [State.withZones_zones, Table.has, Table.get_set_ne _ _ hkz]
  | @setZone zone z level st hget hc =>
    exact moved (State.setZone_moves (R := fun _ _ _ => True) hget (fun _ _ => trivial) trivial) (by decide)
  | dropZone zone hfree =>
    intro e he
    refine State.zonesDefined_iff.2 fun k hk => ?_
    have hdef := State.zonesDefined_iff.1 (h e he) k hk
    have hkz : k ≠ zone := fun hkz => by
      simp only [State.zoneInUse, Bool.or_eq_false_iff] at hfree
      have := Table.exists_eq_false.1 hfree.1.2 e he
      simp [← hkz, hk] at this
    show Table.has (Table.erase s.zones zone) k = true
    rwa [Table.has, Table.get_erase_ne _ hkz]
  | evaluate zone =>
    cases hz : Table.get s.zones zone with
    | none => rw [State.evaluateZone_undefined hz]; exact h
    | some z =>
      have hzones : ∀ k, Table.has (s.evaluateZone zone).zones k = Table.has s.zones k := fun k => by
        rw [Table.has, Table.has, State.evaluateZone_get hz]
        split
        · next hk => rw [hk, hz]; rfl
        · rfl
      have hfans := State.evaluateZone_fans hz
      split at hfans
      · refine read hzones (fun n => by rw [hfans, Table.get_update]) fun n g => ?_
        split <;> rfl
      · exact sameFans hfans hzones
  | report group f hf hd => exact modify (zonesHave (by decide)) (s.changeFan_fans group f) fun g => by rw [hf]
  | judgeDrives group => exact modify (s.judgeDrives_noticed group).stay.has (s.judgeDrives_fans group) fun g => by simp
  | isolate => exact modify (s.isolate_noticed _ _).stay.has (s.isolate_fans _ _) fun g => rfl
  | @returnToService group g =>
    obtain ⟨m, hm⟩ := s.returnToService_noticed group g
    exact modify hm.stay.has (s.returnToService_fans _ _) fun g => by simp [Fan.returned]
  | @installFan group zones drives st hg hz =>
    obtain ⟨m, hm⟩ := s.installFan_noticed group (Fan.fresh zones drives st) (s.fanZones group ||| zones)
    refine written hm.stay.has (s.installFan_fans _ _ _) ?_
    rwa [State.drivesJudged_served, State.freshFan_served]
  | @setFan group g zones drives st hget hz =>
    obtain ⟨m, hm⟩ := s.changeFanWhole_noticed group g zones drives st
    refine written hm.stay.has (s.changeFanWhole_fans _ _ _ _ _) ?_
    rw [State.reset98_served]
    rcases hz with rfl | hz
    · exact h _ (Table.mem_of_get hget)
    · exact hz
  | @dropFan group g =>
    have hn := State.noticed_availabilityNotice (s := s) (u := s.removeFan group) rfl g.served
    intro e he
    rw [State.availabilityNotice_fans] at he
    rw [State.zonesDefined_congr fun k _ => hn.stay.has k]
    exact h e (Table.mem_erase he)
  | @restack group g k hget hm =>
    refine modify (group := group) (f := fun g => s.retargeted { g with stack := k g.stack }) (zonesHave (by decide)) ?_ fun _ => rfl
    rw [State.retarget_fans, State.changeFan_fans, Table.modify_modify]
    rfl
  | retarget group => exact modify (zonesHave (by decide)) (s.retarget_fans group) fun _ => rfl
  | joinQueue => exact modify (zonesHave (by decide)) (s.joinQueue_fans _) s.joined_served
  | quitQueue => exact modify (zonesHave (by decide)) (State.changeFan_fans _ _ _) fun _ => rfl
  | @run group g f hget hst hm =>
    refine written (g := f g) (zonesHave (by decide)) (by rw [State.changeFan_fans, Table.modify_of_get hget]) ?_
    rw [hm.only]
    exact h _ (Table.mem_of_get hget)
  | grantHead => exact modify (zonesHave (by decide)) (State.grant_fans _ _) fun _ => rfl
  | enterFault c hget => exact modify (s.enterFault_noticed hget c).stay.has (s.enterFault_fans _ _) fun _ => rfl
  | enterFire =>
    have hfans : s.enterFireMode.fans = (s.withFire s.fire.rise).placeFires.fans :=
      State.fireEffects_keeps _ true _ .fans (by decide)
    refine read (f := fun _ => (s.withFire s.fire.rise).firePlaced) (fun k => ?_) (fun k => ?_) fun _ _ => rfl
    · rw [Table.has, Table.has, State.enterFireMode_zones, Option.isSome_map]
    · rw [hfans, State.placeFires_get (s := s.withFire s.fire.rise) (Table.keys_nodup hs.fans.1)]; rfl
  | leaveFire =>
    have hfans : s.leaveFireMode.fans = (s.withFire s.fire.fall).removeFires.fans :=
      State.fireEffects_keeps _ false _ .fans (by decide)
    refine read (f := fun _ => (s.withFire s.fire.fall).fireRemoved) (fun k => ?_) (fun k => ?_) fun _ _ => rfl
    · rw [Table.has, Table.has, State.leaveFireMode_zones, Option.isSome_map]
    · rw [hfans, State.removeFires_get (s := s.withFire s.fire.fall) (Table.keys_nodup hs.fans.1)]; rfl
  | moveFireZone zone _ =>
    refine read (f := fun _ => (s.withFire { s.fire with zone := some zone, pendingZone := none }).fireLeveled)
      (zonesHave (by decide)) (fun k => ?_) fun _ _ => rfl
    exact State.relevelFires_get (s := s.withFire { s.fire with zone := some zone, pendingZone := none })
      (Table.keys_nodup hs.fans.1) k
  | restart =>
    refine read (f := fun _ g => s.restartRecords.restartJudged (g.restarted (if s.fireActive then some s.fire else none)))
      (fun k => ?_) (fun n => ?_) fun _ g => ?_
    · rw [Table.has, Table.has, State.restartBlocks_zones_get, Option.isSome_map]
    · rw [State.restartBlocks_fans, Table.get_update, Table.get_update, Option.map_map]
      rfl
    · rw [State.restartJudged_served]
      rfl
  | reset pins => exact fun _ he => absurd he List.not_mem_nil
  | _ => exact frame (by decide) (by decide)

/-- Settles O54: every move keeps the queue to the waiters, and the status of every zone as its groups give it. -/
theorem queueAndAirStatusFollowTheGroups : Obligations.QueueAndAirStatusFollowTheGroups := by
  refine ⟨fun s t hs h hstep => ?_, fun s t hs hstacks hqueue _ hstep => ?_, fun s t hs hqueue hplaced hair hstep => ?_⟩
  · exact (step_keeps (P := fun s => s.tablesSound ∧ s.queueSound)
      (fun _ _ _ m h => ⟨m.tablesSound h.1, m.queueSound h.1 h.2⟩) ⟨hs, h⟩ hstep).2
  · obtain ⟨-, h1, h2⟩ := step_keeps (P := fun s => s.tablesSound ∧ s.stacksSound ∧ s.queueSound)
      (fun _ _ _ m h => ⟨m.tablesSound h.1, m.stacksSound h.1 h.2.1, m.queueSound h.1 h.2.2⟩)
      ⟨hs, hstacks, hqueue⟩ hstep
    exact State.queueOrdered_of h1 h2
  · exact (step_keeps (P := fun s => s.tablesSound ∧ s.queueSound ∧ s.fansPlaced ∧ s.airSound)
      (fun _ _ _ m h => ⟨m.tablesSound h.1, m.queueSound h.1 h.2.1, m.fansPlaced h.1 h.2.2.1,
        m.airSound h.1 h.2.1 h.2.2.1 h.2.2.2⟩) ⟨hs, hqueue, hplaced, hair⟩ hstep).2.2

end Sys2Proof.Machine

/-! ## Proofs: requests taken, and what they make of the bay table (R12 to R21) -/

namespace Sys2Proof.Machine

/-! ### A request taken and answered (R177, R179) -/

/-- What a taken request leaves: the state that serving it gave, with its answer in the service place. -/
def State.answered (s : State) (h : Head) (body : Request) (r : Result) (l : List Byte) : State :=
  s.occupy h.port (.request h.cls h.tag body) { tag := h.tag, result := r, payload := l }

theorem State.answered_keeps (s : State) (h : Head) (body : Request) (r : Result) (l : List Byte) :
    s.keepsBut (s.answered h body r l) [.places h.port] := s.occupy_keeps _ _ _

theorem State.answered_service (s : State) (h : Head) (body : Request) (r : Result) (l : List Byte) :
    ((s.answered h body r l).port h.port).service = some (answer h body r l) := by
  simp [State.answered, State.occupy, answer]

theorem State.answered_waiting (s : State) (h : Head) (body : Request) (r : Result) (l : List Byte) :
    ((s.answered h body r l).port h.port).waiting = (s.port h.port).waiting := by
  simp [State.answered, State.occupy]

theorem exec_answered {s : State} {cmd : Instr} {h : Head} {c : Cls} {body : Request} {v : Served}
    (hr : requestRow cmd = some (h, body)) (ha : s.accepts h c)
    (hs : serveRequest h.port body c (s.withKey h.key) = v) :
    exec cmd s = .next (v.state.answered h body v.result v.payload) := by
  rw [exec_request hr, State.arrive_accepted ha, hs]
  rfl

/-- R179, R181: a refusal. -/
theorem exec_refuses {s : State} {cmd : Instr} {h : Head} {c : Cls} {body : Request} {r : Result}
    (hr : requestRow cmd = some (h, body)) (ha : s.accepts h c)
    (hs : serveRequest h.port body c (s.withKey h.key) = refuse r (s.withKey h.key)) : s.refuses cmd h body r :=
  have ⟨hans, hkeep⟩ := State.arrive_unchanged ha body hs
  ⟨_, exec_request hr s, hans, hkeep⟩

/-- R179: a request that is answered and has no effect. -/
theorem exec_unchanged {s : State} {cmd : Instr} {h : Head} {c : Cls} {body : Request} {v : Served}
    (hr : requestRow cmd = some (h, body)) (ha : s.accepts h c)
    (hs : serveRequest h.port body c (s.withKey h.key) = v) (hv : v.state = s.withKey h.key) :
    ∃ t, exec cmd s = .next t ∧ s.answers t h body v.result v.payload ∧ s.keepsBut t [.serviceKey, .places h.port] := by
  obtain ⟨state, result, payload⟩ := v
  subst hv
  have ⟨hans, hkeep⟩ := State.arrive_unchanged ha body hs
  exact ⟨_, exec_request hr s, hans, hkeep⟩

/-- R179: a request performed; `w` is what its effect is measured against, `touched` the parts of it. -/
theorem exec_performs {s w : State} {cmd : Instr} {h : Head} {c : Cls} {body : Request} {v : Served}
    {touched : List Field} (hr : requestRow cmd = some (h, body)) (ha : s.accepts h c)
    (hs : serveRequest h.port body c (s.withKey h.key) = v) (hk : w.keepsBut v.state (.serviceKey :: touched))
    (hp : ∀ f ∈ portParts h.port, f ∉ touched) (hkey : v.state.serviceKey = h.key) :
    ∃ t, exec cmd s = .next t ∧ v.state.keepsBut t [.places h.port] ∧ w.answers t h body v.result v.payload ∧
      w.keepsBut t (.serviceKey :: .places h.port :: touched) :=
  have ⟨hans, hkeep, hv⟩ := State.arrive_served ha body hs hk hp hkey
  ⟨_, exec_request hr s, hv, hans, hkeep⟩

@[simp] theorem serviceOnly_service : serviceOnly .service = true := rfl

@[simp] theorem State.permits_withKey (s : State) (k : Bool) (c : Cls) (m : ZoneSet) :
    (s.withKey k).permits c m = s.permits c m := by cases c <;> rfl

@[simp] theorem State.kindOf_withKey (s : State) (k : Bool) (node : Nat) : (s.withKey k).kindOf node = s.kindOf node := rfl
@[simp] theorem State.fireActive_withKey (s : State) (k : Bool) : (s.withKey k).fireActive = s.fireActive := rfl
@[simp] theorem State.zonesDefined_withKey (s : State) (k : Bool) (m : ZoneSet) :
    (s.withKey k).zonesDefined m = s.zonesDefined m := rfl

/-! ### A bay request that changes a bay (R2, R30) -/

theorem State.withKey_watched (s : State) (k : Bool) (bay : Nat) (old b : Bay) :
    (s.withKey k).watched bay old b = (s.watched bay old b).withKey k := by
  unfold State.watched
  split <;> rfl

theorem State.recountsOnly.both {s t : State} {zone : Nat} (h : s.recountsOnly t zone) (zone' : Nat) :
    s.recountsBoth t zone zone' := by
  obtain ⟨hother, hzone, hsigns⟩ := h
  refine ⟨fun k hk _ => hother k hk, fun k z hz => ?_, fun n g hg => ?_⟩
  · by_cases hk : k = zone
    · exact hk ▸ hzone z (hk ▸ hz)
    · exact ⟨z, (hother k hk).trans hz, rfl⟩
  · obtain ⟨g', hg', honly, hsame⟩ := hsigns n g hg
    exact ⟨g', hg', honly, fun h1 _ => hsame h1⟩

theorem State.recountsBoth.congr {s s' t t' : State} {zone zone' : Nat} (h : s.recountsBoth t zone zone')
    (hz : s'.zones = s.zones) (hg : s'.signs = s.signs) (hz' : t'.zones = t.zones) (hg' : t'.signs = t.signs) :
    s'.recountsBoth t' zone zone' := by
  unfold State.recountsBoth
  rw [hz, hg, hz', hg']
  exact h

/-- Two counts, one after the other. -/
theorem State.recountsOnly.trans_both {s t u : State} {zone zone' : Nat} (h : s.recountsOnly t zone)
    (h' : t.recountsOnly u zone') : s.recountsBoth u zone zone' := by
  obtain ⟨hz1, -, hs1⟩ := h.both zone'
  obtain ⟨-, hc1, -⟩ := h.both zone'
  obtain ⟨-, hc2, hs2⟩ := h'.both zone'
  obtain ⟨hother, -, -⟩ := h'
  refine ⟨fun k hk hk' => (hother k hk').trans (hz1 k hk hk'), fun k z hz => ?_, fun n g hg => ?_⟩
  · obtain ⟨z1, hz1, honly1⟩ := hc1 k z hz
    obtain ⟨z2, hz2, honly2⟩ := hc2 k z1 hz1
    exact ⟨z2, hz2, by rw [honly2, honly1]⟩
  · obtain ⟨g1, hg1, honly1, hsame1⟩ := hs1 n g hg
    obtain ⟨g2, hg2, honly2, hsame2⟩ := hs2 n g1 hg1
    refine ⟨g2, hg2, by rw [honly2, honly1], fun hd hd' => ?_⟩
    have h1 := hsame1 hd hd'
    rw [hsame2 (h1 ▸ hd') (h1 ▸ hd'), h1]

/-- R20, R30: a bay counted out of one zone and into another: of the counts each zone's own change alone. -/
theorem State.moveBay_recounted {s : State} {bay : Nat} {old b : Bay} (h : Table.get s.bays bay = some old)
    (hz : old.zone ≠ b.zone) :
    s.recounted (((s.withBays (Table.set s.bays bay b)).adjustZone old.zone (Zone.countOut old)).adjustZone b.zone
      (Zone.countIn b)) := by
  set s1 := s.withBays (Table.set s.bays bay b) with hs1
  set s2 := s1.adjustZone old.zone (Zone.countOut old) with hs2
  set t := s2.adjustZone b.zone (Zone.countIn b) with ht
  have hbays : t.bays = Table.set s.bays bay b := by
    rw [ht, State.adjustZone_keeps _ _ _ .bays (by decide), hs2, State.adjustZone_keeps _ _ _ .bays (by decide)]
    rfl
  have hread : ∀ k z z', Table.get s.zones k = some z → Table.get t.zones k = some z' →
      z' = if k = b.zone then z.adjusted (Zone.countIn b) else if k = old.zone then z.adjusted (Zone.countOut old)
        else z := fun k z z' hget hget' => by
    rw [ht, State.adjustZone_zones, hs2, State.adjustZone_zones, Table.get_modify_eq, Table.get_modify_eq, hs1,
      State.withBays_zones, hget] at hget'
    simp only [Option.map_some, Option.some.injEq] at hget'
    rw [← hget']
    by_cases hk : k = b.zone
    · simp [hk, hz.symm]
    · simp [hk]
  refine ⟨fun k z z' hget hget' => ?_, fun n g g' hg hg' hs => ?_⟩
  · rw [hread k z z' hget hget', hbays]
    split
    · next hk =>
      refine ⟨fun hw hc => Zone.adjusted_countsSound.2 ?_, Zone.adjusted_fill (fun _ => rfl) z⟩
      rw [hk] at hc ⊢
      rw [← Table.set_erase hw.baysRise h]
      exact Zone.countIn_sound (Table.get_erase_self hw.baysRise bay) (Zone.countsSound_erase_other h hz hc)
    · next hk =>
      split
      · next hk' =>
        refine ⟨fun hw hc => Zone.adjusted_countsSound.2 ?_, Zone.adjusted_fill (fun _ => rfl) z⟩
        rw [hk'] at hc ⊢
        rw [← Table.set_erase hw.baysRise h]
        exact Zone.countsSound_set_other (Table.get_erase_self hw.baysRise bay) hz.symm (Zone.countOut_sound h hc)
      · next hk' =>
        exact ⟨fun hw hc => Zone.countsSound_replace_other hw.baysRise h (Ne.symm hk') (Ne.symm hk) hc, by simp⟩
  · obtain ⟨g1, hg1, -⟩ := (s1.adjustZone_only old.zone (Zone.countOut old) fun _ => rfl).2.2 n g hg
    have h1 := State.adjustZone_soundIn (s := s1) (f := Zone.countOut old) (fun _ => rfl) hg hg1
      (hs.congr (s := s) rfl fun _ _ => rfl)
    exact State.adjustZone_soundIn (s := s2) (f := Zone.countIn b) (fun _ => rfl) hg1 hg' h1

/-- R2, R20: what a bay change makes of the zones and signs, its zone kept or not. -/
theorem State.putBay_both {s : State} {bay : Nat} {old : Bay} (h : Table.get s.bays bay = some old) (b : Bay) :
    s.recountsBoth (s.putBay bay b) old.zone b.zone ∧ s.recounted (s.putBay bay b) := by
  by_cases hz : b.zone = old.zone
  · obtain ⟨-, -, honly, -⟩ := State.putBay_spec h b
    exact ⟨(honly hz).both _, State.putBay_recounted h hz⟩
  · have hstamp : (Bay.stamped s.seconds old b).zone = b.zone := by unfold Bay.stamped; split <;> rfl
    have hne : b ≠ old := fun e => hz (by rw [e])
    set s1 := s.withBays (Table.set s.bays bay (Bay.stamped s.seconds old b)) with hs1
    have hcount : s1.recount (some old) (some (Bay.stamped s.seconds old b)) =
        (s1.adjustZone old.zone (Zone.countOut old)).adjustZone b.zone
          (Zone.countIn (Bay.stamped s.seconds old b)) := by
      simp only [State.recount, hstamp, if_neg (Ne.symm hz)]
    have hboth : s.recountsBoth (s1.recount (some old) (some (Bay.stamped s.seconds old b))) old.zone b.zone := by
      rw [hcount]
      exact ((s1.adjustZone_only _ _ fun _ => rfl).trans_both (State.adjustZone_only _ _ _ fun _ => rfl)).congr
        rfl rfl rfl rfl
    have hrec : s.recounted (s1.recount (some old) (some (Bay.stamped s.seconds old b))) := by
      rw [hcount, ← hstamp]
      exact State.moveBay_recounted h (hstamp ▸ Ne.symm hz)
    have hput : s.putBay bay b = if b.state ≠ old.state ∧ b.marks.watch = true
        then (s1.recount (some old) (some (Bay.stamped s.seconds old b))).raise .bay bay .watchChange
        else s1.recount (some old) (some (Bay.stamped s.seconds old b)) := by
      unfold State.putBay
      simp only [h, if_neg hne]
      rfl
    rw [hput]
    split
    · exact ⟨hboth.congr rfl rfl rfl rfl, hrec.congr rfl rfl rfl rfl⟩
    · exact ⟨hboth, hrec⟩

/-- R2, R30: a request that gives a bay a new record. -/
theorem exec_putsBay {s : State} {cmd : Instr} {h : Head} {c : Cls} {body : Request} {bay : Nat} {old b : Bay}
    {r : Result} (hr : requestRow cmd = some (h, body)) (ha : s.accepts h c) (hget : Table.get s.bays bay = some old)
    (hs : serveRequest h.port body c (s.withKey h.key) =
      { state := (s.withKey h.key).putBay bay b, result := r
        payload := bayView bay (Table.get ((s.withKey h.key).putBay bay b).bays bay) }) :
    ∃ t, exec cmd s = .next t ∧
      Table.get t.bays bay = some (Bay.stamped s.seconds old b) ∧
      (∀ n, n ≠ bay → Table.get t.bays n = Table.get s.bays n) ∧
      (s.watched bay old b).answers t h body r (bayView bay (some (Bay.stamped s.seconds old b))) ∧
      (b.zone = old.zone → s.recountsOnly t old.zone) ∧ s.recountsBoth t old.zone b.zone ∧ s.recounted t ∧
      (s.watched bay old b).keepsBut t [.serviceKey, .places h.port, .bays, .zones, .signs] := by
  obtain ⟨hbay, hothers, honly, hkeep⟩ := State.putBay_spec (s := s.withKey h.key) hget b
  obtain ⟨hboth, hrec⟩ := State.putBay_both (s := s.withKey h.key) hget b
  rw [State.withKey_watched] at hkeep
  have hkeeps : (s.watched bay old b).keepsBut ((s.withKey h.key).putBay bay b) [.serviceKey, .bays, .zones, .signs] :=
    ((s.watched bay old b).withKey_keeps h.key).seq hkeep (by decide) (by decide)
  obtain ⟨t, ht, hv, hans, hkept⟩ := exec_performs hr ha hs hkeeps (by simp) (hkeep .serviceKey (by simp))
  have hbays : t.bays = ((s.withKey h.key).putBay bay b).bays := hv .bays (by simp)
  have hzones : t.zones = ((s.withKey h.key).putBay bay b).zones := hv .zones (by simp)
  have hsigns : t.signs = ((s.withKey h.key).putBay bay b).signs := hv .signs (by simp)
  have hfire : t.fire = ((s.withKey h.key).putBay bay b).fire := hv .fire (by simp)
  refine ⟨t, ht, by rw [hbays]; exact hbay, fun n hn => by rw [hbays]; exact hothers n hn, ?_,
    fun hz => (honly hz).congr rfl rfl hzones hsigns, hboth.congr rfl rfl hzones hsigns,
    State.recounted.congr (s := s) hrec hbays hzones hsigns hfire, hkept⟩
  rw [hbay] at hans
  exact hans

theorem State.watched_same (s : State) (bay : Nat) {old b : Bay} (h : b.state = old.state) : s.watched bay old b = s := by
  simp [State.watched, h]

theorem Bay.stamped_same (now : Seconds) {old b : Bay} (h : b.state = old.state) : Bay.stamped now old b = b := by
  simp [Bay.stamped, h]

theorem State.bayZone_of_get {s : State} {bay : Nat} {b : Bay} (h : Table.get s.bays bay = some b) :
    s.bayZone bay = zoneSingle b.zone := by
  simp [State.bayZone, h]

/-! ### CHANGE_BAY (R12, R13) -/

/-- R13: the marks CHANGE_BAY leaves a bay with. -/
def Marks.changed (c : Cls) (m : Mode) (current given : Marks) : Marks :=
  if serviceOnly c then Marks.apply m current given else Marks.masked current (Marks.apply m current given)

/-- R12: what a mode makes of one mark. -/
def Mode.wanted (m : Mode) (has gives : Bool) : Bool :=
  match m with
  | .replace => gives
  | .add => has || gives
  | .remove => has && !gives

theorem Marks.changed_eq (c : Cls) (m : Mode) (current given : Marks) : Marks.changed c m current given =
    { hold := m.wanted current.hold given.hold, watch := m.wanted current.watch given.watch
      noCount := if c = .service then m.wanted current.noCount given.noCount else current.noCount
      lampTest := if c = .service then m.wanted current.lampTest given.lampTest else current.lampTest } := by
  by_cases hc : c = .service <;> cases m <;>
    simp [Marks.changed, serviceOnly, hc, Marks.apply, Marks.masked, Mode.wanted]

theorem serveChangeBay_changed {c : Cls} {s : State} {bay mode : Nat} {marks : Byte} {m : Mode} {given : Marks} {b : Bay}
    (hbay : bay ≤ 2047) (hm : Mode.ofCode mode = some m) (hg : Marks.ofMask marks = some given)
    (hget : Table.get s.bays bay = some b) (hp : s.permits c (zoneSingle b.zone) = true) :
    serveChangeBay c bay mode marks s =
      { state := s.putBay bay { b with marks := Marks.changed c m b.marks given }
        result := if !serviceOnly c && Marks.saysMasked m b.marks given then .okMasked else .ok
        payload := bayView bay (Table.get (s.putBay bay { b with marks := Marks.changed c m b.marks given }).bays bay) } := by
  simp only [serveChangeBay, hm, hg, hget]
  rw [need_pos (by simp [within, hbay]), need_pos (by rw [State.bayZone_of_get hget]; exact hp)]
  rfl

/-- Settles O2: the change is a bay change that leaves the state, so that nothing is raised. -/
theorem changeBayMarks : Obligations.ChangeBayMarks := by
  intro h c s bay mode marks m given b ha hbay hm hg hget hp
  have hserve := serveChangeBay_changed (s := s.withKey h.key) hbay hm hg hget (by simpa using hp)
  obtain ⟨t, ht, hbays, hothers, hans, honly, -, hrec, hkeep⟩ :=
    exec_putsBay (cmd := .changeBay h bay mode marks) (body := .changeBay bay mode marks) rfl ha hget hserve
  have hsame : ({ b with marks := Marks.changed c m b.marks given } : Bay).state = b.state := rfl
  rw [State.watched_same s bay hsame] at hans hkeep
  rw [Bay.stamped_same _ hsame] at hbays hans
  have hmasked : (!serviceOnly c && Marks.saysMasked m b.marks given) = true ↔
      c ≠ .service ∧ (given.noCount = true ∨ given.lampTest = true ∨
        (m = .replace ∧ ((b.marks.noCount = true ∧ given.noCount = false) ∨
          (b.marks.lampTest = true ∧ given.lampTest = false)))) := by
    simp [serviceOnly, Marks.saysMasked, or_assoc]
  rw [Marks.changed_eq] at hbays hans
  refine ⟨t, _, ht, hbays, hothers, ?_, ?_, hans, honly rfl, hrec, hkeep⟩
  · rw [← hmasked]
    split <;> simp_all
  · rw [← hmasked]
    split <;> simp_all

/-! ### RESERVE_BAY and RELEASE_BAY (R15, R16) -/

theorem serveReserveBay_checked {c : Cls} {s : State} {bay holder hold : Nat} {b : Bay}
    (hbay : bay ≤ 2047) (hholder : 1 ≤ holder ∧ holder ≤ 65535) (hhold : 1 ≤ hold ∧ hold ≤ 240)
    (hget : Table.get s.bays bay = some b) (hp : s.permits c (zoneSingle b.zone) = true) :
    serveReserveBay c bay holder hold s =
      need (decide (b.state = .free) && !b.marks.hold) .notFree s
        (let s1 := s.putBay bay
          { b with state := .reserved
                   reservation := some { tag := holder, expiry := s.expiryIn (60 * hold) } }
        serveOk (bayView bay (Table.get s1.bays bay)) s1) := by
  unfold serveReserveBay
  rw [need_pos (by simp [within, hbay, hholder, hhold]), need_pos (by rw [State.bayZone_of_get hget]; exact hp), hget]

theorem serveReleaseBay_held {c : Cls} {s : State} {bay holder : Nat} {b : Bay} {r : Reservation}
    (hbay : bay ≤ 2047) (hholder : 1 ≤ holder ∧ holder ≤ 65535)
    (hget : Table.get s.bays bay = some b) (hp : s.permits c (zoneSingle b.zone) = true) (hr : b.reservation = some r) :
    serveReleaseBay c bay holder s = need (decide (r.tag = holder) || serviceOnly c) .notHolder s
      (serveOk (bayView bay (Table.get (s.putBay bay b.unreserved).bays bay)) (s.putBay bay b.unreserved)) := by
  unfold serveReleaseBay
  rw [need_pos (by simp [within, hbay, hholder]), need_pos (by rw [State.bayZone_of_get hget]; exact hp)]
  simp only [hget, hr]

theorem serveReleaseBay_unheld {c : Cls} {s : State} {bay holder : Nat} {b : Bay}
    (hbay : bay ≤ 2047) (hholder : 1 ≤ holder ∧ holder ≤ 65535)
    (hget : Table.get s.bays bay = some b) (hp : s.permits c (zoneSingle b.zone) = true) (hr : b.reservation = none) :
    serveReleaseBay c bay holder s = refuse .noSuch s := by
  unfold serveReleaseBay
  rw [need_pos (by simp [within, hbay, hholder]), need_pos (by rw [State.bayZone_of_get hget]; exact hp)]
  simp only [hget, hr]

/-- Settles O3: both are bay changes, taken or refused by the bay's state and its reservation. -/
theorem reserveAndReleaseBay : Obligations.ReserveAndReleaseBay := by
  refine ⟨fun h c s bay holder hold b ha hbay hh1 hh2 ho1 ho2 hget hp => ⟨fun hfree hhold => ?_, fun hnot => ?_⟩,
    fun h c s bay holder b ha hbay hh1 hh2 hget hp => ⟨fun r hr hmay => ?_, fun r hr htag hc => ?_, fun hnone => ?_⟩⟩
  · have hserve := serveReserveBay_checked (s := s.withKey h.key) hbay ⟨hh1, hh2⟩ ⟨ho1, ho2⟩ hget (by simpa using hp)
    rw [need_pos (by simp [hfree, hhold])] at hserve
    obtain ⟨t, ht, hbays, hothers, hans, honly, -, hrec, hkeep⟩ :=
      exec_putsBay (cmd := .reserveBay h bay holder hold) (body := .reserveBay bay holder hold) rfl ha hget hserve
    have hst : Bay.stamped s.seconds b { b with
        state := .reserved, reservation := some { tag := holder, expiry := (s.withKey h.key).expiryIn (60 * hold) } } =
        { b with state := .reserved, since := s.seconds
                 reservation := some { tag := holder, expiry := s.seconds + BitVec.ofNat 32 (60 * hold) } } := by
      simp [Bay.stamped, hfree, State.expiryIn]
    rw [hst] at hbays hans
    exact ⟨t, ht, hbays, hothers, hans, honly rfl, hrec, hkeep⟩
  · have hserve := serveReserveBay_checked (s := s.withKey h.key) hbay ⟨hh1, hh2⟩ ⟨ho1, ho2⟩ hget (by simpa using hp)
    rw [need_neg (by rcases hnot with hf | hf <;> simp [hf])] at hserve
    exact exec_refuses (cmd := .reserveBay h bay holder hold) (body := .reserveBay bay holder hold) rfl ha hserve
  · have hserve := serveReleaseBay_held (s := s.withKey h.key) (c := c) hbay ⟨hh1, hh2⟩ hget (by simpa using hp) hr
    rw [need_pos (by simpa [serviceOnly] using hmay)] at hserve
    obtain ⟨t, ht, hbays, hothers, hans, honly, -, hrec, hkeep⟩ :=
      exec_putsBay (cmd := .releaseBay h bay holder) (body := .releaseBay bay holder) rfl ha hget hserve
    rw [Bay.stamped_unreserved] at hbays hans
    exact ⟨t, ht, hbays, hothers, hans, honly rfl, hrec, hkeep⟩
  · have hserve := serveReleaseBay_held (s := s.withKey h.key) (c := c) hbay ⟨hh1, hh2⟩ hget (by simpa using hp) hr
    rw [need_neg (by simp [serviceOnly, htag, hc])] at hserve
    exact exec_refuses (cmd := .releaseBay h bay holder) (body := .releaseBay bay holder) rfl ha hserve
  · have hserve := serveReleaseBay_unheld (s := s.withKey h.key) (c := c) hbay ⟨hh1, hh2⟩ hget (by simpa using hp) hnone
    exact exec_refuses (cmd := .releaseBay h bay holder) (body := .releaseBay bay holder) rfl ha hserve

/-! ### DEFINE_BAY, REDEFINE_BAY and RETIRE_BAY (R19 to R21) -/

theorem State.has_of_kindOf {s : State} {node : Nat} {k : NodeKind} (h : s.kindOf node = some k) :
    Table.has s.nodes node = true := by
  unfold State.kindOf at h
  cases hn : Table.get s.nodes node with
  | none => simp [hn] at h
  | some n => simp [Table.has, hn]

theorem State.channelTaken_eq_false {s : State} {bay node channel : Nat}
    (h : ∀ n b, (n, b) ∈ s.bays → n ≠ bay → ¬(b.node = node ∧ b.channel = channel)) :
    s.channelTaken bay node channel = false := by
  refine Table.exists_eq_false.2 fun e he => ?_
  have := h e.1 e.2 he
  simp only [ne_eq, not_and] at this
  simpa using this

/-- R30: a request that brings a bay into the table or takes it out. -/
theorem exec_recounts {s : State} {cmd : Instr} {h : Head} {c : Cls} {body : Request} {bays : Table Bay}
    {zone : Nat} {f : Zone → Zone} {l : List Byte} (hr : requestRow cmd = some (h, body)) (ha : s.accepts h c)
    (hf : countsOnly f)
    (hs : serveRequest h.port body c (s.withKey h.key) =
      serveOk l (((s.withKey h.key).withBays bays).adjustZone zone f))
    (hzone : s.tablesSound → ∀ z : Zone, z.countsSound s.bays zone → (f z).countsSound bays zone)
    (hother : s.tablesSound → ∀ (k : Nat) (z : Zone), k ≠ zone →
      z.countsSound s.bays k → z.countsSound bays k) :
    ∃ t, exec cmd s = .next t ∧ t.bays = bays ∧ s.answers t h body .ok l ∧
      s.recountsOnly t zone ∧ s.recounted t ∧ s.keepsBut t [.serviceKey, .places h.port, .bays, .zones, .signs] := by
  set v := ((s.withKey h.key).withBays bays).adjustZone zone f with hv
  have hrec : (s.withKey h.key).recounted v := State.adjustZone_recounted hf hzone hother
  have honly : (s.withKey h.key).recountsOnly v zone :=
    (State.adjustZone_only ((s.withKey h.key).withBays bays) zone f hf).congr rfl rfl rfl rfl
  have hkeeps : s.keepsBut v [.serviceKey, .bays, .zones, .signs] :=
    ((s.withKey_keeps h.key).seq (State.withBays_keeps _ bays) (n := [.serviceKey, .bays]) (by decide) (by decide)).seq
      (State.adjustZone_keeps _ zone f) (by decide) (by decide)
  have hkey : v.serviceKey = h.key := State.adjustZone_keeps ((s.withKey h.key).withBays bays) zone f .serviceKey (by decide)
  have hvb : v.bays = bays := State.adjustZone_keeps ((s.withKey h.key).withBays bays) zone f .bays (by decide)
  obtain ⟨t, ht, hv', hans, hkept⟩ := exec_performs hr ha hs hkeeps (by simp) hkey
  have hbays : t.bays = v.bays := hv' .bays (by simp)
  have hzones : t.zones = v.zones := hv' .zones (by simp)
  have hsigns : t.signs = v.signs := hv' .signs (by simp)
  exact ⟨t, ht, hbays.trans hvb, hans, honly.congr rfl rfl hzones hsigns,
    State.recounted.congr (s := s) hrec hbays hzones hsigns (hv' .fire (by simp)), hkept⟩

/-- Settles O4: a bay enters the table UNKNOWN, and leaves it unless fire mode or a reservation holds it. -/
theorem defineAndRetireBay : Obligations.DefineAndRetireBay := by
  refine ⟨fun h s bay zone node channel kind k ha hbay hzone hnode hchannel hk hget hhas hkind hfree => ?_,
    fun h s bay b ha hbay hs hget => ⟨fun hfire => ?_, fun hfire hres => ?_, fun hfire hres => ?_⟩⟩
  · intro b
    have htaken := State.channelTaken_eq_false (s := s.withKey h.key) (bay := bay) fun n b hb _ => hfree n b hb
    have hserve : serveRequest h.port (.defineBay bay zone node channel kind) .service (s.withKey h.key) =
        serveOk (bayView bay (some b)) (((s.withKey h.key).withBays (Table.set s.bays bay b)).adjustZone zone
          (Zone.countIn b)) := by
      have hout : Table.get (((s.withKey h.key).withBays (Table.set s.bays bay b)).adjustZone zone
          (Zone.countIn b)).bays bay = some b := by
        rw [State.adjustZone_keeps _ zone _ .bays (by decide)]
        exact Table.get_set _ _ _
      show serveDefineBay .service bay zone node channel kind (s.withKey h.key) = _
      unfold serveDefineBay
      rw [hk]
      dsimp only
      rw [need_pos (by simp [within, hbay, hzone, hnode, hchannel]), need_pos serviceOnly_service,
        need_pos (by simp [Table.has, hget]), need_pos (by simp [hhas, State.has_of_kindOf hkind]),
        need_pos (by simp [htaken, hkind]), ← hout]
      rfl
    obtain ⟨t, ht, hbays, hans, honly, hrec, hkeep⟩ := exec_recounts
      (cmd := .defineBay h bay zone node channel kind) rfl ha (fun _ => rfl) hserve
      (fun _ z hc => Zone.countIn_sound hget hc) fun _ k z hne hc => Zone.countsSound_set_other hget (Ne.symm hne) hc
    exact ⟨t, ht, by rw [hbays, Table.get_set], fun n hn => by rw [hbays, Table.get_set_ne _ _ hn], hans, honly, hrec, hkeep⟩
  all_goals
    have hserve : serveRequest h.port (.retireBay bay) .service (s.withKey h.key) =
        need (!s.fireActive) .fireLock (s.withKey h.key) (need b.reservation.isNone .inUse (s.withKey h.key)
          (serveOk (bayView bay (some b)) (((s.withKey h.key).withBays (Table.erase s.bays bay)).adjustZone b.zone
            (Zone.countOut b)))) := by
      show serveRetireBay .service bay (s.withKey h.key) = _
      unfold serveRetireBay
      rw [need_pos (by simp [within, hbay]), need_pos serviceOnly_service]
      simp only [State.withKey_bays, hget, State.fireActive_withKey]
      rfl
  · rw [need_neg (by simp [State.fireActive, hfire])] at hserve
    exact exec_refuses (cmd := .retireBay h bay) rfl ha hserve
  · rw [need_pos (by simp [State.fireActive, hfire]), need_neg (by simpa using hres)] at hserve
    exact exec_refuses (cmd := .retireBay h bay) rfl ha hserve
  · rw [need_pos (by simp [State.fireActive, hfire]), need_pos (by simp [hres])] at hserve
    obtain ⟨t, ht, hbays, hans, honly, hrec, hkeep⟩ := exec_recounts
      (cmd := .retireBay h bay) rfl ha (fun _ => rfl) hserve
      (fun _ z hc => Zone.countOut_sound hget hc) fun _ k z hne hc => Zone.countsSound_erase_other hget (Ne.symm hne) hc
    exact ⟨t, ht, by rw [hbays, Table.get_erase_self hs.baysRise], fun n hn => by rw [hbays, Table.get_erase_ne _ hn],
      hans, honly, hrec, hkeep⟩

/-- R20: the record REDEFINE_BAY gives a bay, before its `since` is stamped. -/
def Bay.replaced (zone node channel : Nat) (k : Kind) (b : Bay) : Bay :=
  if node = b.node ∧ channel = b.channel then { b with zone := zone, node := node, channel := channel, kind := k }
  else Bay.lost { b with zone := zone, node := node, channel := channel, kind := k }

theorem Bay.stamped_replaced (now : Seconds) (zone node channel : Nat) (k : Kind) (b : Bay) :
    Bay.stamped now b (b.replaced zone node channel k) =
      (let moved := ¬(node = b.node ∧ channel = b.channel)
      { b with
        zone := zone, node := node, channel := channel, kind := k
        state := if moved then .unknown else b.state
        confirm := if moved then 0 else b.confirm
        since := if moved ∧ b.state ≠ .unknown then now else b.since }) := by
  unfold Bay.stamped Bay.replaced
  by_cases hm : node = b.node ∧ channel = b.channel
  · simp [hm]
  · by_cases hst : b.state = .unknown
    · simp [hm, Bay.lost, hst]
    · simp [hm, Bay.lost, hst, Ne.symm hst]

/-- Settles O5: the bay takes its new record, out of one zone's counts and into the other's. -/
theorem redefineBayMoves : Obligations.RedefineBayMoves := by
  intro h s bay zone node channel kind k b ha hbay hzone hnode hchannel hk hget hhas hkind hfree
  have htaken := State.channelTaken_eq_false (s := s.withKey h.key) hfree
  have hserve : serveRequest h.port (.redefineBay bay zone node channel kind) .service (s.withKey h.key) =
      { state := (s.withKey h.key).putBay bay (b.replaced zone node channel k), result := .ok
        payload := bayView bay (Table.get ((s.withKey h.key).putBay bay (b.replaced zone node channel k)).bays bay) } := by
    show serveRedefineBay .service bay zone node channel kind (s.withKey h.key) = _
    unfold serveRedefineBay
    rw [hk]
    dsimp only
    rw [need_pos (by simp [within, hbay, hzone, hnode, hchannel]), need_pos serviceOnly_service]
    simp only [State.withKey_bays, hget]
    rw [need_pos (by simp [hhas, State.has_of_kindOf hkind]), need_pos (by simp [htaken, hkind])]
    rfl
  obtain ⟨t, ht, hbays, hothers, hans, -, hboth, hrec, hkeep⟩ :=
    exec_putsBay (cmd := .redefineBay h bay zone node channel kind) rfl ha hget hserve
  have hz : (b.replaced zone node channel k).zone = zone := by unfold Bay.replaced; split <;> rfl
  have hw : s.watched bay b (b.replaced zone node channel k) =
      s.watched bay b (Bay.stamped s.seconds b (b.replaced zone node channel k)) := by
    unfold Bay.stamped; split <;> rfl
  rw [hw] at hans hkeep
  rw [Bay.stamped_replaced] at hbays hans hkeep
  exact ⟨t, ht, hbays, hothers, hz ▸ hboth, hrec, hans, hkeep⟩

end Sys2Proof.Machine

/-! ## Proofs: what a reading makes of its bay (R3 to R9, R61, R137) -/

namespace Sys2Proof.Machine

/-- R61: a zone's record with another traffic credit. -/
def Zone.credited (credit : Nat) (z : Zone) : Zone := { z with air := { z.air with credit := credit } }

/-- A state with one zone's credit changed, and none of the bays, the signs and the fire monitor. -/
structure State.Credited (s v : State) (zone credit : Nat) : Prop where
  zones : ∀ k, Table.get v.zones k = (Table.get s.zones k).map (fun z => if k = zone then z.credited credit else z)
  bays : v.bays = s.bays
  signs : v.signs = s.signs
  fire : v.fire = s.fire

theorem State.Credited.shown {s v : State} {zone credit : Nat} (h : s.Credited v zone credit) (k : Nat) :
    (Table.get v.zones k).map Zone.shown = (Table.get s.zones k).map Zone.shown := by
  rw [h.zones, Option.map_map]
  congr 1
  funext z
  simp only [Function.comp_apply]
  split <;> rfl

/-- R31, R39: what a bay change makes of the counts and the signs is the same beside any traffic credit. -/
theorem State.Credited.recounts {s u v t : State} {zone credit : Nat} (hv : s.Credited v zone credit)
    (ht : u.Credited t zone credit) (honly : s.recountsOnly u zone) : v.recountsOnly t zone := by
  obtain ⟨hother, hzone, hsigns⟩ := honly
  refine ⟨fun k hk => by rw [ht.zones, hv.zones, hother k hk], fun w hw => ?_, fun n g hg => ?_⟩
  · rw [hv.zones, Option.map_eq_some_iff] at hw
    obtain ⟨z, hz, rfl⟩ := hw
    obtain ⟨z', hz', honly⟩ := hzone z hz
    refine ⟨z'.credited credit, by rw [ht.zones, hz', Option.map_some, if_pos rfl], ?_⟩
    rw [honly, if_pos rfl]
    rfl
  · rw [hv.signs] at hg
    rw [ht.signs]
    exact hsigns n g hg

theorem State.Credited.recounted {s u v t : State} {zone credit : Nat} (hs : s.tablesSound) (hv : s.Credited v zone credit)
    (ht : u.Credited t zone credit) (hrec : s.recounted u) : v.recounted t := by
  obtain ⟨hcounts, hshown⟩ := hrec
  refine ⟨fun k w w' hw hw' => ?_, fun n g g' hg hg' hsound => ?_⟩
  · rw [hv.zones, Option.map_eq_some_iff] at hw
    rw [ht.zones, Option.map_eq_some_iff] at hw'
    obtain ⟨z, hz, rfl⟩ := hw
    obtain ⟨z', hz', rfl⟩ := hw'
    obtain ⟨hcount, hfill⟩ := hcounts k z z' hz hz'
    rw [hv.bays, ht.bays]
    split
    · exact ⟨fun _ hc => hcount hs hc, hfill⟩
    · exact ⟨fun _ => hcount hs, hfill⟩
  · rw [hv.signs] at hg
    rw [ht.signs] at hg'
    exact (hshown n g g' hg hg' (hsound.congr hv.fire.symm fun k _ => (hv.shown k).symm)).congr ht.fire fun k _ =>
      ht.shown k

/-- R61: the credit of a movement. -/
def Zone.movementCredit (arrival : Bool) (z : Zone) : Nat :=
  if arrival then z.settings.arrivalCredit else z.settings.departureCredit

theorem State.addCredit_defined {s : State} {zone : Nat} {z : Zone} (hz : Table.get s.zones zone = some z)
    (arrival : Bool) : s.addCredit zone arrival =
      s.withZones (Table.set s.zones zone (z.credited (min 100 (z.air.credit + z.movementCredit arrival)))) := by
  simp only [State.addCredit, hz]
  rfl

theorem State.Credited.of_set {s : State} {zone : Nat} {z : Zone} (hz : Table.get s.zones zone = some z) (credit : Nat) :
    s.Credited (s.withZones (Table.set s.zones zone (z.credited credit))) zone credit where
  zones k := by
    rw [State.withZones_zones]
    by_cases hk : k = zone
    · subst hk; simp [hz]
    · simp [Table.get_set_ne _ _ hk, hk]
  bays := rfl
  signs := rfl
  fire := rfl

/-- R9, R137: the record a movement in its zone leaves a luminaire group with. -/
theorem Light.moved_eq (now : Seconds) (l : Light) : l.moved now =
    if l.state ≠ .forced then
      { l with
        state := .active, policy := l.settings.active, nextRamp := none
        holdExpiry := some (now + BitVec.ofNat 32 l.settings.hold)
        level := (l.ovr.map (fun o => o.level)).getD l.settings.active }
    else l := by
  unfold Light.moved
  by_cases hf : l.state = .forced
  · simp [hf]
  · cases ho : l.ovr <;> simp [hf, Light.enterActive, Light.relevel, ho]

theorem State.movement_lights (s : State) (zone k : Nat) : Table.get (s.movement zone).lights k =
    (Table.get s.lights k).map (fun l =>
      if l.zone = zone ∧ l.state ≠ .forced then
        { l with
          state := .active, policy := l.settings.active, nextRamp := none
          holdExpiry := some (s.seconds + BitVec.ofNat 32 l.settings.hold)
          level := (l.ovr.map (fun o => o.level)).getD l.settings.active }
      else l) := by
  show Table.get (Table.update _ s.lights) k = _
  rw [Table.get_update]
  congr 1
  funext l
  rw [Light.moved_eq]
  by_cases hz : l.zone = zone <;> simp [hz]

/-- R3: the bay that a head's channel names. -/
theorem State.bayAt_of_unique {s : State} {bay : Nat} {b : Bay} (hget : Table.get s.bays bay = some b)
    (hunique : ∀ e ∈ s.bays, e.1 ≠ bay → ¬(e.2.node = b.node ∧ e.2.channel = b.channel)) :
    s.bayAt b.node b.channel = some bay := by
  unfold State.bayAt
  cases hf : Table.find (fun _ b' => decide (b'.node = b.node) && decide (b'.channel = b.channel)) s.bays with
  | none =>
    have := Table.find_none hf (bay, b) (Table.mem_of_get hget)
    simp at this
  | some n =>
    obtain ⟨a, ha, hp⟩ := Table.find_some hf
    by_contra hne
    exact hunique (n, a) ha (fun e => hne (congrArg some e)) (by simpa using hp)

/-- R4 to R9: what `State.applyReading` is for a bay and its reading, the movement named by its credit. -/
def State.becomes (s : State) (bay : Nat) (b : Bay) (z : Zone) (r : Reading) (b' : Bay) (movement : Option Nat) : Prop :=
  let t := s.applyReading b.node b.channel r
  let credit : Nat := match movement with
    | none => z.air.credit
    | some c => min 100 (z.air.credit + c)
  let credited := s.withZones (Table.set s.zones b.zone { z with air := { z.air with credit := credit } })
  Table.get t.bays bay = some { b' with since := if b'.state = b.state then b.since else s.seconds } ∧
  (∀ n, n ≠ bay → Table.get t.bays n = Table.get s.bays n) ∧
  credited.recountsOnly t b.zone ∧ credited.recounted t ∧
  (∀ k, Table.get t.lights k = (Table.get s.lights k).map (fun l =>
    if movement.isSome = true ∧ l.zone = b.zone ∧ l.state ≠ .forced then
      { l with
        state := .active, policy := l.settings.active, nextRamp := none
        holdExpiry := some (s.seconds + BitVec.ofNat 32 l.settings.hold)
        level := (l.ovr.map (fun o => o.level)).getD l.settings.active }
    else l)) ∧
  (s.watched bay b b').keepsBut t [.bays, .zones, .signs, .lights]

theorem Bay.stamped_eq {now : Seconds} {old b : Bay} (h : b.since = old.since) :
    Bay.stamped now old b = { b with since := if b.state = old.state then old.since else now } := by
  unfold Bay.stamped
  split <;> simp [← h]

/-- The reading is a bay change, with the movement notice after it where one is confirmed. -/
theorem State.becomes_of_read {s : State} {bay : Nat} {b : Bay} {z : Zone} (hs : s.tablesSound)
    (hget : Table.get s.bays bay = some b) (hz : Table.get s.zones b.zone = some z)
    (hunique : ∀ e ∈ s.bays, e.1 ≠ bay → ¬(e.2.node = b.node ∧ e.2.channel = b.channel))
    {r : Reading} {b' : Bay} {notice : Option Bool}
    (hread : b.read s.settings.arrivalConfirm s.settings.departureConfirm r = { bay := b', notice := notice })
    (hkeep : b'.zone = b.zone ∧ b'.since = b.since) :
    s.becomes bay b z r b' (notice.map z.movementCredit) := by
  obtain ⟨hzone, hsince⟩ := hkeep
  obtain ⟨hbay, hothers, honly, hput⟩ := State.putBay_spec hget b'
  have honly := honly hzone
  have hrec := State.putBay_recounted hget hzone
  rw [Bay.stamped_eq hsince] at hbay
  have hlights : (s.putBay bay b').lights = s.lights := s.putBay_keeps bay b' .lights (by decide)
  have hseconds : (s.putBay bay b').seconds = s.seconds := s.putBay_keeps bay b' .seconds (by decide)
  obtain ⟨z', hz', hz'only⟩ := honly.2.1 z hz
  unfold State.becomes
  cases notice with
  | none =>
    have happly : s.applyReading b.node b.channel r = s.putBay bay b' := by
      simp only [State.applyReading, State.bayAt_of_unique hget hunique, hget, hread]
    rw [happly]
    have hv : s.Credited (s.withZones (Table.set s.zones b.zone (z.credited z.air.credit))) b.zone z.air.credit := .of_set hz _
    have ht : (s.putBay bay b').Credited (s.putBay bay b') b.zone z.air.credit := by
      refine ⟨fun k => ?_, rfl, rfl, rfl⟩
      by_cases hk : k = b.zone
      · subst hk
        rw [hz', Option.map_some, if_pos rfl, hz'only]
        rfl
      · simp [hk]
    refine ⟨hbay, hothers, hv.recounts ht honly, hv.recounted hs ht hrec, fun k => ?_, hput.mono (by decide)⟩
    simp [hlights]
  | some arrival =>
    have happly : s.applyReading b.node b.channel r = (s.putBay bay b').movementNotice b.zone arrival := by
      simp only [State.applyReading, State.bayAt_of_unique hget hunique, hget, hread]
    rw [happly]
    have hair : z'.air = z.air ∧ z'.settings = z.settings := by rw [hz'only]; exact ⟨rfl, rfl⟩
    have hadd := State.addCredit_defined hz' arrival
    have hcredit : min 100 (z'.air.credit + z'.movementCredit arrival) =
        min 100 (z.air.credit + z.movementCredit arrival) := by
      rw [hair.1, Zone.movementCredit, hair.2]
      rfl
    rw [hcredit] at hadd
    have hv := State.Credited.of_set hz (min 100 (z.air.credit + z.movementCredit arrival))
    have hc := State.Credited.of_set hz' (min 100 (z.air.credit + z.movementCredit arrival))
    rw [← hadd] at hc
    have ht : (s.putBay bay b').Credited ((s.putBay bay b').movementNotice b.zone arrival) b.zone
        (min 100 (z.air.credit + z.movementCredit arrival)) := ⟨hc.zones, hc.bays, hc.signs, hc.fire⟩
    have hnotice := (s.putBay bay b').movementNotice_keeps b.zone arrival
    refine ⟨?_, fun n hn => ?_, hv.recounts ht honly, hv.recounted hs ht hrec, fun k => ?_, ?_⟩
    · exact ht.bays ▸ hbay
    · exact ht.bays ▸ hothers n hn
    · have hl : ((s.putBay bay b').addCredit b.zone arrival).lights = s.lights :=
        ((s.putBay bay b').addCredit_keeps b.zone arrival .lights (by decide)).trans hlights
      have hsec : ((s.putBay bay b').addCredit b.zone arrival).seconds = s.seconds :=
        ((s.putBay bay b').addCredit_keeps b.zone arrival .seconds (by decide)).trans hseconds
      show Table.get (((s.putBay bay b').addCredit b.zone arrival).movement b.zone).lights k = _
      rw [State.movement_lights, hl, hsec]
      simp
    · exact hput.seq hnotice (by decide) (by decide)

/-- Settles O7: each row of R4 to R7 is what `Bay.read` gives in that state. -/
theorem readingsMoveTheBay : Obligations.ReadingsMoveTheBay := by
  intro s bay b z hs hget hz hunique na nd becomes occupied arrival departure
  have key : ∀ {r : Reading} {b' : Bay} {notice : Option Bool}, b.read na nd r = { bay := b', notice := notice } →
      b'.zone = b.zone ∧ b'.since = b.since → s.becomes bay b z r b' (notice.map z.movementCredit) :=
    fun hread hkeep => State.becomes_of_read hs hget hz hunique hread hkeep
  have arrived : b.read na nd .present = b.occupied → becomes .present occupied arrival := fun h =>
    key (notice := some true) h ⟨rfl, rfl⟩
  have gone : b.read na nd .vacant = b.departed → becomes .vacant { b with state := .free, confirm := 0 } departure := fun h =>
    key (notice := some false) h ⟨rfl, rfl⟩
  have still : ∀ {r : Reading} {b' : Bay}, b.read na nd r = { bay := b', notice := none } →
      b'.zone = b.zone ∧ b'.since = b.since → becomes r b' none := fun h hk => key (notice := none) h hk
  refine ⟨fun hst => ⟨fun hn => arrived ?_, fun hn => still ?_ ⟨rfl, rfl⟩⟩,
    fun hst => ⟨fun hn => arrived ?_, fun hn => still ?_ ⟨rfl, rfl⟩⟩,
    fun hst => still (b' := b.vacant) ?_ ⟨rfl, rfl⟩, fun hst => still ?_ ⟨rfl, rfl⟩,
    fun hst => ⟨still ?_ ⟨rfl, rfl⟩, fun hn => gone ?_, fun hn => still ?_ ⟨rfl, rfl⟩⟩,
    fun hst => ⟨still ?_ ⟨rfl, rfl⟩, fun hn => gone ?_, fun hn => still ?_ ⟨rfl, rfl⟩⟩,
    fun r hr => still (b' := b.lost) ?_ ⟨rfl, rfl⟩⟩
  · rcases hst with h | h | h <;> simp [Bay.read, h, Bay.arriving, hn]
  · rcases hst with h | h | h <;> simp [Bay.read, h, Bay.arriving, Nat.not_le.2 hn]
  · simp [Bay.read, hst, hn]
  · simp [Bay.read, hst, Nat.not_le.2 hn]
  · rcases hst with h | h <;> simp [Bay.read, h]
  · rcases hst with h | h <;> simp [Bay.read, h]
  · simp [Bay.read, hst]
  · simp [Bay.read, hst, hn]
  · simp [Bay.read, hst, Nat.not_le.2 hn]
  · simp [Bay.read, hst]
  · simp [Bay.read, hst, hn]
  · simp [Bay.read, hst, Nat.not_le.2 hn]
  · rcases hr with rfl | rfl <;> rfl

end Sys2Proof.Machine

/-! ## Proofs: the zone requests, the reads, permits, settings and attention (R35 to R44, R182 to R191) -/

namespace Sys2Proof.Machine

/-! ### Signs marked with a zone (R39) -/

theorem State.contentOf_congr_zones {s t : State} (hz : t.zones = s.zones) (hf : t.fire = s.fire) :
    t.contentOf = s.contentOf := by
  funext d
  exact State.contentOf_congr hf fun k _ => by rw [hz]

theorem State.recomputed_congr {s t : State} (hz : t.zones = s.zones) (hf : t.fire = s.fire) :
    t.recomputed = s.recomputed := by
  funext g
  unfold State.recomputed
  rw [State.contentOf_congr_zones hz hf]

theorem State.signsMarked.congr {s s' t t' : State} {zone : Nat} {changed : Bool} (h : s.signsMarked t zone changed)
    (hs : s'.signs = s.signs) (hsigns : t'.signs = t.signs) (hz : t'.zones = t.zones) (hf : t'.fire = t.fire) :
    s'.signsMarked t' zone changed := fun n => by
  rw [hsigns, hs, State.recomputed_congr hz hf]
  exact h n

theorem State.signsMarked.of_eq {s t : State} (h : t.signs = s.signs) (zone : Nat) : s.signsMarked t zone false := fun n => by
  simp [h]

theorem State.markSigns_marked (s : State) (zone : Nat) : s.signsMarked (s.markSigns zone) zone true := fun n => by
  rw [State.markSigns_get, State.recomputed_congr (s := s) (s.markSigns_keeps zone .zones (by decide))
    (s.markSigns_keeps zone .fire (by decide))]
  simp

/-- R34: a change of causes marks the zone's signs where the set is new. -/
theorem State.changeCauses_marked {s : State} {zone : Nat} {z : Zone} (hz : Table.get s.zones zone = some z)
    (f : Causes → Causes) : s.signsMarked (s.changeCauses zone f) zone (decide (f z.causes ≠ z.causes)) := by
  unfold State.changeCauses
  rw [hz]
  dsimp only
  split
  · next h => simpa [h] using State.signsMarked.of_eq (s := s) rfl zone
  · next h =>
    simpa [h] using (State.markSigns_marked (s.withZones (Table.set s.zones zone { z with causes := f z.causes })) zone).congr
      (s' := s) rfl rfl rfl rfl

/-! ### The zone requests (R35 to R43) -/

theorem State.zoneViewOf_of_get {s : State} {zone : Nat} {z : Zone} (h : Table.get s.zones zone = some z) :
    s.zoneViewOf zone = zoneView zone z (s.headCount zone) := by
  simp [State.zoneViewOf, h]

theorem State.headCount_congr {s t : State} (h : t.nodes = s.nodes) (zone : Nat) : t.headCount zone = s.headCount zone := by
  simp [State.headCount, h]

theorem State.permits_operator (s : State) {zone : Nat} (hzone : zone ≤ 31) :
    s.permits .operator (zoneSingle zone) = s.operatorMap.getLsbD zone := by
  rw [State.permits, Bool.eq_iff_iff, decide_eq_true_eq, BitVec.eq_of_getLsbD_eq_iff]
  simp only [BitVec.getLsbD_and, BitVec.getLsbD_not, zoneSingle_getLsbD (Nat.lt_succ_of_le hzone), BitVec.ofNat_eq_ofNat,
    BitVec.getLsbD_zero, Bool.and_eq_false_imp, decide_eq_true_eq]
  constructor
  · intro h
    simpa [Nat.lt_succ_of_le hzone] using h zone (Nat.lt_succ_of_le hzone) rfl
  · rintro h k hk rfl
    simp [h, hk]

/-- R35, R36: what changing the OPERATOR cause makes of the state. -/
theorem State.operatorCause_spec {s : State} {zone : Nat} {z : Zone} (hz : Table.get s.zones zone = some z)
    (closed : Bool) :
    Table.get (s.changeCauses zone (fun k => { k with operator := closed })).zones zone =
      some { z with causes := { z.causes with operator := closed } } ∧
    (∀ k, k ≠ zone →
      Table.get (s.changeCauses zone (fun k => { k with operator := closed })).zones k = Table.get s.zones k) ∧
    s.signsMarked (s.changeCauses zone (fun k => { k with operator := closed })) zone
      (decide (z.causes.operator ≠ closed)) := by
  refine ⟨?_, fun k hk => ?_, ?_⟩
  · rw [State.changeCauses_get, hz]
    simp
  · rw [State.changeCauses_get]
    simp [hk]
  · have hdec : decide (({ z.causes with operator := closed } : Causes) ≠ z.causes) =
        decide (z.causes.operator ≠ closed) := by
      rcases z.causes with ⟨operator, fume, air, fire⟩
      simp [eq_comm]
    rw [← hdec]
    exact State.changeCauses_marked hz _

theorem serveOperatorCause_checked {c : Cls} {s : State} {zone : Nat} (hzone : zone ≤ 31) (closed : Bool) :
    serveOperatorCause closed c zone s =
      need (operatorUp c) .denied s (need (s.permits c (zoneSingle zone)) .denied s (need (Table.has s.zones zone) .noSuch s
        (let s1 := s.changeCauses zone (fun k => { k with operator := closed })
        serveOk (s1.zoneViewOf zone) s1))) := by
  unfold serveOperatorCause
  rw [need_pos (by simp [within, hzone])]

/-- Settles O8, for both requests by the one service they share. -/
theorem closeAndOpenZone : Obligations.CloseAndOpenZone := by
  intro h c s zone cmd body closed ha hzone hcmd
  have hrow : requestRow cmd = some (h, body) := by
    rcases hcmd with ⟨rfl, rfl, -⟩ | ⟨rfl, rfl, -⟩ <;> rfl
  have hserve : serveRequest h.port body c (s.withKey h.key) = serveOperatorCause closed c zone (s.withKey h.key) := by
    rcases hcmd with ⟨-, rfl, rfl⟩ | ⟨-, rfl, rfl⟩ <;> rfl
  rw [serveOperatorCause_checked hzone] at hserve
  refine ⟨fun hc => ?_, fun hc hmap => ?_, fun hc => ?_⟩
  · subst hc
    rw [need_neg (b := operatorUp .facility) rfl] at hserve
    exact exec_refuses hrow ha hserve
  · subst hc
    rw [need_pos (b := operatorUp .operator) rfl, need_neg (by rw [State.permits_operator _ hzone]; exact hmap)] at hserve
    exact exec_refuses hrow ha hserve
  · have hup : operatorUp c = true := by rcases hc with rfl | ⟨rfl, -⟩ <;> rfl
    have hperm : (s.withKey h.key).permits c (zoneSingle zone) = true := by
      rcases hc with rfl | ⟨rfl, hmap⟩
      · rfl
      · rw [State.permits_operator _ hzone]; exact hmap
    rw [need_pos hup, need_pos hperm] at hserve
    refine ⟨fun hnone => ?_, fun z hz => ?_⟩
    · rw [need_neg (by simp [Table.has, hnone])] at hserve
      exact exec_refuses hrow ha hserve
    · rw [need_pos (by simp [Table.has, hz])] at hserve
      obtain ⟨hself, hother, hmarked⟩ := State.operatorCause_spec (s := s.withKey h.key) hz closed
      have hkeeps := State.changeCauses_keeps (s.withKey h.key) zone (fun k => { k with operator := closed })
      obtain ⟨t, ht, hv, hans, hkept⟩ := exec_performs hrow ha hserve
        ((s.withKey_keeps h.key).seq hkeeps (n := [.serviceKey, .zones, .signs]) (by simp) (by simp)) (by simp)
        (hkeeps .serviceKey (by decide))
      dsimp only [serveOk_state, serveOk_result, serveOk_payload] at hv hans
      rw [State.zoneViewOf_of_get hself, State.headCount_congr (hkeeps .nodes (by decide))] at hans
      have hzones := hv .zones (by simp)
      refine ⟨t, ht, hzones ▸ hself, fun k hk => hzones ▸ hother k hk,
        hmarked.congr rfl (hv .signs (by simp)) hzones (hv .fire (by simp)), hans, hkept⟩

/-- Settles O9: a zone's record is made and discarded whole. -/
theorem defineAndRetireZone : Obligations.DefineAndRetireZone := by
  refine ⟨fun h s zone level fields ha hzone hl1 hl2 hf => ?_, fun h s zone z ha hzone hs hz => ?_⟩
  · have hserve : serveRequest h.port (.defineZone zone level fields) .service (s.withKey h.key) =
        need (!Table.has s.zones zone) .alreadyDefined (s.withKey h.key)
          (need ((fieldsApplied fields ZoneSettings.default).consistent level) .badValue (s.withKey h.key)
            (let s1 := (s.withKey h.key).withZones (Table.set s.zones zone
              (Zone.fresh level (fieldsApplied fields ZoneSettings.default) s.fireActive))
            serveOk (s1.zoneViewOf zone) s1)) := by
      show serveDefineZone .service zone level fields (s.withKey h.key) = _
      unfold serveDefineZone
      rw [need_pos (by simp [within, hzone, hl1, hl2, hf]), need_pos serviceOnly_service]
      rfl
    refine ⟨fun hhas => ?_, fun hhas hcon => ?_, fun hhas hcon => ?_⟩
    · rw [need_neg (by simp [hhas])] at hserve
      exact exec_refuses (cmd := .defineZone h zone level fields) rfl ha hserve
    · rw [need_pos (by simp [hhas]), need_neg hcon] at hserve
      exact exec_refuses (cmd := .defineZone h zone level fields) rfl ha hserve
    · rw [need_pos (by simp [hhas]), need_pos hcon] at hserve
      intro z
      obtain ⟨t, ht, hv, hans, hkept⟩ := exec_performs (cmd := .defineZone h zone level fields) rfl ha hserve
        ((s.withKey_keeps h.key).seq (State.withZones_keeps _ _) (n := [.serviceKey, .zones]) (by simp) (by simp)) (by simp) rfl
      have hzones := hv .zones (by simp)
      dsimp only [serveOk_state, serveOk_result, serveOk_payload] at hzones hans
      rw [State.zoneViewOf_of_get (Table.get_set _ _ _)] at hans
      exact ⟨t, ht, by rw [hzones]; exact Table.get_set _ _ _,
        fun k hk => by rw [hzones]; exact Table.get_set_ne _ _ hk, hans, hkept⟩
  · have hserve : serveRequest h.port (.retireZone zone) .service (s.withKey h.key) =
        need (!s.fireActive) .fireLock (s.withKey h.key) (need (!s.zoneInUse zone) .inUse (s.withKey h.key)
          (serveOk (s.zoneViewOf zone) (((s.withKey h.key).withZones (Table.erase s.zones zone)).withFumeSet
            (s.fumeSet &&& ~~~(zoneSingle zone))))) := by
      show serveRetireZone .service zone (s.withKey h.key) = _
      unfold serveRetireZone
      rw [need_pos (by simp [within, hzone]), need_pos serviceOnly_service, need_pos (by simp [Table.has, hz])]
      rfl
    refine ⟨fun hfire => ?_, fun hfire hb hn hl hfa hsi => ?_⟩
    · rw [need_neg (by simp [State.fireActive, hfire])] at hserve
      exact exec_refuses (cmd := .retireZone h zone) rfl ha hserve
    · have hfree : s.zoneInUse zone = false := by
        simp only [State.zoneInUse, Bool.or_eq_false_iff, Table.exists_eq_false]
        exact ⟨⟨⟨⟨fun e he => by simpa using hb e he, fun e he => by simp [hn e he]⟩,
          fun e he => by simpa using hl e he⟩, hfa⟩, hsi⟩
      rw [need_pos (by simp [State.fireActive, hfire]), need_pos (by simp [hfree])] at hserve
      obtain ⟨t, ht, hv, hans, hkept⟩ := exec_performs (cmd := .retireZone h zone) rfl ha hserve
        (((s.withKey_keeps h.key).seq (State.withZones_keeps _ _) (n := [.serviceKey, .zones]) (by decide) (by decide)).seq
          (State.withFumeSet_keeps _ _) (n := [.serviceKey, .zones, .fumeSet]) (by simp) (by simp)) (by simp) rfl
      have hzones : t.zones = Table.erase s.zones zone := hv .zones (by simp)
      dsimp only [serveOk_state, serveOk_result, serveOk_payload] at hans
      rw [State.zoneViewOf_of_get hz] at hans
      exact ⟨t, ht, by rw [hzones]; exact Table.get_erase_self hs.zones.1 _,
        fun k hk => by rw [hzones]; exact Table.get_erase_ne _ hk, hv .fumeSet (by simp), hans, hkept⟩

/-- R42, R72: the record SET_ZONE leaves, field by field. -/
theorem Zone.withSettings_eq (level : Nat) (st : ZoneSettings) (z : Zone) : z.withSettings level st =
    { z with
      level := level
      settings := st
      air := { z.air with
        coAvg := if st.co.weight ≠ z.settings.co.weight then none else z.air.coAvg
        no2Avg := if st.no2.weight ≠ z.settings.no2.weight then none else z.air.no2Avg }
      fill := if st.fullAt ≠ z.settings.fullAt ∨ st.hysteresis ≠ z.settings.hysteresis
        then judgeFill z.fill z.free.guidance st.fullAt st.hysteresis else z.fill } := by
  unfold Zone.withSettings
  dsimp only
  by_cases hfill : st.fullAt = z.settings.fullAt ∧ st.hysteresis = z.settings.hysteresis
  · simp [hfill]
  · have hnew : st.fullAt ≠ z.settings.fullAt ∨ st.hysteresis ≠ z.settings.hysteresis := by
      by_contra hcon
      exact hfill (by simpa using hcon)
    rw [if_neg hfill, if_pos hnew]
    simp [Zone.judged]

/-- Settles O10: the new record in place, its signs marked where the fill state is new. -/
theorem setZoneApplies : Obligations.SetZoneApplies := by
  intro h s zone level fields z ha hzone hlevel hf hz st lv
  have hserve : serveRequest h.port (.setZone zone level fields) .service (s.withKey h.key) =
      need (st.consistent lv) .badValue (s.withKey h.key)
        (serveOk (((s.withKey h.key).setZone zone z (z.withSettings lv st)).zoneViewOf zone)
          ((s.withKey h.key).setZone zone z (z.withSettings lv st))) := by
    have hl : optWithin 1 8 level = true := by
      cases level with
      | none => rfl
      | some v => simpa [optWithin, within] using hlevel v rfl
    show serveSetZone .service zone level fields (s.withKey h.key) = _
    unfold serveSetZone
    rw [need_pos (by simp [within, hzone, hl, hf]), need_pos serviceOnly_service]
    simp only [State.withKey_zones, hz]
    rfl
  refine ⟨fun hcon => ?_, fun hcon => ?_⟩
  · rw [need_neg hcon] at hserve
    exact exec_refuses (cmd := .setZone h zone level fields) rfl ha hserve
  · rw [need_pos hcon] at hserve
    have hset : ((s.withKey h.key).setZone zone z (z.withSettings lv st)).zones =
        Table.set s.zones zone (z.withSettings lv st) := by unfold State.setZone; split <;> rfl
    have hmarked : s.signsMarked ((s.withKey h.key).setZone zone z (z.withSettings lv st)) zone
        (decide ((z.withSettings lv st).fill ≠ z.fill)) := by
      unfold State.setZone
      split
      · next hsame => simpa [hsame] using State.signsMarked.of_eq (s := s) (by rfl) zone
      · next hnew =>
        simpa [hnew] using (State.markSigns_marked ((s.withKey h.key).withZones
          (Table.set s.zones zone (z.withSettings lv st))) zone).congr (s' := s) rfl rfl rfl rfl
    have hkeeps := State.setZone_keeps (s.withKey h.key) zone z (z.withSettings lv st)
    obtain ⟨t, ht, hv, hans, hkept⟩ := exec_performs (cmd := .setZone h zone level fields) rfl ha hserve
      ((s.withKey_keeps h.key).seq hkeeps (n := [.serviceKey, .zones, .signs]) (by simp) (by simp)) (by simp)
      (hkeeps .serviceKey (by decide))
    dsimp only [serveOk_state, serveOk_result, serveOk_payload] at hv hans
    have hzones := (hv .zones (by simp)).trans hset
    rw [State.zoneViewOf_of_get (by rw [hset, Table.get_set]), State.headCount_congr (hkeeps .nodes (by decide))] at hans
    have hmarked := hmarked.congr (s' := s) rfl (hv .signs (by simp)) (hv .zones (by simp)) (hv .fire (by simp))
    rw [Zone.withSettings_eq] at hzones hans hmarked
    exact ⟨t, ht, by rw [hzones, Table.get_set], fun k hk => by rw [hzones, Table.get_set_ne _ _ hk], hmarked, hans, hkept⟩

/-! ### Reads (R44, R100, R133, R152, R171, R184) -/

/-- A read of one record: its view, or NO_SUCH. -/
theorem exec_reads {α : Type} {s : State} {cmd : Instr} {h : Head} {c : Cls} {body : Request} {t : Table α} {n : Nat}
    {l : List Byte} (hr : requestRow cmd = some (h, body)) (ha : s.accepts h c)
    (hs : serveRequest h.port body c (s.withKey h.key) =
      need (Table.has t n) .noSuch (s.withKey h.key) (serveOk l (s.withKey h.key))) {view : α → List Byte}
    (hview : ∀ a, Table.get t n = some a → l = view a) :
    (Table.get t n = none → s.refuses cmd h body .noSuch) ∧
      ∀ a, Table.get t n = some a → ∃ u, exec cmd s = .next u ∧ s.answers u h body .ok (view a) ∧
        s.keepsBut u [.serviceKey, .places h.port] := by
  refine ⟨fun hnone => ?_, fun a hget => ?_⟩
  · rw [need_neg (by simp [Table.has, hnone])] at hs
    exact exec_refuses hr ha hs
  · rw [need_pos (by simp [Table.has, hget]), hview a hget] at hs
    have ⟨hans, hkeep⟩ := State.arrive_unchanged ha body hs
    exact ⟨_, exec_request hr s, hans, hkeep⟩

/-- Settles O11: each read answers the view of the record it finds, and READ_STATUS its own. -/
theorem readsReport : Obligations.ReadsReport := by
  intro h c s ha
  refine ⟨fun n hn => ?_, fun n hn => ?_, fun n hn => ?_, fun n hn => ?_, fun n hn => ?_, ?_⟩
  · refine exec_reads (cmd := .readZone h n) rfl ha (t := s.zones) (l := (s.withKey h.key).zoneViewOf n) ?_
      fun z hz => State.zoneViewOf_of_get (s := s.withKey h.key) hz
    show serveReadZone n (s.withKey h.key) = _
    unfold serveReadZone
    rw [need_pos (by simp [within, hn])]
    rfl
  · refine exec_reads (cmd := .readFan h n) rfl ha (t := s.fans) (l := (s.withKey h.key).fanViewOf n) ?_
      fun g hg => by simp only [State.fanViewOf, State.withKey_fans, hg]; rfl
    show serveReadFan n (s.withKey h.key) = _
    unfold serveReadFan
    rw [need_pos (by simp [within, hn])]
    rfl
  · refine exec_reads (cmd := .readSign h n) rfl ha (t := s.signs) (l := (s.withKey h.key).signViewOf n) ?_
      fun g hg => by simp only [State.signViewOf, State.withKey_signs, hg]
    show serveReadSign n (s.withKey h.key) = _
    unfold serveReadSign
    rw [need_pos (by simp [within, hn])]
    rfl
  · refine exec_reads (cmd := .readLight h n) rfl ha (t := s.lights) (l := (s.withKey h.key).lightViewOf n) ?_
      fun g hg => by simp only [State.lightViewOf, State.withKey_lights, hg]
    show serveReadLight n (s.withKey h.key) = _
    unfold serveReadLight
    rw [need_pos (by simp [within, hn])]
    rfl
  · refine exec_reads (cmd := .readNode h n) rfl ha (t := s.nodes) (l := (s.withKey h.key).nodeViewOf n) ?_
      fun g hg => by simp only [State.nodeViewOf, State.withKey_nodes, hg]; rfl
    show serveReadNode n (s.withKey h.key) = _
    unfold serveReadNode
    rw [need_pos (by simp [within, hn])]
    rfl
  · have hserve : serveRequest h.port .readStatus c (s.withKey h.key) =
        serveOk ((s.withKey h.key).statusView h.port)
          (if s.slot.isSome then s.withKey h.key else (s.withKey h.key).withFreeCount (s.freeCount + 1)) := rfl
    have hview : (s.withKey h.key).statusView h.port = secondsBytes s.seconds ++ [flagByte h.key, byte s.rate.toNat,
        flagByte s.fire.taken, flagByte s.fire.taken, flagByte s.fire.change.isSome] ++ optByte s.fire.zone ++
        optByte (s.fire.pendingZone.map (fun z => z.1)) ++
        [flagByte s.span0.stuck.isSome, flagByte s.span1.stuck.isSome, flagByte s.span2.stuck.isSome,
          flagByte s.span3.stuck.isSome, flagByte s.slot.isSome] ++
        secondsBytes (s.slot.getD (Config.idleSlotExpiry s.freeCount)) ++
        [byte s.queue.length] ++ bytes2 s.bays.length ++ [byte s.zones.length] ++ bytes2 s.nodes.length ++
        [byte s.fans.length, byte s.lights.length, byte s.signs.length] ++
        zoneSetBytes s.facilityMap ++ zoneSetBytes s.operatorMap ++ s.settings.bytes ++
        [flagByte (s.port h.port).waiting.isSome] := by
      have hport : (s.withKey h.key).port h.port = s.port h.port := by cases h.port <;> rfl
      simp [State.statusView, hport, State.fireActive]
    have hkeeps : s.keepsBut (if s.slot.isSome then s.withKey h.key else (s.withKey h.key).withFreeCount (s.freeCount + 1))
        (.serviceKey :: if s.slot = none then [.freeCount] else []) := by
      cases hslot : s.slot with
      | none => exact (s.withKey_keeps h.key).seq (State.withFreeCount_keeps _ _) (by decide) (by decide)
      | some e => exact s.withKey_keeps h.key
    obtain ⟨t, ht, hv, hans, hkept⟩ := exec_performs (cmd := .readStatus h) rfl ha hserve hkeeps
      (by split <;> simp) (by show State.serviceKey (if _ then _ else _) = _; split <;> rfl)
    rw [serveOk_payload, hview] at hans
    exact ⟨t, _, ht, fun v hslot => by rw [hslot]; rfl, hans, hkept⟩

/-! ### Permits and settings (R182, R183) -/

theorem Cls.ofRank_eq_facility {n : Nat} : Cls.ofRank n = some .facility ↔ n = 1 := by
  unfold Cls.ofRank
  split <;> simp_all

theorem Cls.ofRank_eq_operator {n : Nat} : Cls.ofRank n = some .operator ↔ n = 2 := by
  unfold Cls.ofRank
  split <;> simp_all

theorem Mode.ofCode_eq_none {n : Nat} : Mode.ofCode n = none ↔ 2 < n := by
  unfold Mode.ofCode
  split <;> simp_all
  omega

/-- R182: the map a mode gives, by the mode's number. -/
theorem permitMap_ofCode {mode : Nat} (hm : mode ≤ 2) : ∃ m, Mode.ofCode mode = some m ∧ ∀ current given : ZoneSet,
    permitMap m current given =
      if mode = 0 then given else if mode = 1 then current ||| given else current &&& ~~~given := by
  obtain rfl | rfl | rfl : mode = 0 ∨ mode = 1 ∨ mode = 2 := by omega
  · exact ⟨.replace, rfl, fun _ _ => rfl⟩
  · exact ⟨.add, rfl, fun _ _ => rfl⟩
  · exact ⟨.remove, rfl, fun _ _ => rfl⟩

theorem serveSetPermit_badValue {c : Cls} {cls mode : Nat} (h : cls ≠ 1 ∧ cls ≠ 2 ∨ 2 < mode) (zones : ZoneSet)
    (s : State) : serveSetPermit c cls mode zones s = refuse .badValue s := by
  unfold serveSetPermit
  split
  · next hc hm =>
    rcases h with ⟨h1, -⟩ | h
    · exact absurd (Cls.ofRank_eq_facility.1 hc) h1
    · simp [Mode.ofCode_eq_none.2 h] at hm
  · next hc hm =>
    rcases h with ⟨-, h2⟩ | h
    · exact absurd (Cls.ofRank_eq_operator.1 hc) h2
    · simp [Mode.ofCode_eq_none.2 h] at hm
  · rfl

theorem State.withFacilityMap_keeps (s : State) (k : Bool) (m : ZoneSet) :
    s.keepsBut { s.withKey k with facilityMap := m } [.serviceKey, .facilityMap] := by
  intro f hf
  cases f with
  | facilityMap => simp at hf
  | serviceKey => simp at hf
  | link p => cases p <;> rfl
  | places p => cases p <;> rfl
  | enables p => cases p <;> rfl
  | items p => cases p <;> rfl
  | span i => cases i <;> rfl
  | _ => rfl

theorem State.withOperatorMap_keeps (s : State) (k : Bool) (m : ZoneSet) :
    s.keepsBut { s.withKey k with operatorMap := m } [.serviceKey, .operatorMap] := by
  intro f hf
  cases f with
  | operatorMap => simp at hf
  | serviceKey => simp at hf
  | link p => cases p <;> rfl
  | places p => cases p <;> rfl
  | enables p => cases p <;> rfl
  | items p => cases p <;> rfl
  | span i => cases i <;> rfl
  | _ => rfl

/-- Settles O32: range before class before effect. -/
theorem permitsAndSettings : Obligations.PermitsAndSettings := by
  intro h c s ha
  refine ⟨fun cls mode zones => ?_, fun fields => ?_⟩
  · intro result
    refine ⟨fun hbad => ?_, fun hcls hmode hc => ?_, fun hc hmode => ?_⟩
    · exact exec_refuses (cmd := .setPermit h cls mode zones) rfl ha (serveSetPermit_badValue hbad _ _)
    · obtain ⟨m, hm, -⟩ := permitMap_ofCode hmode
      have hno : serviceOnly c = false := by simpa [serviceOnly] using hc
      refine exec_refuses (cmd := .setPermit h cls mode zones) rfl ha ?_
      show serveSetPermit c cls mode zones (s.withKey h.key) = _
      rcases hcls with rfl | rfl <;> simp [serveSetPermit, Cls.ofRank, hm, hno]
    · subst hc
      obtain ⟨m, hm, hmap⟩ := permitMap_ofCode hmode
      refine ⟨?_, ?_⟩
      · have hserve : serveRequest h.port (.setPermit 1 mode zones) .service (s.withKey h.key) =
            serveOk (zoneSetBytes (permitMap m s.facilityMap zones))
              { s.withKey h.key with facilityMap := permitMap m s.facilityMap zones } := by
          show serveSetPermit .service 1 mode zones (s.withKey h.key) = _
          simp [serveSetPermit, Cls.ofRank, hm]
        have hkeeps := s.withFacilityMap_keeps h.key (permitMap m s.facilityMap zones)
        obtain ⟨t, ht, hv, hans, hkept⟩ := exec_performs (cmd := .setPermit h 1 mode zones) rfl ha hserve hkeeps (by simp) rfl
        have hfm : t.facilityMap = permitMap m s.facilityMap zones := hv .facilityMap (by simp)
        exact ⟨t, ht, hfm.trans (hmap _ _), by rw [hfm]; exact hans, hkept⟩
      · have hserve : serveRequest h.port (.setPermit 2 mode zones) .service (s.withKey h.key) =
            serveOk (zoneSetBytes (permitMap m s.operatorMap zones))
              { s.withKey h.key with operatorMap := permitMap m s.operatorMap zones } := by
          show serveSetPermit .service 2 mode zones (s.withKey h.key) = _
          simp [serveSetPermit, Cls.ofRank, hm]
        have hkeeps := s.withOperatorMap_keeps h.key (permitMap m s.operatorMap zones)
        obtain ⟨t, ht, hv, hans, hkept⟩ := exec_performs (cmd := .setPermit h 2 mode zones) rfl ha hserve hkeeps (by simp) rfl
        have hom : t.operatorMap = permitMap m s.operatorMap zones := hv .operatorMap (by simp)
        exact ⟨t, ht, hom.trans (hmap _ _), by rw [hom]; exact hans, hkept⟩
  · have hserve : serveRequest h.port (.setPart fields) c (s.withKey h.key) =
        need (partFieldsInRange fields) .badValue (s.withKey h.key) (need (serviceOnly c) .denied (s.withKey h.key)
          (serveOk (partFieldsApplied fields s.settings).bytes
            ((s.withKey h.key).withSettings (partFieldsApplied fields s.settings)))) := rfl
    refine ⟨fun hbad => ?_, fun hrange hc => ?_, fun hrange hc => ?_⟩
    · rw [need_neg hbad] at hserve
      exact exec_refuses (cmd := .setPart h fields) rfl ha hserve
    · rw [need_pos hrange, need_neg (by simpa [serviceOnly] using hc)] at hserve
      exact exec_refuses (cmd := .setPart h fields) rfl ha hserve
    · subst hc
      rw [need_pos hrange, need_pos serviceOnly_service] at hserve
      obtain ⟨t, ht, hv, hans, hkept⟩ := exec_performs (cmd := .setPart h fields) rfl ha hserve
        ((s.withKey_keeps h.key).seq (State.withSettings_keeps _ _) (n := [.serviceKey, .settings]) (by decide) (by decide))
        (by simp) rfl
      exact ⟨t, ht, hv .settings (by simp), hans, hkept⟩

/-! ### Attention (R187 to R191) -/

/-- R190: the report is of the first item of the class, with how many are pending. -/
theorem attReport_cons {a : AttSet} {k : AttClass} {object : Nat} {reason : Reason} {rest : List (Nat × Reason)}
    (h : a.items k = (object, reason) :: rest) : attReport a (some k) =
      [byte k.code] ++ bytes2 object ++ [byte reason.code] ++ bytes2 (a.items k).length := by
  simp [attReport, h]

theorem attReport_empty {a : AttSet} {k : Option AttClass} (h : ∀ c, k = some c → a.items c = []) :
    attReport a k = [255, 0, 0, 0, 0, 0] := by
  cases k with
  | none => rfl
  | some c => simp only [attReport, h c rfl]; rfl

theorem AttClass.ofCode_code (k : AttClass) : AttClass.ofCode k.code = some k := by cases k <;> rfl

/-- R190: a read without a class takes the highest enabled class with an item. -/
theorem AttSet.chosen_none {a : AttSet} {k : AttClass} (he : a.enabled k = true) (hi : a.items k ≠ [])
    (hbefore : ∀ j : AttClass, j.code < k.code → a.enabled j = false ∨ a.items j = []) : a.chosen none = some k := by
  have hk : (a.enabled k && !(a.items k).isEmpty) = true := by simp [he, hi]
  have hj : ∀ j : AttClass, j.code < k.code → (a.enabled j && !(a.items j).isEmpty) = false := fun j hj => by
    rcases hbefore j hj with h | h <;> simp [h]
  have order : ∀ k : AttClass, ∃ before after, attClasses = before ++ k :: after ∧ ∀ j ∈ before, j.code < k.code := by
    intro k
    cases k
    · exact ⟨[], attClasses.drop 1, by decide, by decide⟩
    · exact ⟨attClasses.take 1, attClasses.drop 2, by decide, by decide⟩
    · exact ⟨attClasses.take 2, attClasses.drop 3, by decide, by decide⟩
    · exact ⟨attClasses.take 3, attClasses.drop 4, by decide, by decide⟩
    · exact ⟨attClasses.take 4, attClasses.drop 5, by decide, by decide⟩
    · exact ⟨attClasses.take 5, [], by decide, by decide⟩
  obtain ⟨before, after, hlist, hlt⟩ := order k
  rw [AttSet.chosen, List.find?_eq_some_iff_append]
  exact ⟨hk, before, after, hlist, fun j hmem => by simp [hj j (hlt j hmem)]⟩

theorem AttSet.chosen_none_empty {a : AttSet} (h : ∀ k : AttClass, a.enabled k = false ∨ a.items k = []) :
    a.chosen none = none := by
  rw [AttSet.chosen, List.find?_eq_none]
  intro k _
  rcases h k with h | h <;> simp [h]

/-- R188, R191: a request that gives its port a new attention set. -/
theorem exec_withAtt {s : State} {cmd : Instr} {h : Head} {c : Cls} {body : Request} {a : AttSet} {l : List Byte}
    {touched : List Field} (hr : requestRow cmd = some (h, body)) (ha : s.accepts h c)
    (hs : serveRequest h.port body c (s.withKey h.key) =
      serveOk l ((s.withKey h.key).withPort h.port ((s.port h.port).withAtt a)))
    (hk : s.keepsBut (s.withPort h.port ((s.port h.port).withAtt a)) touched) :
    ∃ t, exec cmd s = .next t ∧
      t.port h.port = { s.port h.port with att := a, attn := a.asserted, service := some (answer h body .ok l) } ∧
      t.serviceKey = h.key ∧ s.keepsBut t (.serviceKey :: .places h.port :: touched) := by
  refine ⟨_, exec_answered hr ha hs, ?_, ?_, ?_⟩
  · simp [State.answered, State.occupy, answer, PortState.withAtt]
  · refine (State.answered_keeps _ _ _ _ _ .serviceKey (by simp)).trans ?_
    rw [serveOk_state]
    cases h.port <;> rfl
  · have hkey : s.keepsBut ((s.withKey h.key).withPort h.port ((s.port h.port).withAtt a)) (.serviceKey :: touched) := by
      have hsame : (s.withKey h.key).withPort h.port ((s.port h.port).withAtt a) =
          (s.withPort h.port ((s.port h.port).withAtt a)).withKey h.key := by cases h.port <;> rfl
      rw [hsame]
      exact hk.seq (State.withKey_keeps _ _) (by simp) (by simp)
    exact hkey.seq (State.answered_keeps _ _ _ _ _) (by simp) (by simp)

theorem State.withItems_keeps (s : State) (p : Port) (a : AttSet) (h : a.enables = (s.port p).att.enables) :
    s.keepsBut (s.withPort p ((s.port p).withAtt a)) [.items p] := by
  have hk := s.withAtt_keeps p a
  intro f hf
  by_cases he : f = .enables p
  · subst he
    show ((s.withPort p ((s.port p).withAtt a)).port p).att.enables = _
    rw [State.withPort_port]
    exact h
  · exact hk f (by simp only [List.mem_cons, List.not_mem_nil, or_false, not_or] at hf ⊢; exact ⟨he, hf⟩)

theorem serveClearAttention_badValue {p : Port} {s : State} {k : AttClass} {object : Nat} (h : k.objects ≤ object) :
    serveClearAttention p k.code object s = refuse .badValue s := by
  simp only [serveClearAttention, AttClass.ofCode_code]
  rw [need_neg (by simpa using h)]

theorem serveClearAttention_none {p : Port} {s : State} {k : AttClass} {object : Nat} (h : object < k.objects)
    (hn : Table.get ((s.port p).att.items k) object = none) :
    serveClearAttention p k.code object s = serveOk [byte 0, byte 0] s := by
  simp only [serveClearAttention, AttClass.ofCode_code, hn]
  rw [need_pos (by simpa using h)]

theorem serveClearAttention_some {p : Port} {s : State} {k : AttClass} {object : Nat} {r : Reason} (h : object < k.objects)
    (hr : Table.get ((s.port p).att.items k) object = some r) :
    serveClearAttention p k.code object s = serveOk [byte 1, byte r.code]
      (s.withPort p ((s.port p).withAtt ((s.port p).att.clear k object))) := by
  simp only [serveClearAttention, AttClass.ofCode_code, hr]
  rw [need_pos (by simpa using h)]

/-- Settles O33: the port's own set is read, and written by its own requests. -/
theorem attentionServed : Obligations.AttentionServed := by
  intro h c s ha a report
  have hport : (s.withKey h.key).port h.port = s.port h.port := by cases h.port <;> rfl
  have hread : ∀ cls : Option Nat, optWithin 0 5 cls = true →
      serveRequest h.port (.readAttention cls) c (s.withKey h.key) =
        { state := s.withKey h.key, result := .ok, payload := attReport a (a.chosen (cls.bind AttClass.ofCode)) } :=
    fun cls hc => by
      show serveReadAttention h.port cls (s.withKey h.key) = _
      unfold serveReadAttention
      rw [need_pos hc, hport]
      rfl
  refine ⟨fun k => ⟨fun object reason rest hi => ⟨(attReport_cons hi).symm, fun hs e he => ?_⟩, ?_⟩, ?_,
    fun k object hobj => ⟨fun hnone => ?_, fun r hr => ?_⟩, fun k object hobj => ?_, fun m hm => ?_⟩
  · have hrise := (hs k).1
    rw [hi] at hrise
    exact (List.pairwise_cons.1 hrise).1 e.1 (List.mem_map.2 ⟨e, he, rfl⟩)
  · have ⟨hans, hkeep⟩ := State.arrive_unchanged ha (.readAttention (some k.code)) (hread (some k.code) (by cases k <;> rfl))
    refine ⟨_, exec_request (cmd := .readAttention h (some k.code)) rfl s, ?_, hkeep⟩
    have hrep : attReport a (a.chosen ((some k.code).bind AttClass.ofCode)) =
        if a.items k = [] then [255, 0, 0, 0, 0, 0] else attReport a (some k) := by
      rw [Option.bind_some, AttClass.ofCode_code]
      by_cases hi : a.items k = []
      · rw [if_pos hi, attReport_empty]
        simp [AttSet.chosen, hi]
      · simp [AttSet.chosen, hi]
    rw [← hrep]
    exact hans
  · have ⟨hans, hkeep⟩ := State.arrive_unchanged ha (.readAttention none) (hread none rfl)
    refine ⟨_, exec_request (cmd := .readAttention h none) rfl s, fun k he hi hbefore => ?_, fun hall => ?_, hkeep⟩
    · rw [← AttSet.chosen_none he hi hbefore]
      exact hans
    · rw [Option.bind_none, AttSet.chosen_none_empty hall] at hans
      exact hans
  · have hserve := serveClearAttention_none (s := s.withKey h.key) hobj (by rw [hport]; exact hnone)
    exact exec_unchanged (cmd := .clearAttention h k.code object) rfl ha hserve rfl
  · have hserve := serveClearAttention_some (s := s.withKey h.key) hobj (by rw [hport]; exact hr)
    rw [hport] at hserve
    exact exec_withAtt (cmd := .clearAttention h k.code object) rfl ha hserve
      (s.withItems_keeps h.port (a.clear k object) (by cases k <;> rfl))
  · exact exec_refuses (cmd := .clearAttention h k.code object) rfl ha (serveClearAttention_badValue hobj)
  · have hserve : serveRequest h.port (.setAttentionEnable m) c (s.withKey h.key) =
        serveOk [m] ((s.withKey h.key).withPort h.port ((s.port h.port).withAtt { a with enables := m })) := by
      show serveSetAttentionEnable h.port m (s.withKey h.key) = _
      unfold serveSetAttentionEnable
      rw [need_pos (by simpa using hm), hport]
    exact exec_withAtt (cmd := .setAttentionEnable h m) rfl ha hserve (s.withAtt_keeps h.port _)

end Sys2Proof.Machine

/-! ## Proofs: the fan requests (R82 to R85, R94 to R99) -/

namespace Sys2Proof.Machine

/-! ### What an availability notice can move (R70, R71, R39) -/

theorem State.airOnly.of_eq {s t : State} (hz : t.zones = s.zones) (hg : t.signs = s.signs) : s.airOnly t := by
  refine ⟨fun k h => by rw [hz]; exact h, fun k z h => ⟨z, by rw [hz]; exact h, rfl⟩, fun n h => by rw [hg]; exact h,
    fun n g h => ⟨g, by rw [hg]; exact h, rfl⟩⟩

theorem State.airOnly.trans {s t u : State} (h : s.airOnly t) (h' : t.airOnly u) : s.airOnly u := by
  obtain ⟨hz0, hz, hg0, hg⟩ := h
  obtain ⟨hz0', hz', hg0', hg'⟩ := h'
  refine ⟨fun k hk => hz0' k (hz0 k hk), fun k z hk => ?_, fun n hn => hg0' n (hg0 n hn), fun n g hn => ?_⟩
  · obtain ⟨z1, hk1, e1⟩ := hz k z hk
    obtain ⟨z2, hk2, e2⟩ := hz' k z1 hk1
    exact ⟨z2, hk2, by rw [e2, e1]⟩
  · obtain ⟨g1, hn1, e1⟩ := hg n g hn
    obtain ⟨g2, hn2, e2⟩ := hg' n g1 hn1
    exact ⟨g2, hn2, by rw [e2, e1]⟩

theorem State.airOnly.behind {s t u : State} (h' : t.airOnly u) (h : s.airOnly t) : s.airOnly u := h.trans h'

theorem State.airOnly.congr {s s' t t' : State} (h : s.airOnly t) (hz : s'.zones = s.zones) (hg : s'.signs = s.signs)
    (hz' : t'.zones = t.zones) (hg' : t'.signs = t.signs) : s'.airOnly t' := by
  unfold State.airOnly
  rw [hz, hg, hz', hg']
  exact h

theorem State.airOnly.forEach {f : Nat → State → State} (hf : ∀ n s, State.airOnly s (f n s)) (ns : List Nat)
    (s : State) : s.airOnly (State.forEach f ns s) := by
  induction ns generalizing s with
  | nil => exact .of_eq rfl rfl
  | cons n ns ih => exact (hf n s).trans (ih (f n s))

theorem State.judgeAirCause_marked (s : State) (zone : Nat) : ∃ b, s.signsMarked (s.judgeAirCause zone) zone b := by
  unfold State.judgeAirCause
  split
  · exact ⟨false, .of_eq rfl zone⟩
  · next z hz => exact ⟨_, State.changeCauses_marked hz _⟩

/-- R122, R123: marked signs take new content and a new dirty flag alone. -/
theorem State.signsMarked.only {s t : State} {zone : Nat} {b : Bool} (h : s.signsMarked t zone b) :
    (∀ n, Table.get s.signs n = none → Table.get t.signs n = none) ∧
    ∀ n g, Table.get s.signs n = some g → ∃ g', Table.get t.signs n = some g' ∧
      g' = { g with content := g'.content, dirty := g'.dirty } := by
  refine ⟨fun n hn => by rw [h n, hn]; rfl, fun n g hn => ⟨_, by rw [h n, hn, Option.map_some], ?_⟩⟩
  split
  · exact State.recomputed_only _ g
  · rfl

/-- R71: judging a zone's AIR cause marks its signs. -/
theorem State.judgeAirCause_airOnly (s : State) (zone : Nat) : s.airOnly (s.judgeAirCause zone) := by
  obtain ⟨b, hmarked⟩ := s.judgeAirCause_marked zone
  refine ⟨fun k hk => ?_, fun k z hk => ?_, hmarked.only⟩
  · rw [State.judgeAirCause_get, hk]
    rfl
  · refine ⟨_, by rw [State.judgeAirCause_get, hk, Option.map_some], ?_⟩
    split <;> rfl

theorem State.judgeStatus_airOnly (s : State) (zone : Nat) : s.airOnly (s.judgeStatus zone) := by
  unfold State.judgeStatus
  split
  · exact .of_eq rfl rfl
  · next z hz =>
    dsimp only
    split
    · exact .of_eq rfl rfl
    · refine (State.judgeAirCause_airOnly _ zone).behind ⟨fun k hk => ?_, fun k z' hk => ?_, fun _ hn => hn, fun _ g hn => ⟨g, hn, rfl⟩⟩
      · have hne : k ≠ zone := fun e => by simp [e, hz] at hk
        rw [State.raise_zones, State.withZones_zones, Table.get_set_ne _ _ hne, hk]
      · rw [State.raise_zones, State.withZones_zones]
        by_cases hk' : k = zone
        · subst hk'
          obtain rfl : z = z' := Option.some.inj (hz.symm.trans hk)
          exact ⟨_, Table.get_set _ _ _, rfl⟩
        · exact ⟨z', by rw [Table.get_set_ne _ _ hk', hk], rfl⟩

theorem State.availabilityNotice_airOnly (s : State) (m : ZoneSet) : s.airOnly (s.availabilityNotice m) :=
  .forEach (fun n s => s.judgeStatus_airOnly n) _ _

/-- A change of neither the zones nor the signs, and a notice. -/
theorem State.airOnly.notice {s u : State} (h : s.airOnly u) (m : ZoneSet) : s.airOnly (u.availabilityNotice m) :=
  h.trans (u.availabilityNotice_airOnly m)

theorem State.airOnly_notice {s u : State} (hz : u.zones = s.zones) (hg : u.signs = s.signs) (m : ZoneSet) :
    s.airOnly (u.availabilityNotice m) := (State.airOnly.of_eq hz hg).notice m

theorem State.airOnly.after {s u t : State} (h : u.airOnly t) (hz : u.zones = s.zones) (hg : u.signs = s.signs) :
    s.airOnly t := (State.airOnly.of_eq hz hg).trans h

theorem State.enterFault_airOnly (s : State) (group : Nat) (c : FaultCause) : s.airOnly (s.enterFault group c) := by
  unfold State.enterFault
  split
  · exact .of_eq rfl rfl
  · refine State.airOnly_notice ?_ ?_ _ <;> rfl

theorem State.judgeDrives_airOnly (s : State) (group : Nat) : s.airOnly (s.judgeDrives group) := by
  cases h : Table.get s.fans group with
  | none => simpa [State.judgeDrives, h] using State.airOnly.of_eq (s := s) rfl rfl
  | some g =>
    rw [State.judgeDrives_eq h]
    split
    · exact (State.enterFault_airOnly _ group _).after rfl rfl
    · split <;> exact .of_eq rfl rfl

theorem State.isolate_airOnly (s : State) (group : Nat) (g : Fan) : s.airOnly (s.isolate group g) := by
  unfold State.isolate
  dsimp only
  split
  · refine State.airOnly_notice ?_ ?_ _ <;> rfl
  · exact .of_eq rfl rfl

theorem State.returnToService_airOnly (s : State) (group : Nat) (g : Fan) : s.airOnly (s.returnToService group g) := by
  have h : s.airOnly ((s.changeFan group (fun g => { g with state := .stopped, faultCause := none })).judgeDrives group) :=
    (State.judgeDrives_airOnly _ group).after rfl rfl
  unfold State.returnToService
  dsimp only
  split
  · exact h.notice _
  · exact h

theorem State.installFan_airOnly (s : State) (group : Nat) (g : Fan) (m : ZoneSet) : s.airOnly (s.installFan group g m) := by
  unfold State.installFan
  dsimp only
  refine State.airOnly.notice (State.airOnly.trans ?_ (State.judgeDrives_airOnly _ _)) _
  split
  · exact .of_eq (State.placeFire_zones _ _) (State.placeFire_keeps _ _ .signs (by decide))
  · exact .of_eq rfl rfl

theorem State.changeFanWhole_airOnly (s : State) (group : Nat) (g : Fan) (zones : ZoneSet) (drives : List Nat)
    (st : FanSettings) : s.airOnly (s.changeFanWhole group g zones drives st) := by
  unfold State.changeFanWhole
  dsimp only
  generalize hu : (if zones = g.served then s.withFans (Table.set s.fans group (g.changed zones drives st))
    else (s.withFans (Table.set s.fans group (g.changed zones drives st))).retarget group) = u
  have h1 : s.airOnly u := by rw [← hu]; split <;> exact .of_eq rfl rfl
  have h2 : s.airOnly (if drives = g.drives.map (fun d => d.node) then u else u.judgeDrives group) := by
    split
    · exact h1
    · exact h1.trans (u.judgeDrives_airOnly group)
  split
  · exact h2
  · exact h2.notice _

/-! ### PUSH_OVERRIDE and POP_OVERRIDE (R82, R83), and the target (R85) -/

theorem State.fanZones_of_get {s : State} {group : Nat} {g : Fan} (h : Table.get s.fans group = some g) :
    s.fanZones group = g.served := by
  simp [State.fanZones, h]

theorem State.fanViewOf_of_get {s : State} {group : Nat} {g : Fan} (h : Table.get s.fans group = some g) :
    s.fanViewOf group = s.fanView group g := by
  simp [State.fanViewOf, h]

theorem State.fanView_congr {s t : State} (hq : t.queue = s.queue) (hn : t.nodes = s.nodes) : t.fanView = s.fanView := by
  funext n g
  have hdrive : t.driveBytes = s.driveBytes := by
    funext d
    simp only [State.driveBytes, State.driveFailed, hn]
  unfold State.fanView
  rw [hq, hdrive]

theorem Fan.outranks_eq_true {g : Fan} {c : Cls} :
    g.outranks c = true ↔ ∃ e, g.stack.getLast? = some e ∧ c.rank < e.cls.rank := by
  simp [Fan.outranks, Fan.top, Option.any_eq_true]

theorem Fan.fireTop_eq_true {g : Fan} : g.fireTop = true ↔ ∃ e, g.stack.getLast? = some e ∧ e.cls = .fire := by
  simp [Fan.fireTop, Fan.top, Option.any_eq_true]

/-- R82, R83, R85: a request that gives a group a new stack, its target following at once. -/
theorem exec_restacks {s : State} {cmd : Instr} {h : Head} {c : Cls} {body : Request} {group : Nat} {g : Fan}
    {k : Fan → List Entry} (hr : requestRow cmd = some (h, body)) (ha : s.accepts h c)
    (hget : Table.get s.fans group = some g)
    (hs : serveRequest h.port body c (s.withKey h.key) =
      (let s1 := ((s.withKey h.key).changeFan group (fun g => { g with stack := k g })).retarget group
      serveOk (s1.fanViewOf group) s1)) :
    let g' := { g with stack := k g, target := s.targetOf { g with stack := k g } }
    ∃ t, exec cmd s = .next t ∧ Table.get t.fans group = some g' ∧
      (∀ n, n ≠ group → Table.get t.fans n = Table.get s.fans n) ∧
      s.answers t h body .ok (s.fanView group g') ∧ s.keepsBut t [.serviceKey, .places h.port, .fans] := by
  intro g'
  set v := ((s.withKey h.key).changeFan group (fun g => { g with stack := k g })).retarget group with hv
  have hfans : v.fans = Table.set s.fans group g' := by
    rw [hv, State.retarget_fans, State.changeFan_fans, Table.modify_modify, State.withKey_fans, Table.modify_of_get hget]
    rfl
  have hkeeps : s.keepsBut v [.serviceKey, .fans] :=
    ((s.withKey_keeps h.key).seq (State.changeFan_keeps _ _ _) (n := [.serviceKey, .fans]) (by decide) (by decide)).seq
      (State.retarget_keeps _ _) (by decide) (by decide)
  obtain ⟨t, ht, htv, hans, hkept⟩ := exec_performs hr ha hs hkeeps (by simp) rfl
  dsimp only [serveOk_payload, serveOk_result] at hans
  rw [State.fanViewOf_of_get (by rw [hfans, Table.get_set]), State.fanView_congr (s := s) (t := v) rfl rfl] at hans
  have htf : t.fans = Table.set s.fans group g' := (htv .fans (by simp)).trans hfans
  exact ⟨t, ht, by rw [htf, Table.get_set], fun n hn => by rw [htf, Table.get_set_ne _ _ hn], hans, hkept⟩

theorem servePushOverride_checked {c : Cls} {s : State} {group level tag : Nat} {duration : Option Nat} {g : Fan}
    (hgroup : group ≤ 23) (hlevel : level ≤ 100) (hduration : ∀ d, duration = some d → 1 ≤ d ∧ d ≤ 86400) (htag : tag ≤ 255)
    (hget : Table.get s.fans group = some g) (hp : s.permits c g.served = true) :
    servePushOverride c group level duration tag s =
      need (!g.outranks c) .outranked s (need (decide (g.stack.length < Config.stackDepth)) .stackFull s
        (let s1 := (s.changeFan group (fun g => { g with stack := g.stack ++
          [{ cls := c, level := level, expiry := duration.map s.expiryIn, tag := tag }] })).retarget group
        serveOk (s1.fanViewOf group) s1)) := by
  have hd : optWithin 1 86400 duration = true := by
    cases duration with
    | none => rfl
    | some d => simpa [optWithin, within] using hduration d rfl
  unfold servePushOverride
  rw [need_pos (by simp [within, hgroup, hlevel, htag, hd]), need_pos (by rw [State.fanZones_of_get hget]; exact hp), hget]

theorem servePopOverride_checked {c : Cls} {s : State} {group : Nat} {g : Fan} (hgroup : group ≤ 23)
    (hget : Table.get s.fans group = some g) (hp : s.permits c g.served = true) :
    servePopOverride c group s =
      need (!g.stack.isEmpty) .stackEmpty s (need (!(g.fireTop || g.outranks c)) .outranked s
        (let s1 := (s.changeFan group (fun g => { g with stack := g.stack.dropLast })).retarget group
        serveOk (s1.fanViewOf group) s1)) := by
  unfold servePopOverride
  rw [need_pos (by simp [within, hgroup]), need_pos (by rw [State.fanZones_of_get hget]; exact hp), hget]

/-- R85: the target under a FIRE entry, in FUME, under another entry, and without one. -/
theorem State.targetOf_spec (s : State) (g : Fan) :
    (∀ e, g.stack.getLast? = some e → e.cls = .fire → s.targetOf g = e.level) ∧
    ((∀ e, g.stack.getLast? = some e → e.cls ≠ .fire) →
      ((∃ k z, g.served.getLsbD k = true ∧ Table.get s.zones k = some z ∧ z.air.fume = .fume) → s.targetOf g = 100) ∧
      ((∀ k z, g.served.getLsbD k = true → Table.get s.zones k = some z → z.air.fume ≠ .fume) →
        (∀ e, g.stack.getLast? = some e → s.targetOf g = e.level) ∧
        (g.stack = [] → s.targetOf g = s.autoTarget g.served))) := by
  have hfree : (∀ k z, g.served.getLsbD k = true → Table.get s.zones k = some z → z.air.fume ≠ .fume) →
      s.fumeServed g.served = false := fun h => by
    by_contra hne
    obtain ⟨k, z, hk, hz, hf⟩ := State.fumeServed_iff.1 (by simpa using hne)
    exact h k z hk hz hf
  refine ⟨fun e he hc => ?_, fun hnot => ⟨fun hfume => ?_, fun hno => ⟨fun e he => ?_, fun hnil => ?_⟩⟩⟩
  · simp [State.targetOf, Fan.top, he, Fan.fireTop_eq_true.2 ⟨e, he, hc⟩]
  · simp [State.targetOf, State.fumeServed_iff.2 hfume, Fan.fireTop_eq_false.2 hnot]
  · simp [State.targetOf, Fan.top, he, hfree hno]
  · simp [State.targetOf, Fan.top, hnil, hfree hno]

/-- The greatest of a list's values, counted on from a first one. -/
theorem foldl_max_spec {α : Type} (f : α → Nat) (l : List α) (m : Nat) :
    m ≤ l.foldl (fun m a => max m (f a)) m ∧ (∀ a ∈ l, f a ≤ l.foldl (fun m a => max m (f a)) m) ∧
      (l.foldl (fun m a => max m (f a)) m = m ∨ ∃ a ∈ l, f a = l.foldl (fun m a => max m (f a)) m) := by
  induction l generalizing m with
  | nil => simp
  | cons a l ih =>
    obtain ⟨hm, hall, hone⟩ := ih (max m (f a))
    simp only [List.foldl_cons, List.mem_cons, forall_eq_or_imp, exists_eq_or_imp]
    refine ⟨(Nat.le_max_left _ _).trans hm, ⟨(Nat.le_max_right _ _).trans hm, hall⟩, ?_⟩
    rcases hone with hone | hone
    · rw [hone]
      rcases Nat.le_total m (f a) with h | h
      · exact .inr (.inl (Nat.max_eq_right h).symm)
      · exact .inl (Nat.max_eq_left h)
    · exact .inr (.inr hone)

/-- R85: the automatic target is the greatest demand of the served zones. -/
theorem State.autoTarget_spec (s : State) (m : ZoneSet) :
    (∀ k z, m.getLsbD k = true → Table.get s.zones k = some z → z.air.zoneDemand ≤ s.autoTarget m) ∧
    (s.autoTarget m = 0 ∨
      ∃ k z, m.getLsbD k = true ∧ Table.get s.zones k = some z ∧ z.air.zoneDemand = s.autoTarget m) := by
  obtain ⟨-, hall, hone⟩ := foldl_max_spec (fun z : Zone => z.air.zoneDemand) (s.zoneRecords m) 0
  refine ⟨fun k z hk hz => hall z (State.mem_zoneRecords.2 ⟨k, hk, hz⟩), hone.imp id ?_⟩
  rintro ⟨z, hz, hd⟩
  obtain ⟨k, hk, hz⟩ := State.mem_zoneRecords.1 hz
  exact ⟨k, z, hk, hz, hd⟩

/-- Settles O12: the two requests by their checks in order, the target by its own lemma. -/
theorem overridesPushAndPop : Obligations.OverridesPushAndPop := by
  refine ⟨fun h c s group level tag duration g ha hgroup hlevel hduration htag hget hp => ⟨?_, ?_⟩, fun s g => ?_⟩
  · have hserve := servePushOverride_checked (s := s.withKey h.key) (c := c) hgroup hlevel hduration htag hget
      (by simpa using hp)
    have hrank : (∀ e, g.stack.getLast? = some e → e.cls.rank ≤ c.rank) → g.outranks c = false := fun hle => by
      by_contra hne
      obtain ⟨e, he, hlt⟩ := Fan.outranks_eq_true.1 (by simpa using hne)
      exact absurd (hle e he) (Nat.not_le.2 hlt)
    refine ⟨fun e he hlt => ?_, fun hle hfull => ?_, fun hle hroom => ?_⟩
    · rw [need_neg (by simp [Fan.outranks_eq_true.2 ⟨e, he, hlt⟩])] at hserve
      exact exec_refuses (cmd := .pushOverride h group level duration tag) rfl ha hserve
    · have hfull : decide (g.stack.length < Config.stackDepth) = false := decide_eq_false (Nat.not_lt.2 hfull)
      rw [need_pos (by simp [hrank hle]), need_neg hfull] at hserve
      exact exec_refuses (cmd := .pushOverride h group level duration tag) rfl ha hserve
    · have hroom : decide (g.stack.length < Config.stackDepth) = true := decide_eq_true hroom
      rw [need_pos (by simp [hrank hle]), need_pos hroom] at hserve
      exact exec_restacks (cmd := .pushOverride h group level duration tag) rfl ha hget hserve
  · have hserve := servePopOverride_checked (s := s.withKey h.key) (c := c) hgroup hget (by simpa using hp)
    refine ⟨fun hnil => ?_, fun e he => ⟨fun hmore => ?_, fun hfire hle => ?_⟩⟩
    · rw [need_neg (by simp [hnil])] at hserve
      exact exec_refuses (cmd := .popOverride h group) rfl ha hserve
    · have hne : g.stack.isEmpty = false := by
        cases hst : g.stack with
        | nil => simp [hst] at he
        | cons => rfl
      have hup : (g.fireTop || g.outranks c) = true := by
        rcases hmore with hf | hlt
        · simp [Fan.fireTop_eq_true.2 ⟨e, he, hf⟩]
        · simp [Fan.outranks_eq_true.2 ⟨e, he, hlt⟩]
      rw [need_pos (by simp [hne]), need_neg (by simp [hup])] at hserve
      exact exec_refuses (cmd := .popOverride h group) rfl ha hserve
    · have hne : g.stack.isEmpty = false := by
        cases hst : g.stack with
        | nil => simp [hst] at he
        | cons => rfl
      have hup : (g.fireTop || g.outranks c) = false := by
        simp only [Bool.or_eq_false_iff]
        refine ⟨Fan.fireTop_eq_false.2 fun x hx => ?_, ?_⟩
        · obtain rfl := Option.some.inj (he.symm.trans hx)
          exact hfire
        · by_contra hcon
          obtain ⟨x, hx, hlt⟩ := Fan.outranks_eq_true.1 (by simpa using hcon)
          obtain rfl := Option.some.inj (he.symm.trans hx)
          exact absurd hle (Nat.not_le.2 hlt)
      rw [need_pos (by simp [hne]), need_pos (by simp [hup])] at hserve
      exact exec_restacks (cmd := .popOverride h group) (k := fun g => g.stack.dropLast) rfl ha hget hserve
  · obtain ⟨hfire, hother⟩ := s.targetOf_spec g
    refine ⟨hfire, fun hnot => ⟨(hother hnot).1, fun hno => ⟨((hother hnot).2 hno).1, fun hnil => ?_⟩⟩⟩
    rw [((hother hnot).2 hno).2 hnil]
    exact s.autoTarget_spec g.served

/-! ### FAN_CONTROL (R94 to R96) -/

/-- R95, R96: the record an action leaves a named group with. -/
def State.controlled (s : State) (a : FanAction) (g : Fan) : Fan :=
  if a.changes g.state then
    match a with
    | .isolate => g.isolated
    | .restore => s.drivesJudged g.returned
    | .clearFault => s.drivesJudged g.returned
  else g

theorem State.control_reads (s : State) (a : FanAction) (group k : Nat) : Table.get (s.control a group).fans k =
    (Table.get s.fans k).map (fun g => if k = group then s.controlled a g else g) := by
  unfold State.control
  cases hg : Table.get s.fans group with
  | none =>
    by_cases hk : k = group
    · rw [hk, hg]; rfl
    · simp [hk]
  | some g =>
    have taken : ∀ {t : State} {f : Fan → Fan}, t.fans = Table.modify s.fans group f → f g = s.controlled a g →
        Table.get t.fans k = (Table.get s.fans k).map (fun g => if k = group then s.controlled a g else g) := fun ht hf => by
      rw [ht, Table.get_modify_eq]
      by_cases hk : k = group
      · simp [hk, hg, hf]
      · simp [hk]
    by_cases hc : a.changes g.state = true
    · dsimp only
      rw [if_neg (by simp [hc])]
      cases a with
      | isolate => exact taken (s.isolate_fans group g) (by simp [State.controlled, hc])
      | restore => exact taken (s.returnToService_fans group g) (by simp [State.controlled, hc])
      | clearFault => exact taken (s.returnToService_fans group g) (by simp [State.controlled, hc])
    · dsimp only
      rw [if_pos (by simp [hc])]
      by_cases hk : k = group
      · simp [hk, hg, State.controlled, hc]
      · simp [hk]

theorem State.control_airOnly (s : State) (a : FanAction) (group : Nat) : s.airOnly (s.control a group) := by
  unfold State.control
  split
  · exact .of_eq rfl rfl
  · split
    · exact .of_eq rfl rfl
    · split
      · exact s.isolate_airOnly _ _
      · exact s.returnToService_airOnly _ _
      · exact s.returnToService_airOnly _ _

/-- R95: of the queue ISOLATE takes the group it changes. -/
theorem State.control_isolate_queue (s : State) (group : Nat) : (s.control .isolate group).queue =
    s.queue.filter (fun n => !(decide (n = group) && (Table.get s.fans n).any (fun g => decide (g.state ≠ .isolated)))) := by
  have stands : (∀ n ∈ s.queue, n = group → (Table.get s.fans n).any (fun g => decide (g.state ≠ .isolated)) = false) →
      s.queue = s.queue.filter (fun n => !(decide (n = group) &&
        (Table.get s.fans n).any (fun g => decide (g.state ≠ .isolated)))) := fun h =>
    (List.filter_eq_self.2 fun n hn => by
      by_cases hg : n = group
      · rw [h n hn hg]; simp
      · simp [hg]).symm
  unfold State.control
  cases hg : Table.get s.fans group with
  | none => exact stands fun n _ hn => by rw [hn, hg]; rfl
  | some g =>
    dsimp only
    by_cases hst : g.state = .isolated
    · rw [if_pos (by simp [FanAction.changes, hst])]
      exact stands fun n _ hn => by rw [hn, hg]; simp [hst]
    · rw [if_neg (by simp [FanAction.changes, hst]), State.isolate_queue]
      refine List.filter_congr fun n _ => ?_
      by_cases hn : n = group
      · simp [hn, hg, hst]
      · simp [hn]

theorem State.judgeDrives_queue_subset (s : State) (group : Nat) : (s.judgeDrives group).queue ⊆ s.queue := by
  cases hg : Table.get s.fans group with
  | none => simp [State.judgeDrives, hg]
  | some g =>
    rw [State.judgeDrives_queue s hg]
    split
    · exact List.filter_subset_self _
    · exact List.Subset.refl _

theorem State.control_queue_subset (s : State) (a : FanAction) (group : Nat) : (s.control a group).queue ⊆ s.queue := by
  have hreturn : ∀ g, (s.returnToService group g).queue ⊆ s.queue := fun g => by
    have h := State.judgeDrives_queue_subset (s.changeFan group (fun g => { g with state := .stopped, faultCause := none })) group
    unfold State.returnToService
    dsimp only
    split
    · rw [State.availabilityNotice_queue]; exact h
    · exact h
  unfold State.control
  split
  · exact List.Subset.refl _
  · split
    · exact List.Subset.refl _
    · split
      · rw [State.isolate_queue]; exact List.filter_subset_self _
      · exact hreturn _
      · exact hreturn _

/-- R94: what the action makes of the groups it names, each once. -/
theorem State.controls_reads (s : State) (a : FanAction) {ns : List Nat} (hns : ns.Nodup) (k : Nat) :
    Table.get (State.forEach (State.control a) ns s).fans k =
      (Table.get s.fans k).map (fun g => if k ∈ ns then s.controlled a g else g) := by
  refine forEach_reads (P := fun u => u.nodes = s.nodes) (fun n u hu k => ?_)
    (fun n u hu => (u.control_keeps a n .nodes (by decide)).trans hu) hns s rfl k
  have hsame : u.controlled a = s.controlled a := by
    funext g
    unfold State.controlled
    rw [State.drivesJudged_congr hu]
  rw [State.control_reads, hsame]

theorem State.controls_isolate_queue (s : State) {ns : List Nat} (hns : ns.Nodup) :
    (State.forEach (State.control .isolate) ns s).queue =
      s.queue.filter (fun n => !(decide (n ∈ ns) && (Table.get s.fans n).any (fun g => decide (g.state ≠ .isolated)))) := by
  induction ns generalizing s with
  | nil => simp [State.forEach]
  | cons m ns ih =>
    obtain ⟨hm, hns⟩ := List.nodup_cons.1 hns
    rw [State.forEach, ih _ hns, State.control_isolate_queue, List.filter_filter]
    refine List.filter_congr fun n _ => ?_
    rw [State.control_reads]
    by_cases hn : n = m
    · subst hn; simp [hm]
    · simp [hn]

/-- R180: the zones a class may touch. -/
theorem State.permits_operator_iff {s : State} {m : ZoneSet} :
    s.permits .operator m = true ↔ ∀ k, m.getLsbD k = true → s.operatorMap.getLsbD k = true := by
  rw [State.permits, decide_eq_true_eq, BitVec.eq_of_getLsbD_eq_iff]
  simp only [BitVec.getLsbD_and, BitVec.getLsbD_not, BitVec.ofNat_eq_ofNat, BitVec.getLsbD_zero]
  refine ⟨fun h k hk => ?_, fun h k hk => ?_⟩
  · have hlt := BitVec.lt_of_getLsbD hk
    simpa [hk, hlt] using h k hlt
  · cases hm : m.getLsbD k
    · rfl
    · simp [h k hm, hk]

theorem State.mem_fansIn {s : State} {groups : BitVec 32} (hg : groups.toNat < 16777216) {n : Nat} :
    n ∈ s.fansIn groups ↔ (groups.getLsbD n && (Table.get s.fans n).isSome) = true := by
  have hlt : groups.getLsbD n = true → n < 24 := fun h => by
    by_contra hn
    have := Nat.testBit_lt_two_pow (Nat.lt_of_lt_of_le hg (Nat.pow_le_pow_right (by decide) (Nat.not_lt.1 hn) : 2 ^ 24 ≤ 2 ^ n))
    rw [← BitVec.getLsbD] at this
    simp [this] at h
  simp only [State.fansIn, Table.has, List.mem_filter, List.mem_range, Bool.and_eq_true]
  exact ⟨fun h => h.2, fun h => ⟨hlt h.1, h⟩⟩

theorem State.fansIn_nodup (s : State) (groups : BitVec 32) : (s.fansIn groups).Nodup := List.nodup_range.filter _

theorem State.fansZones_getLsbD {s : State} {groups : BitVec 32} {k : Nat} : (s.fansZones groups).getLsbD k = true ↔
    ∃ n ∈ s.fansIn groups, (s.fanZones n).getLsbD k = true := by
  have key : ∀ (ns : List Nat) (m : ZoneSet), (ns.foldl (fun m n => m ||| s.fanZones n) m).getLsbD k = true ↔
      m.getLsbD k = true ∨ ∃ n ∈ ns, (s.fanZones n).getLsbD k = true := by
    intro ns
    induction ns with
    | nil => simp
    | cons n ns ih =>
      intro m
      rw [List.foldl_cons, ih]
      simp [or_assoc]
  rw [State.fansZones, key]
  simp

theorem serveFanControl_checked {c : Cls} {s : State} {groups : BitVec 32} {action : Nat} {a : FanAction}
    (ha : FanAction.ofCode action = some a) (h0 : groups ≠ 0) (hg : groups.toNat < 16777216)
    (hallow : a.allows c = true) (hp : s.permits c (s.fansZones groups) = true) :
    serveFanControl c groups action s =
      need (!(s.fansIn groups).isEmpty) .noSuch s (need (!(decide (a = .isolate) && s.fireActive)) .fireLock s
        (let s1 := State.forEach (State.control a) (s.fansIn groups) s
        serveOk (byte (s.fansIn groups).length :: (s.fansIn groups).flatMap (controlOutcome a s s1)) s1)) := by
  unfold serveFanControl
  simp only [ha]
  rw [need_pos (by simpa [hg] using h0), need_pos hallow, need_pos hp]

/-- A request whose effect lies among the fan groups and what they announce (R70). -/
theorem exec_fans {s v : State} {cmd : Instr} {h : Head} {c : Cls} {body : Request} {l : List Byte}
    (hr : requestRow cmd = some (h, body)) (ha : s.accepts h c)
    (hs : serveRequest h.port body c (s.withKey h.key) = serveOk l v) (hk : (s.withKey h.key).keepsBut v fanParts) :
    ∃ t, exec cmd s = .next t ∧ v.keepsBut t [.places h.port] ∧
      (t.port h.port).service = some (answer h body .ok l) ∧ t.serviceKey = h.key ∧
      (t.port h.port).waiting = (s.port h.port).waiting ∧
      s.keepsBut t [.serviceKey, .places h.port, .fans, .queue, .zones, .signs, .items .main, .items .panel] := by
  have hplaces : (v.port h.port).placesPart = (s.port h.port).placesPart :=
    (hk (.places h.port) (by simp)).trans (s.withKey_keeps h.key (.places h.port) (by simp))
  refine ⟨_, exec_answered hr ha hs, State.answered_keeps _ _ _ _ _, State.answered_service _ _ _ _ _,
    (State.answered_keeps _ _ _ _ _ .serviceKey (by simp)).trans (hk .serviceKey (by simp)),
    (State.answered_waiting _ _ _ _ _).trans (congrArg Prod.snd hplaces), ?_⟩
  exact ((s.withKey_keeps h.key).seq hk (n := .serviceKey :: fanParts) (by decide) (by decide)).seq
    (State.answered_keeps _ _ _ _ _) (by simp) (by simp)

/-- R94 to R96: FAN_CONTROL, once it is open to its class. -/
theorem exec_fanControl {s : State} {cmd : Instr} {h : Head} {c : Cls} {groups : BitVec 32} {action : Nat} {a : FanAction}
    (hr : requestRow cmd = some (h, .fanControl groups action)) (ha : s.accepts h c)
    (hact : FanAction.ofCode action = some a) (hg : groups.toNat < 16777216)
    (hallow : a.allows c = true) (hp : s.permits c (s.fansZones groups) = true) :
    let named := fun n => groups.getLsbD n && (Table.get s.fans n).isSome
    ((∀ n, named n = false) → groups ≠ 0 → s.refuses cmd h (.fanControl groups action) .noSuch) ∧
    ((∃ n, named n = true) → a = .isolate → s.fire.taken = true →
      s.refuses cmd h (.fanControl groups action) .fireLock) ∧
    ((∃ n, named n = true) → a ≠ .isolate ∨ s.fire.taken = false →
      let ns := (List.range 24).filter named
      ∃ t, exec cmd s = .next t ∧
        (∀ n, Table.get t.fans n =
          (Table.get s.fans n).map (fun g => if groups.getLsbD n then s.controlled a g else g)) ∧
        t.queue = (State.forEach (State.control a) ns (s.withKey h.key)).queue ∧
        (t.port h.port).service = some (answer h (.fanControl groups action) .ok
          (byte ns.length :: ns.flatMap (fun n =>
            [byte n, flagByte ((Table.get s.fans n).any (fun g => a.changes g.state)),
             byte (((Table.get s.fans n).map (fun g => (s.controlled a g).state.code)).getD 0)]))) ∧
        t.serviceKey = h.key ∧ (t.port h.port).waiting = (s.port h.port).waiting ∧ s.airOnly t ∧
        s.keepsBut t [.serviceKey, .places h.port, .fans, .queue, .zones, .signs, .items .main, .items .panel]) := by
  intro named
  have hns : (s.withKey h.key).fansIn groups = (List.range 24).filter named := rfl
  have hmem : ∀ n, n ∈ (List.range 24).filter named ↔ named n = true := fun n =>
    State.mem_fansIn (s := s) (n := n) hg
  have hserve : groups ≠ 0 → _ := fun h0 => serveFanControl_checked (s := s.withKey h.key) hact h0 hg hallow
    (by rw [State.permits_withKey]; exact hp)
  rw [hns] at hserve
  have hne : (∃ n, named n = true) → groups ≠ 0 := by
    rintro ⟨n, hn⟩ rfl
    simp [named] at hn
  have hsome : (∃ n, named n = true) → ((List.range 24).filter named).isEmpty = false := by
    rintro ⟨n, hn⟩
    have := List.ne_nil_of_mem ((hmem n).2 hn)
    simpa using this
  refine ⟨fun hnone h0 => ?_, fun hex haction hfire => ?_, fun hex hopen => ?_⟩
  · have hserve := hserve h0
    have hempty : ((List.range 24).filter named) = [] := List.eq_nil_iff_forall_not_mem.2 fun n hn => by
      rw [hmem, hnone] at hn
      simp at hn
    rw [hempty, need_neg (b := !([] : List Nat).isEmpty) rfl] at hserve
    exact exec_refuses hr ha hserve
  · have hserve := hserve (hne hex)
    rw [need_pos (by simp [hsome hex]), need_neg (by simp [haction, State.fireActive, hfire])] at hserve
    exact exec_refuses hr ha hserve
  · intro ns
    have hserve := hserve (hne hex)
    rw [need_pos (by simp [hsome hex]), need_pos (by rcases hopen with h | h <;> simp [h, State.fireActive])] at hserve
    have hnodup : ns.Nodup := List.nodup_range.filter _
    have hkeeps : (s.withKey h.key).keepsBut (State.forEach (State.control a) ns (s.withKey h.key)) fanParts :=
      .forEach (fun n s => s.control_keeps a n) _ _
    have hreads := State.controls_reads (s.withKey h.key) a hnodup
    obtain ⟨t, ht, hv, hservice, hkey, hwaiting, hkept⟩ := exec_fans hr ha hserve hkeeps
    have hfans : ∀ n, Table.get t.fans n =
        (Table.get s.fans n).map (fun g => if groups.getLsbD n then s.controlled a g else g) := fun n => by
      rw [hv .fans (by simp), hreads]
      show (Table.get s.fans n).map _ = _
      cases hg' : Table.get s.fans n with
      | none => rfl
      | some g =>
        have : n ∈ ns ↔ groups.getLsbD n = true := by rw [hmem]; simp [named, hg']
        simp only [Option.map_some, this]
        rfl
    refine ⟨t, ht, hfans, hv .queue (by simp), ?_, hkey, hwaiting, ?_, hkept⟩
    · rw [hservice]
      congr 3
      refine List.flatMap_congr fun n hn => ?_
      have hnamed := (hmem n).1 hn
      unfold controlOutcome
      rw [hreads]
      simp only [named, Bool.and_eq_true] at hnamed
      obtain ⟨g, hg'⟩ := Option.isSome_iff_exists.1 hnamed.2
      have hin : n ∈ ns := hn
      simp only [State.withKey_fans, hg', Option.map_some, if_pos hin, Option.getD_some]
      rfl
    · exact (State.airOnly.forEach (fun n s => s.control_airOnly a n) ns (s.withKey h.key)).congr rfl rfl
        (hv .zones (by simp)) (hv .signs (by simp))

theorem FanAction.changes_isolate (f : FanState) : FanAction.isolate.changes f = decide (f ≠ .isolated) := rfl

theorem State.controlled_isolate (s : State) (g : Fan) :
    s.controlled .isolate g = if g.state ≠ .isolated then g.isolated else g := by
  simp [State.controlled, FanAction.changes_isolate]

/-- Settles O13: ISOLATE by the account of FAN_CONTROL. -/
theorem isolateTakesOut : Obligations.IsolateTakesOut := by
  intro h s groups ha hg
  obtain ⟨hnone, hlock, hdone⟩ := exec_fanControl (cmd := .fanControlIsolate h groups) (action := 0) (a := .isolate)
    rfl ha rfl hg rfl rfl
  intro named body
  refine ⟨hnone, fun hex hfire => hlock hex rfl hfire, fun hex hfire => ?_⟩
  obtain ⟨t, ht, hfans, hqueue, hservice, hkey, hwaiting, hair, hkept⟩ := hdone hex (.inr hfire)
  intro ns
  have hmem : ∀ n, n ∈ ns ↔ named n = true := fun n => State.mem_fansIn (s := s) (n := n) hg
  refine ⟨t, ht, fun n => ?_, ?_, ?_, hkey, hwaiting, hair, hkept⟩
  · rw [hfans]
    congr 1
    funext g
    rw [State.controlled_isolate]
    by_cases hn : groups.getLsbD n = true <;> by_cases hst : g.state = .isolated <;> simp [hn, hst, Fan.isolated]
  · rw [hqueue, State.controls_isolate_queue _ (List.nodup_range.filter _)]
    refine List.filter_congr fun n _ => ?_
    have hin : decide (n ∈ ns) = named n := by
      rw [Bool.eq_iff_iff, decide_eq_true_eq]
      exact hmem n
    simp only [show decide (n ∈ List.filter named (List.range 24)) = named n from hin, State.withKey_fans, named]
    cases Table.get s.fans n <;> simp
  · rw [hservice]
    congr 3
    refine List.flatMap_congr fun n hn => ?_
    have hnamed := (hmem n).1 hn
    simp only [named, Bool.and_eq_true] at hnamed
    obtain ⟨g, hget⟩ := Option.isSome_iff_exists.1 hnamed.2
    rw [hget, Option.map_some, Option.getD_some, Option.any_some, Option.any_some, State.controlled_isolate]
    by_cases hst : g.state = .isolated <;> simp [hst, FanAction.changes, Fan.isolated]

/-- Settles O14: RESTORE and CLEAR_FAULT by the account of FAN_CONTROL. -/
theorem restoreAndClearReturn : Obligations.RestoreAndClearReturn := by
  intro h c s groups cmd action out ha hg hcmd
  obtain ⟨a, hrow, hact, hne, hallow, hperm, hchanges⟩ : ∃ a : FanAction,
      requestRow cmd = some (h, .fanControl groups action) ∧ FanAction.ofCode action = some a ∧ a ≠ .isolate ∧
      a.allows c = true ∧ s.permits c (s.fansZones groups) = true ∧ ∀ f, a.changes f = decide (f = out) := by
    rcases hcmd with ⟨rfl, rfl, rfl, hc⟩ | ⟨rfl, rfl, rfl, rfl⟩
    · refine ⟨.restore, rfl, rfl, by simp, ?_, ?_, fun _ => rfl⟩
      · rcases hc with rfl | ⟨rfl, -⟩ <;> rfl
      · rcases hc with rfl | ⟨rfl, hall⟩
        · rfl
        · refine State.permits_operator_iff.2 fun k hk => ?_
          obtain ⟨n, hn, hserved⟩ := State.fansZones_getLsbD.1 hk
          have hnamed := (State.mem_fansIn hg).1 hn
          simp only [Bool.and_eq_true] at hnamed
          obtain ⟨g, hget⟩ := Option.isSome_iff_exists.1 hnamed.2
          rw [State.fanZones_of_get hget] at hserved
          exact State.permits_operator_iff.1 (hall n g hnamed.1 hget) k hserved
    · exact ⟨.clearFault, rfl, rfl, by simp, rfl, rfl, fun _ => rfl⟩
  obtain ⟨hnone, -, hdone⟩ := exec_fanControl hrow ha hact hg hallow hperm
  intro named body
  refine ⟨hnone, fun hex => ?_⟩
  intro ns returned
  have hcontrolled : ∀ g, s.controlled a g = returned g := fun g => by
    simp only [State.controlled, hchanges, decide_eq_true_eq]
    show _ = if g.state = out then _ else g
    cases a with
    | isolate => exact absurd rfl hne
    | restore => rfl
    | clearFault => rfl
  obtain ⟨t, ht, hfans, hqueue, hservice, hkey, hwaiting, hair, hkept⟩ := hdone hex (.inl hne)
  refine ⟨t, ht, fun n => ?_, fun n hn => ?_, ?_, hkey, hwaiting, hair, hkept⟩
  · simpa only [hcontrolled] using hfans n
  · rw [hqueue] at hn
    have hsub : ∀ (ns : List Nat) (u : State), (State.forEach (State.control a) ns u).queue ⊆ u.queue := by
      intro ns
      induction ns with
      | nil => exact fun u => List.Subset.refl _
      | cons m ns ih => exact fun u => List.Subset.trans (ih _) (u.control_queue_subset a m)
    exact hsub _ (s.withKey h.key) hn
  · simpa only [hcontrolled, hchanges] using hservice

/-! ### DEFINE_FAN, SET_FAN and RETIRE_FAN (R97 to R99) -/

theorem State.drivesClash_eq_false {s : State} {group : Nat} {l : List Nat} (hkind : ∀ n ∈ l, s.kindOf n = some .fan)
    (hnodup : l.Nodup) (hfree : ∀ e ∈ s.fans, e.1 ≠ group → ∀ d ∈ e.2.drives, d.node ∉ l) :
    s.drivesClash group l = false := by
  simp only [State.drivesClash, Bool.or_eq_false_iff, List.any_eq_false, decide_eq_true_eq, not_not]
  refine ⟨⟨hkind, by simp [hnodup]⟩, fun n hn => ?_⟩
  rw [Bool.not_eq_true, Table.exists_eq_false]
  intro e he
  by_cases hg : e.1 = group
  · simp [hg]
  · simp only [Bool.and_eq_false_imp]
    intro _
    rw [List.any_eq_false]
    intro d hd hdn
    exact hfree e he hg d hd (of_decide_eq_true hdn ▸ hn)

theorem State.nodesHave {s : State} {l : List Nat} (hkind : ∀ n ∈ l, s.kindOf n = some .fan) :
    l.all (Table.has s.nodes) = true :=
  List.all_eq_true.2 fun n hn => State.has_of_kindOf (hkind n hn)

theorem State.placeFire_queue_of_stopped {s : State} {group : Nat} {g : Fan} (hget : Table.get s.fans group = some g)
    (hst : g.state ≠ .waiting) : (s.placeFire group).queue = s.queue := by
  unfold State.placeFire
  rw [hget]
  dsimp only
  rw [if_neg hst]
  split <;> split <;> rfl

/-- R97, R93: the number has left the queue. -/
theorem State.installFan_queue (s : State) (group : Nat) {g : Fan} (hst : g.state = .stopped) (m : ZoneSet) :
    (s.installFan group g m).queue = s.queue.filter (fun n => decide (n ≠ group)) := by
  have hget : Table.get ((s.removeFan group).withFans (Table.set s.fans group g)).fans group = some g := Table.get_set _ _ _
  unfold State.installFan
  dsimp only
  rw [State.availabilityNotice_queue]
  generalize hu : (if ((s.removeFan group).withFans (Table.set s.fans group g)).fireActive then
    ((s.removeFan group).withFans (Table.set s.fans group g)).placeFire group
    else (s.removeFan group).withFans (Table.set s.fans group g)) = u
  have hqueue : (u.retarget group).queue = s.queue.filter (fun n => decide (n ≠ group)) := by
    show u.queue = _
    rw [← hu]
    split
    · rw [State.placeFire_queue_of_stopped hget (by simp [hst])]; rfl
    · rfl
  cases hjudge : Table.get (u.retarget group).fans group with
  | none => simpa [State.judgeDrives, hjudge] using hqueue
  | some g' =>
    rw [State.judgeDrives_queue _ hjudge, hqueue, List.filter_filter]
    split
    · exact List.filter_congr fun n _ => by simp
    · rfl

/-- Settles O15: the new record in place by `installFan_fans`, the old one out by `removeFan`. -/
theorem defineAndRetireFan : Obligations.DefineAndRetireFan := by
  refine ⟨fun h s group zones drives fields ha hgroup hz0 hlen1 hlen4 hf hdef hdrives hnodup hfree => ?_,
    fun h s group g ha hs hgroup hget => ?_⟩
  · have hkind : ∀ n ∈ drives, s.kindOf n = some .fan := fun n hn => (hdrives n hn).2
    have hclash : (s.withKey h.key).drivesClash group drives = false := State.drivesClash_eq_false hkind hnodup hfree
    have hrange : drivesInRange drives = true := by
      simp only [drivesInRange, within, hlen1, hlen4, decide_true, Bool.and_self, Bool.true_and, List.all_eq_true]
      exact fun n hn => by simp [(hdrives n hn).1]
    set v := (s.withKey h.key).installFan group (Fan.fresh zones drives (fanFieldsApplied fields FanSettings.default))
      (s.fanZones group ||| zones) with hv
    have hserve : serveRequest h.port (.defineFan group zones drives fields) .service (s.withKey h.key) =
        need (!(Table.has s.fans group && s.fireActive)) .fireLock (s.withKey h.key)
          (serveOk (v.fanViewOf group) v) := by
      show serveDefineFan .service group zones drives fields (s.withKey h.key) = _
      unfold serveDefineFan
      rw [need_pos (b := within 0 23 group && decide (zones ≠ 0) && drivesInRange drives && fanFieldsInRange fields)
          (by simpa [within, hgroup, hrange, hf] using hz0),
        need_pos serviceOnly_service, need_pos (b := (s.withKey h.key).zonesDefined zones && _)
          (by simp [hdef, State.nodesHave hkind]), need_pos (b := !(s.withKey h.key).drivesClash group drives) (by simp [hclash])]
      rfl
    refine ⟨fun hhas hfire => ?_, fun hopen => ?_⟩
    · rw [need_neg (by simp [hhas, State.fireActive, hfire])] at hserve
      exact exec_refuses (cmd := .defineFan h group zones drives fields) rfl ha hserve
    · intro st g g'
      rw [need_pos (by rcases hopen with h | h <;> simp [h, State.fireActive])] at hserve
      have hfans : v.fans = Table.set s.fans group g' := by
        rw [hv, State.installFan_fans]
        have hfresh : (s.withKey h.key).freshFan (Fan.fresh zones drives (fanFieldsApplied fields FanSettings.default)) =
            { g with target := s.targetOf g } := by
          unfold State.freshFan
          by_cases hfire : s.fire.taken = true
          · have hg : g = { Fan.fresh zones drives st with
                stack := (stackWithFire [] ((Fan.fresh zones drives st).fireLevel s.fire.zone)) } := by
              simp only [g, if_pos hfire]
              rfl
            rw [if_pos (by simpa [State.fireActive] using hfire), hg]
            rfl
          · have hg : g = Fan.fresh zones drives st := by
              simp only [g, if_neg hfire]
              rfl
            rw [if_neg (by simpa [State.fireActive] using hfire), hg]
            rfl
        rw [hfresh]
        rfl
      obtain ⟨t, ht, htv, hservice, hkey, hwaiting, hkept⟩ := exec_fans (cmd := .defineFan h group zones drives fields) rfl
        ha hserve (State.installFan_keeps _ _ _ _)
      have htf := (htv .fans (by simp)).trans hfans
      refine ⟨t, ht, by rw [htf, Table.get_set], fun n hn => by rw [htf, Table.get_set_ne _ _ hn], ?_, ?_, hkey, hwaiting,
        ?_, hkept⟩
      · rw [htv .queue (by simp), hv, State.installFan_queue (s.withKey h.key) group (by rfl)]
        rfl
      · rw [hservice, State.fanViewOf_of_get (by rw [hfans, Table.get_set]),
          State.fanView_congr (htv .queue (by simp)) (htv .nodes (by simp))]
      · exact (State.installFan_airOnly (s.withKey h.key) group _ _).congr rfl rfl (htv .zones (by simp)) (htv .signs (by simp))
  · have hserve : serveRequest h.port (.retireFan group) .service (s.withKey h.key) =
        need (!s.fireActive) .fireLock (s.withKey h.key)
          (serveOk (s.fanView group g) (((s.withKey h.key).removeFan group).availabilityNotice g.served)) := by
      show serveRetireFan .service group (s.withKey h.key) = _
      unfold serveRetireFan
      rw [need_pos (by simp [within, hgroup]), need_pos serviceOnly_service]
      have hget' : Table.get (s.withKey h.key).fans group = some g := hget
      simp only [hget', State.fanViewOf_of_get hget', State.fireActive_withKey]
      rfl
    refine ⟨fun hfire => ?_, fun hfire => ?_⟩
    · rw [need_neg (by simp [State.fireActive, hfire])] at hserve
      exact exec_refuses (cmd := .retireFan h group) rfl ha hserve
    · rw [need_pos (by simp [State.fireActive, hfire])] at hserve
      have hkeeps : (s.withKey h.key).keepsBut (((s.withKey h.key).removeFan group).availabilityNotice g.served) fanParts :=
        (State.removeFan_keeps _ _).seq (State.availabilityNotice_keeps _ _) (by decide) (by decide)
      obtain ⟨t, ht, htv, hservice, hkey, hwaiting, hkept⟩ := exec_fans (cmd := .retireFan h group) rfl ha hserve hkeeps
      have htf : t.fans = Table.erase s.fans group :=
        (htv .fans (by simp)).trans (State.availabilityNotice_fans _ _)
      refine ⟨t, ht, by rw [htf, Table.get_erase_self hs.fans.1], fun n hn => by rw [htf, Table.get_erase_ne _ hn], ?_,
        hservice, hkey, hwaiting, ?_, hkept⟩
      · rw [htv .queue (by simp), State.availabilityNotice_queue]
        rfl
      · exact (State.airOnly_notice (s := s) (u := (s.withKey h.key).removeFan group) rfl rfl g.served).congr rfl rfl
          (htv .zones (by simp)) (htv .signs (by simp))

/-- Settles O16: the new record is `reset98`, written out. -/
theorem setFanApplies : Obligations.SetFanApplies := by
  intro h s group zones drives fields g ha hgroup hf hzones hdrives hget body zs ds st g1 g2 g3
  set v := (s.withKey h.key).changeFanWhole group g zs ds st with hv
  have hserve : serveRequest h.port body .service (s.withKey h.key) =
      need (!s.fireActive) .fireLock (s.withKey h.key) (serveOk (v.fanViewOf group) v) := by
    have hz : zones.all (fun z => decide (z ≠ 0)) = true ∧ zones.all s.zonesDefined = true := by
      cases zones with
      | none => exact ⟨rfl, rfl⟩
      | some z => exact ⟨by simpa using (hzones z rfl).1, (hzones z rfl).2⟩
    have hd : drives.all drivesInRange = true ∧ drives.all (fun l => l.all (Table.has s.nodes)) = true ∧
        drives.any ((s.withKey h.key).drivesClash group) = false := by
      cases drives with
      | none => exact ⟨rfl, rfl, rfl⟩
      | some l =>
        obtain ⟨h1, h4, hnodup, hkinds, hfree⟩ := hdrives l rfl
        have hkind : ∀ n ∈ l, s.kindOf n = some .fan := fun n hn => (hkinds n hn).2
        refine ⟨?_, State.nodesHave hkind, State.drivesClash_eq_false hkind hnodup hfree⟩
        simp only [Option.all_some, drivesInRange, within, h1, h4, decide_true, Bool.and_self, Bool.true_and, List.all_eq_true]
        exact fun n hn => by simp [(hkinds n hn).1]
    show serveSetFan .service group zones drives fields (s.withKey h.key) = _
    unfold serveSetFan
    rw [need_pos (b := within 0 23 group && _ && _ && _) (by rw [hz.1, hd.1, hf]; simp [within, hgroup]),
      need_pos serviceOnly_service]
    have hget' : Table.get (s.withKey h.key).fans group = some g := hget
    simp only [hget', State.fireActive_withKey]
    rw [need_pos (b := zones.all (s.withKey h.key).zonesDefined && drives.all (fun l => l.all (Table.has (s.withKey h.key).nodes)))
      (Bool.and_eq_true_iff.2 ⟨hz.2, hd.2.1⟩), need_pos (b := !drives.any _) (by rw [hd.2.2]; rfl)]
  refine ⟨fun hfire => ?_, fun hfire => ?_⟩
  · rw [need_neg (by simp [State.fireActive, hfire])] at hserve
    exact exec_refuses (cmd := .setFan h group zones drives fields) rfl ha hserve
  · rw [need_pos (by simp [State.fireActive, hfire])] at hserve
    have hg1 : g.changed zs ds st = g1 := by
      unfold Fan.changed
      have hcommanded : (if g.state = .running ∧ g.settings.vmin ≠ st.vmin then max st.vmin g.commanded else g.commanded) =
          if g.state = .running ∧ st.vmin ≠ g.settings.vmin ∧ g.commanded < st.vmin then st.vmin else g.commanded := by
        by_cases hrun : g.state = .running ∧ g.settings.vmin ≠ st.vmin
        · rw [if_pos hrun]
          by_cases hlt : g.commanded < st.vmin
          · rw [if_pos ⟨hrun.1, Ne.symm hrun.2, hlt⟩, Nat.max_eq_left (Nat.le_of_lt hlt)]
          · rw [if_neg fun hc => hlt hc.2.2, Nat.max_eq_right (Nat.not_lt.1 hlt)]
        · rw [if_neg hrun, if_neg fun hc => hrun ⟨hc.1, Ne.symm hc.2.1⟩]
      rw [hcommanded]
      rfl
    have hfans : v.fans = Table.set s.fans group g3 := by
      rw [hv, State.changeFanWhole_fans, State.reset98, hg1]
      rfl
    obtain ⟨t, ht, htv, hservice, hkey, hwaiting, hkept⟩ := exec_fans (cmd := .setFan h group zones drives fields) rfl
      ha hserve (State.changeFanWhole_keeps _ _ _ _ _ _)
    have htf := (htv .fans (by simp)).trans hfans
    refine ⟨t, ht, by rw [htf, Table.get_set], fun n hn => by rw [htf, Table.get_set_ne _ _ hn], ?_, hkey, hwaiting, ?_, hkept⟩
    · rw [hservice, State.fanViewOf_of_get (by rw [hfans, Table.get_set]),
        State.fanView_congr (htv .queue (by simp)) (htv .nodes (by simp))]
    · exact (State.changeFanWhole_airOnly (s.withKey h.key) group g zs ds st).congr rfl rfl (htv .zones (by simp))
        (htv .signs (by simp))

end Sys2Proof.Machine

/-! ## Proofs: the fan step, the start slot and the expiries of a group (R79, R84, R86 to R92) -/

namespace Sys2Proof.Machine

/-! ### Items that stand (R187) -/

/-- An item entered: its own class takes it, the others stand. -/
theorem AttSet.enter_items (a : AttSet) (c : AttClass) (o : Nat) (r : Reason) (k : AttClass) :
    (a.enter c o r).items k = if k = c then Table.set (a.items c) o r else a.items k := by
  cases c <;> cases k <;> rfl

theorem State.raise_items (s : State) (c : AttClass) (o : Nat) (r : Reason) (p : Port) (k : AttClass) :
    ((s.raise c o r).port p).att.items k =
      if k = c then Table.set ((s.port p).att.items c) o r else (s.port p).att.items k := by
  rw [State.raise_port]
  exact AttSet.enter_items _ _ _ _ _

/-- R187: an item raised stands in both sets. -/
theorem State.raise_raised (s : State) (c : AttClass) (o : Nat) (r : Reason) (p : Port) :
    Table.get (((s.raise c o r).port p).att.items c) o = some r := by
  rw [State.raise_items, if_pos rfl, Table.get_set]

namespace State.itemsStand

theorem refl (s : State) (l : List AttClass) : s.itemsStand s l := fun _ _ _ => rfl

theorem trans {s t u : State} {l : List AttClass} (h1 : s.itemsStand t l) (h2 : t.itemsStand u l) : s.itemsStand u l :=
  fun p k hk => (h2 p k hk).trans (h1 p k hk)

theorem mono {s t : State} {l m : List AttClass} (h : s.itemsStand t m) (hl : l ⊆ m) : s.itemsStand t l :=
  fun p k hk => h p k (hl hk)

theorem raise (s : State) {c : AttClass} {l : List AttClass} (hc : c ∉ l) (o : Nat) (r : Reason) :
    s.itemsStand (s.raise c o r) l := fun p k hk => by
  rw [State.raise_items, if_neg (by rintro rfl; exact hc hk)]

/-- A change of neither port raises nothing. -/
theorem of_keeps {s t : State} {m : List Field} (h : s.keepsBut t m) (l : List AttClass)
    (hm : Field.items .main ∉ m := by simp) (hp : Field.items .panel ∉ m := by simp) : s.itemsStand t l := by
  have hitems : ∀ p, (t.port p).itemsPart = (s.port p).itemsPart := fun p => by
    cases p
    · exact h (.items .main) hm
    · exact h (.items .panel) hp
  intro p k _
  have hp' := hitems p
  simp only [PortState.itemsPart, Prod.mk.injEq, AttSet.mk.injEq] at hp'
  cases k <;> simp only [AttSet.items, hp']

theorem forEach {f : Nat → State → State} {l : List AttClass} (h : ∀ n s, State.itemsStand s (f n s) l) (ns : List Nat)
    (s : State) : s.itemsStand (State.forEach f ns s) l := by
  induction ns generalizing s with
  | nil => exact refl s l
  | cons n ns ih => exact (h n s).trans (ih (f n s))

end State.itemsStand

/-- R70: an availability notice raises AIR items alone. -/
theorem State.judgeStatus_itemsStand (s : State) (zone : Nat) {l : List AttClass} (hl : AttClass.air ∉ l) :
    s.itemsStand (s.judgeStatus zone) l := by
  unfold State.judgeStatus
  split
  · exact .refl s l
  · dsimp only
    split
    · exact .refl s l
    · exact ((State.itemsStand.of_keeps (s.withZones_keeps _) l).trans (.raise _ hl _ _)).trans
        (.of_keeps (State.judgeAirCause_keeps _ _) l)

theorem State.availabilityNotice_itemsStand (s : State) (m : ZoneSet) {l : List AttClass} (hl : AttClass.air ∉ l) :
    s.itemsStand (s.availabilityNotice m) l :=
  .forEach (fun n s => s.judgeStatus_itemsStand n hl) _ _

/-! ### One group at a fan step (R86 to R89) -/

theorem State.changeFan_of_get {s : State} {group : Nat} {g : Fan} (h : Table.get s.fans group = some g) (f : Fan → Fan) :
    s.changeFan group f = s.changeFan group (fun _ => f g) := by
  unfold State.changeFan
  rw [Table.modify_of_get h, Table.modify_of_get h]

theorem State.changeFan_get_ne (s : State) {group n : Nat} (f : Fan → Fan) (h : n ≠ group) :
    Table.get (s.changeFan group f).fans n = Table.get s.fans n := by
  simp [State.changeFan_read, h]

/-- R86: a fan step takes the group with its target recomputed. -/
theorem State.stepGroup_eq {s : State} {group : Nat} {g : Fan} (h : Table.get s.fans group = some g) :
    s.stepGroup group = (s.changeFan group (fun _ => s.retargeted g)).stepAction group (s.retargeted g) := by
  have hr : s.retarget group = s.changeFan group (fun _ => s.retargeted g) := s.changeFan_of_get h s.retargeted
  unfold State.stepGroup
  simp only [hr, State.changeFan_get h]

theorem State.stepAction_get_ne (s : State) (group : Nat) (g : Fan) {n : Nat} (h : n ≠ group) :
    Table.get (s.stepAction group g).fans n = Table.get s.fans n := by
  unfold State.stepAction
  split
  · rfl
  · rfl
  · split
    · rw [State.joinQueue_fans, Table.get_modify_ne _ _ h]
    · rfl
  · split
    · exact State.changeFan_get_ne _ _ h
    · rfl
  · split
    · rw [State.judgeDrives_fans, Table.get_modify_ne _ _ h, State.changeFan_get_ne _ _ h]
    · exact State.changeFan_get_ne _ _ h

/-- R92: where a group whose top entry is FIRE stands among the waiters. -/
theorem insertFire_split (isFire : Nat → Bool) (group : Nat) (q : List Nat) : ∃ ahead behind, q = ahead ++ behind ∧
    insertFire isFire group q = ahead ++ group :: behind ∧ (∀ n ∈ behind, isFire n = false) ∧
    (∀ n, ahead.getLast? = some n → isFire n = true) := by
  induction q with
  | nil => exact ⟨[], [], rfl, rfl, by simp, by simp⟩
  | cons n q ih =>
    by_cases h : (isFire n || q.any isFire) = true
    · obtain ⟨ahead, behind, rfl, hins, hbehind, hahead⟩ := ih
      refine ⟨n :: ahead, behind, rfl, by rw [insertFire, if_pos h, hins]; rfl, hbehind, fun m hm => ?_⟩
      cases ahead with
      | nil =>
        have hq : behind.any isFire = false := by simpa [List.any_eq_false] using hbehind
        obtain rfl : n = m := by simpa using hm
        simpa [hq] using h
      | cons a rest => exact hahead m (by simpa using hm)
    · rw [Bool.not_eq_true, Bool.or_eq_false_iff, List.any_eq_false] at h
      refine ⟨[], n :: q, rfl, by rw [insertFire, if_neg (by simpa using h)]; rfl, ?_, by simp⟩
      simpa using h

/-- Whether a group's top entry is FIRE rests on its stack. -/
theorem State.isFireWaiter_changeFan {s : State} {group : Nat} {g g' : Fan} (h : Table.get s.fans group = some g)
    (hst : g'.stack = g.stack) : (s.changeFan group (fun _ => g')).isFireWaiter = s.isFireWaiter := by
  funext n
  unfold State.isFireWaiter
  rw [State.changeFan_read]
  by_cases hn : n = group
  · subst hn
    simp [h, Fan.fireTop, Fan.top, hst]
  · simp [hn]

/-- Settles O17, state by state as `stepAction` has them. -/
theorem fanStepMovesOneGroup : Obligations.FanStepMovesOneGroup := by
  intro s group g0 hget g t goal fire
  set u := s.changeFan group (fun _ => g) with hu
  have ht : t = u.stepAction group g := State.stepGroup_eq hget
  have hg : Table.get u.fans group = some g := State.changeFan_get hget _
  have hchange : ∀ f : Fan → Fan, Table.get (u.changeFan group f).fans group = some (f g) := State.changeFan_get hg
  have hsu : s.keepsBut u [.fans] := s.changeFan_keeps _ _
  have hwait : (u.changeFan group (fun g => { g with state := .waiting })).isFireWaiter = s.isFireWaiter := by
    rw [State.changeFan_of_get hg, State.isFireWaiter_changeFan hg (g' := { g with state := .waiting }) rfl,
      State.isFireWaiter_changeFan hget (g' := g) rfl]
  refine ⟨fun n hn => ?_, fun hst => ?_, fun hst h0 => ?_, fun hst hpos hslot => ?_, fun hst hpos hslot => ?_,
    fun hst hpos => ?_, fun hst h0 => ?_, fun hst hpos => ?_, fun hst h0 => ?_⟩
  · rw [ht, State.stepAction_get_ne _ _ _ hn, State.changeFan_get_ne _ _ hn]
  · rw [ht, State.stepAction]
    rcases hst with hst | hst <;> simp only [hst]
  · rw [ht, State.stepAction]
    simp only [hst, h0, lt_irrefl, if_false]
  · have hj : t = u.joinQueue group := by rw [ht, State.stepAction]; simp only [hst, hpos, if_true]
    have hjoin : u.joinQueue group =
        ((u.changeFan group (fun g => { g with state := .waiting })).grant group).takeSlot := by
      unfold State.joinQueue
      simp only [show u.slot = none from hslot]
    refine ⟨?_, by rw [hj, hjoin]; rfl, by rw [hj, hjoin]; rfl,
      hj ▸ hsu.seq (u.joinQueue_keeps group) (by decide) (by decide)⟩
    rw [hj, State.joinQueue_fans, Table.get_modify, hg, Option.map_some, State.joined]
    simp only [show u.slot = none from hslot]
    show some (u.granted g) = some { u.granted g with commanded := if fire then goal else g.settings.vmin }
    rw [show goal = max g.settings.vmin g.target from Nat.max_comm _ _]
    rfl
  · have hj : t = u.joinQueue group := by rw [ht, State.stepAction]; simp only [hst, hpos, if_true]
    obtain ⟨v, hv⟩ := Option.ne_none_iff_exists'.1 hslot
    have hjoin : u.joinQueue group = (u.changeFan group (fun g => { g with state := .waiting })).enqueue group := by
      unfold State.joinQueue
      simp only [show u.slot = some v from hv]
    have hfire : s.isFireWaiter group = fire := by
      unfold State.isFireWaiter
      rw [hget]
      rfl
    refine ⟨?_, fun hf => ?_, fun hf => ?_, ?_⟩
    · rw [hj, State.joinQueue_fans, Table.get_modify, hg, Option.map_some, State.joined]
      simp only [show u.slot = some v from hv]
    · rw [hj, hjoin, State.enqueue, hwait, hfire, hf]
      rfl
    · obtain ⟨ahead, behind, hq, hins, hbehind, hahead⟩ := insertFire_split s.isFireWaiter group s.queue
      refine ⟨ahead, behind, hq, ?_, hbehind, hahead⟩
      rw [hj, hjoin, State.enqueue, hwait, hfire, hf]
      exact hins
    · rw [hj, hjoin]
      exact hsu.seq ((u.changeFan_keeps _ _).seq (State.enqueue_keeps _ _) (n := [.fans, .queue]) (by decide) (by decide))
        (by decide) (by decide)
  · rw [ht, State.stepAction]
    simp only [hst, Nat.ne_of_gt hpos, if_false]
  · have hj : t = (u.leaveQueue group).changeFan group Fan.stopped := by
      rw [ht, State.stepAction]
      simp only [hst, h0, if_true]
    refine ⟨by rw [hj]; exact hchange Fan.stopped, by rw [hj]; rfl, ?_⟩
    rw [hj]
    exact hsu.seq ((u.leaveQueue_keeps _).seq (State.changeFan_keeps _ _ _) (n := [.fans, .queue]) (by decide) (by decide))
      (by decide) (by decide)
  · have hj : t = (u.changeFan group Fan.moved).judgeDrives group := by
      rw [ht, State.stepAction]
      simp only [hst, hpos, if_true]
    refine ⟨?_, ?_⟩
    · rw [hj, State.judgeDrives_fans, Table.get_modify, hchange, Option.map_some]
      rfl
    · rw [hj]
      exact hsu.seq ((u.changeFan_keeps _ _).seq (State.judgeDrives_keeps _ _) (n := fanParts) (by decide) (by decide))
        (by decide) (by decide)
  · have hj : t = u.changeFan group (Fan.windDown s.seconds) := by
      rw [ht, State.stepAction]
      simp only [hst, h0, lt_irrefl, if_false]
      rfl
    have hfans : Table.get t.fans group = some (Fan.windDown s.seconds g) := by rw [hj]; exact hchange _
    have hran : (g.grantedAt.all (fun v => decide (g.settings.minRun ≤ (s.seconds - v).toNat)) = true) ↔
        ∀ v, g.grantedAt = some v → g.settings.minRun ≤ (s.seconds - v).toNat := by
      cases g.grantedAt <;> simp
    refine ⟨fun hstops => ?_, fun hgo => ?_, hj ▸ hsu.seq (u.changeFan_keeps _ _) (by decide) (by decide)⟩
    · rw [hfans, Fan.windDown]
      rcases hstops with hf | ⟨hle, hall⟩
      · rw [if_pos (show g.fireTop = true from hf)]; rfl
      · split
        · rfl
        · rw [if_neg (Nat.not_lt.2 hle), if_pos (hran.2 hall)]; rfl
    · have hnf : ¬ g.fireTop = true := fun hf => hgo (.inl hf)
      rw [hfans, Fan.windDown, if_neg hnf]
      by_cases hlt : g.settings.vmin < g.commanded
      · rw [if_pos hlt, if_pos hlt]
      · rw [if_neg hlt, if_neg hlt, if_neg fun hall => hgo (.inr ⟨Nat.not_lt.1 hlt, hran.1 hall⟩)]

/-! ### The fan step and the start slot (R86, R90) -/

theorem State.forEach_eq_foldl (f : Nat → State → State) (ns : List Nat) (s : State) :
    State.forEach f ns s = ns.foldl (fun u n => f n u) s := by
  induction ns generalizing s with
  | nil => rfl
  | cons n ns ih => exact ih (f n s)

theorem reached_self (now : Seconds) : reached now now = true := by simp [reached]

theorem State.stepGroup_keeps (s : State) (group : Nat) :
    s.keepsBut (s.stepGroup group) [.fans, .queue, .slot, .zones, .signs, .items .main, .items .panel] := by
  have hsu : s.keepsBut (s.retarget group) [.fans] := s.retarget_keeps group
  unfold State.stepGroup
  dsimp only
  split
  · exact hsu.mono (by decide)
  · next g _ =>
    refine hsu.seq (m := [.fans, .queue, .slot, .zones, .signs, .items .main, .items .panel]) ?_ (by decide) (by decide)
    unfold State.stepAction
    split
    · exact .refl _ _
    · exact .refl _ _
    · split
      · exact (State.joinQueue_keeps _ _).mono (by decide)
      · exact .refl _ _
    · split
      · exact (State.leaveQueue_keeps _ _).seq (State.changeFan_keeps _ _ _) (by decide) (by decide)
      · exact .refl _ _
    · split
      · exact (State.changeFan_keeps _ _ _).seq (State.judgeDrives_keeps _ _) (by decide) (by decide)
      · exact (State.changeFan_keeps _ _ _).mono (by decide)

/-- R90: the slot's expiry with no group waiting, with one, and on an idle slot. -/
theorem State.slotExpires_idles {s : State} (hs : s.slot = some s.seconds) (hq : s.queue = []) :
    s.slotExpires = s.withSlot none := by
  simp only [State.slotExpires, hs, hq, dueNow_self, if_true]

theorem State.slotExpires_grants {s : State} {group : Nat} {rest : List Nat} (hs : s.slot = some s.seconds)
    (hq : s.queue = group :: rest) : s.slotExpires = (s.grant group).takeSlot := by
  simp only [State.slotExpires, hs, hq, dueNow_self, if_true]

theorem State.slotExpires_of_idle {s : State} (hs : s.slot = none) : s.slotExpires = s := by
  simp [State.slotExpires, hs, dueNow]

/-- Settles O18, by the definition of the fan step and of the slot's expiry. -/
theorem fanStepAndStartSlot : Obligations.FanStepAndStartSlot := by
  intro s
  have hslot : exec .startSlotExpiry s = .next s.slotExpires := rfl
  refine ⟨fun hnow => ?_, fun hs hq => ?_, fun group rest g hs hq hnot hget => ?_, fun hs => ?_⟩
  · set v : State := { s with fanNext := s.seconds + BitVec.ofNat 32 s.settings.fanPeriod } with hv
    have hall : s.fanStepAll = State.forEach State.stepGroup (Table.keys s.fans) v := by
      unfold State.fanStepAll
      rw [hnow]
      rfl
    have hkeeps := State.keepsBut.forEach (fun n s => s.stepGroup_keeps n) (Table.keys s.fans) v
    have hsv : s.keepsBut v [.fanNext] := s.withFanNext_keeps _
    refine ⟨s.fanStepAll, ?_, ?_, ?_, ?_⟩
    · show Host.Outcome.next (if reached s.seconds s.fanNext then s.fanStepAll else s) = _
      rw [hnow, reached_self, if_pos rfl]
    · rw [hall, State.forEach_eq_foldl]
      rfl
    · rw [hall]
      exact hkeeps .fanNext (by decide)
    · rw [hall]
      exact hsv.seq hkeeps (by decide) (by decide)
  · rw [hslot, State.slotExpires_idles hs hq]
    rfl
  · refine ⟨_, hslot.trans (congrArg _ (State.slotExpires_grants hs hq)), ?_, fun n hn => ?_, ?_, rfl, ?_⟩
    · show Table.get (s.grant group).fans group = _
      rw [State.grant_fans, Table.get_modify, hget]
      rfl
    · show Table.get (s.grant group).fans n = _
      rw [State.grant_fans, Table.get_modify_ne _ _ hn]
    · show s.queue.filter (fun n => decide (n ≠ group)) = rest
      rw [hq, List.filter_cons_of_neg (by simp)]
      exact List.filter_eq_self.2 fun n hn => by simpa using fun h : n = group => hnot (h ▸ hn)
    · exact (s.grant_keeps group).seq (State.takeSlot_keeps _) (by decide) (by decide)
  · rw [hslot, State.slotExpires_of_idle hs]

/-! ### Proof timers and override entries that fall due (R79, R84) -/

theorem State.enterFault_raised {s : State} {group : Nat} {g : Fan} (h : Table.get s.fans group = some g) (c : FaultCause)
    (q : Port) : Table.get ((s.enterFault group c).port q).att.fan group = some .fault := by
  have heq : s.enterFault group c = ((((s.changeFan group (Fan.faulted c)).leaveQueue group).raise .fan group
      .fault).availabilityNotice g.served) := by
    unfold State.enterFault
    rw [h]
    rfl
  have hstand := State.availabilityNotice_itemsStand
    (((s.changeFan group (Fan.faulted c)).leaveQueue group).raise .fan group .fault) g.served (l := [.fan]) (by decide) q .fan
    (by decide)
  rw [heq]
  show Table.get (((State.availabilityNotice _ _).port q).att.items .fan) group = _
  rw [hstand]
  exact State.raise_raised _ _ _ _ _

theorem dueNow_none (now : Seconds) : dueNow now none = false := rfl

/-- Settles O19: the fault is `enterFault`, the target `retarget`. -/
theorem proofAndOverrideExpire : Obligations.ProofAndOverrideExpire := by
  intro s group g hget
  have hproof : exec (.proofTimerExpiry group) s = .next (s.proofExpires group) := rfl
  have hover : exec (.overrideExpiry group) s = .next (if s.overrideDue group then s.overridesExpire group else s) := rfl
  have hdue : s.overrideDue group = g.stack.any (fun e => dueNow s.seconds e.expiry) := by
    unfold State.overrideDue
    rw [hget]
    rfl
  refine ⟨fun p hst hp hnow => ?_, fun hp => ?_, fun hex hsep => ?_, fun hnone => ?_⟩
  · have heq : s.proofExpires group = s.enterFault group (if p.proven then .runLost else .startFail) := by
      unfold State.proofExpires
      simp only [hget, hp, hst, hnow, reached_self, decide_true, Bool.and_self, if_true]
    refine ⟨_, hproof.trans (congrArg _ heq), ?_, fun n hn => ?_, s.enterFault_queue hget _, s.enterFault_raised hget _,
      s.enterFault_airOnly _ _, s.enterFault_keeps _ _⟩
    · rw [State.enterFault_fans, Table.get_modify, hget]
      rfl
    · rw [State.enterFault_fans, Table.get_modify_ne _ _ hn]
  · rw [hproof]
    unfold State.proofExpires
    simp only [hget, hp]
  · intro stack
    obtain ⟨e, he, hnow⟩ := hex
    have hyes : s.overrideDue group = true := by
      rw [hdue, List.any_eq_true]
      exact ⟨e, he, by rw [hnow, dueNow_self]⟩
    have hstack : g.stack.filter (fun e => !dueNow s.seconds e.expiry) = stack := by
      refine List.filter_congr fun e he => ?_
      cases hx : e.expiry with
      | none => simp [dueNow_none]
      | some v =>
        rcases hsep e he v hx with rfl | hno
        · simp [dueNow_self]
        · have hv : v ≠ s.seconds := fun h => by simp [h, reached_self] at hno
          simp [dueNow, hno, hv]
    have hfans : (s.overridesExpire group).fans = Table.set s.fans group
        { g with stack := stack, target := s.targetOf { g with stack := stack } } := by
      unfold State.overridesExpire
      rw [State.retarget_fans, State.changeFan_fans, Table.modify_modify, Table.modify_of_get hget]
      rw [← hstack]
      rfl
    refine ⟨s.overridesExpire group, by rw [hover, if_pos hyes], by rw [hfans, Table.get_set],
      fun n hn => by rw [hfans, Table.get_set_ne _ _ hn], ?_⟩
    exact (s.changeFan_keeps _ _).seq (State.retarget_keeps _ _) (by decide) (by decide)
  · have hno : s.overrideDue group = false := by
      rw [hdue, List.any_eq_false]
      exact fun e he => by simp [hnone e he, dueNow_none]
    rw [hover, hno]
    rfl

end Sys2Proof.Machine

/-! ## Proofs: the step, the time base, the reset, the filters and refusals -/

namespace Sys2Proof.Machine

/-! ### What serving a request can touch (R179) -/

/-- The parts that serving a request can touch: not the time base, the fire monitor, a receiver or a place. -/
abbrev servedParts : List Field :=
  [.bays, .zones, .fans, .queue, .signs, .lights, .fumeSet, .nodes, .freeCount, .facilityMap, .operatorMap, .settings,
   .span .span0, .span .span1, .span .span2, .span .span3, .enables .main, .enables .panel, .items .main, .items .panel]

theorem serveRequest_keeps (p : Port) (body : Request) (c : Cls) (s : State) :
    s.keepsBut (serveRequest p body c s).state servedParts := by
  cases body with
  | readBays => exact (serveReadBays_keeps s _ _ _ _).mono (by decide)
  | findBays => exact (serveFindBays_keeps s _ _ _ _ _).mono (by decide)
  | changeBay => exact (serveChangeBay_keeps s c _ _ _).mono (by decide)
  | reserveBay => exact (serveReserveBay_keeps s c _ _ _).mono (by decide)
  | releaseBay => exact (serveReleaseBay_keeps s c _ _).mono (by decide)
  | defineBay => exact (serveDefineBay_keeps s c _ _ _ _ _).mono (by decide)
  | redefineBay => exact (serveRedefineBay_keeps s c _ _ _ _ _).mono (by decide)
  | retireBay => exact (serveRetireBay_keeps s c _).mono (by decide)
  | readZone => exact (serveReadZone_keeps s _).mono (by decide)
  | closeZone => exact (serveOperatorCause_keeps s _ c _).mono (by decide)
  | openZone => exact (serveOperatorCause_keeps s _ c _).mono (by decide)
  | defineZone => exact (serveDefineZone_keeps s c _ _ _).mono (by decide)
  | setZone => exact (serveSetZone_keeps s c _ _ _).mono (by decide)
  | retireZone => exact (serveRetireZone_keeps s c _).mono (by decide)
  | readFan => exact (serveReadFan_keeps s _).mono (by decide)
  | pushOverride => exact (servePushOverride_keeps s c _ _ _ _).mono (by decide)
  | popOverride => exact (servePopOverride_keeps s c _).mono (by decide)
  | fanControl => exact (serveFanControl_keeps s c _ _).mono (by decide)
  | defineFan => exact (serveDefineFan_keeps s c _ _ _ _).mono (by decide)
  | setFan => exact (serveSetFan_keeps s c _ _ _ _).mono (by decide)
  | retireFan => exact (serveRetireFan_keeps s c _).mono (by decide)
  | readSign => exact (serveReadSign_keeps s _).mono (by decide)
  | defineSign => exact (serveDefineSign_keeps s c _ _).mono (by decide)
  | setSign => exact (serveSetSign_keeps s c _ _).mono (by decide)
  | retireSign => exact (serveRetireSign_keeps s c _).mono (by decide)
  | readLight => exact (serveReadLight_keeps s _).mono (by decide)
  | lightOverride => exact (serveLightOverride_keeps s c _ _ _).mono (by decide)
  | defineLight => exact (serveDefineLight_keeps s c _ _ _ _).mono (by decide)
  | setLight => exact (serveSetLight_keeps s c _ _ _ _).mono (by decide)
  | retireLight => exact (serveRetireLight_keeps s c _).mono (by decide)
  | readNode => exact (serveReadNode_keeps s _).mono (by decide)
  | defineNode => exact (serveDefineNode_keeps s c _ _ _ _ _).mono (by decide)
  | retireNode => exact (serveRetireNode_keeps s c _).mono (by decide)
  | suspendNode => exact (serveSuspendNode_keeps s c _).mono (by decide)
  | resumeNode => exact (serveResumeNode_keeps s c _).mono (by decide)
  | readStatus => exact (serveReadStatus_keeps s p).mono (by decide)
  | setPermit => exact (serveSetPermit_keeps s c _ _ _).mono (by decide)
  | setPart => exact (serveSetPart_keeps s c _).mono (by decide)
  | readAttention => exact (serveReadAttention_keeps s p _).mono (by decide)
  | clearAttention => exact (serveClearAttention_keeps s p _ _).mono (by cases p <;> simp)
  | setAttentionEnable => exact (serveSetAttentionEnable_keeps s p _).mono (by cases p <;> simp)
  | restart => exact (serveRestart_keeps s c).mono (by decide)
  | unknown => exact .refl _ _
  | badLength => exact .refl _ _
  | badPresence => exact .refl _ _

/-! ### The time base through every command (R192) -/

/-- The time base stands. -/
def State.sameClock (s t : State) : Prop := t.ms = s.ms ∧ t.secondAt = s.secondAt ∧ t.seconds = s.seconds

theorem State.keepsBut.sameClock {s t : State} {l : List Field} (h : s.keepsBut t l)
    (hl : ∀ f ∈ clockParts, f ∉ l := by simp) : s.sameClock t :=
  ⟨h .ms (hl _ (by decide)), h .secondAt (hl _ (by decide)), h .seconds (hl _ (by decide))⟩

theorem State.sameClock.refl (s : State) : s.sameClock s := ⟨rfl, rfl, rfl⟩

theorem State.sameClock.trans {s t u : State} (h1 : s.sameClock t) (h2 : t.sameClock u) : s.sameClock u :=
  ⟨h2.1.trans h1.1, h2.2.1.trans h1.2.1, h2.2.2.trans h1.2.2⟩

theorem State.timeSound.clock {s t : State} (h : s.timeSound) (hc : s.sameClock t) : t.timeSound := by
  obtain ⟨hms, hat, hsec⟩ := hc
  unfold State.timeSound
  rw [hms, hat, hsec]
  exact h

theorem State.withPort_sameClock (s : State) (p : Port) (v : PortState) : s.sameClock (s.withPort p v) := by
  cases p <;> exact ⟨rfl, rfl, rfl⟩

theorem State.take_sameClock (s : State) (h : Head) (item : Placed) (body : Request) :
    s.sameClock (s.take h item (serveRequest h.port body)) := by
  have hkey : s.sameClock (s.withKey h.key) := (s.withKey_keeps h.key).sameClock
  unfold State.take
  cases admitted h.port h.key h.cls with
  | none => exact hkey.trans (State.occupy_keeps _ _ _ _).sameClock
  | some c =>
    exact (hkey.trans ((serveRequest_keeps _ _ _ _).sameClock (by decide))).trans (State.occupy_keeps _ _ _ _).sameClock

theorem State.arrive_sameClock (s : State) (h : Head) (body : Request) :
    s.sameClock (s.arrive h body (serveRequest h.port body)) := by
  unfold State.arrive
  split
  · exact s.take_sameClock _ _ _
  · exact (s.wait_keeps _ _).sameClock

theorem State.arriveBad_sameClock (s : State) (p : Port) (tag : Byte) : s.sameClock (s.arriveBad p tag) := by
  unfold State.arriveBad
  split
  · exact (s.occupy_keeps _ _ _).sameClock
  · exact (s.wait_keeps _ _).sameClock

theorem State.linkByte_sameClock (s : State) (p : Port) (b : Byte) (stopOk key : Bool) :
    s.sameClock (s.linkByte p b stopOk key) := by
  have hr : ∀ r, s.sameClock (s.setReceiver p r) := fun r => s.withPort_sameClock p _
  unfold State.linkByte
  split
  · exact hr _
  · exact (hr _).trans (State.arriveBad_sameClock _ _ _)
  · exact (hr _).trans (State.arrive_sameClock _ _ _)

theorem State.restartSpan_keeps (s : State) (i : SpanId) : s.keepsBut (s.restartSpan i) [.nodes, .span i] := by
  unfold State.restartSpan
  dsimp only
  split
  · exact (s.changeSpan_keeps _ _).seq (State.beginRound_keeps _ _) (by simp) (by simp)
  · exact (s.changeSpan_keeps _ _).mono (by simp)

theorem State.restartRecords_keeps (s : State) : s.keepsBut s.restartRecords [.bays, .zones, .nodes] :=
  ((s.withBays_keeps _).seq (State.withNodes_keeps _ _) (by decide) (by decide)).seq (State.withZones_keeps _ _)
    (List.Subset.refl _) (by decide)

theorem State.restartFans_keeps (s : State) : s.keepsBut s.restartFans [.fans, .queue, .slot, .fanNext] :=
  ((((s.withFans_keeps _).seq (State.withQueue_keeps _ _) (n := [.fans, .queue, .slot, .fanNext]) (by decide)
    (by decide)).trans ((State.withSlot_keeps _ _).mono (by decide))).trans ((State.withFans_keeps _ _).mono
    (by decide))).trans ((State.withFanNext_keeps _ _).mono (by decide))

theorem State.restartAir_keeps (s : State) : s.keepsBut s.restartAir [.zones, .airNext] :=
  (s.withZones_keeps _).seq (State.withAirNext_keeps _ _) (by decide) (by decide)

theorem State.restartOutputs_keeps (s : State) : s.keepsBut s.restartOutputs [.fireFlag, .fumeSet, .lights, .signs] :=
  (((s.withFireFlag_keeps _).seq (State.withFumeSet_keeps _ _) (n := [.fireFlag, .fumeSet, .lights, .signs])
    (by decide) (by decide)).trans ((State.withLights_keeps _ _).mono (by decide))).trans
    ((State.withSigns_keeps _ _).mono (by decide))

theorem State.restartSpans_sameClock (s : State) :
    s.sameClock ((((s.restartSpan .span0).restartSpan .span1).restartSpan .span2).restartSpan .span3) := by
  have hspan : ∀ (i : SpanId) (t : State), t.sameClock (t.restartSpan i) := fun i t => (t.restartSpan_keeps i).sameClock
  exact (((hspan .span0 s).trans (hspan .span1 _)).trans (hspan .span2 _)).trans (hspan .span3 _)

theorem State.restartEffect_sameClock (s : State) : s.sameClock s.restartEffect := by
  have hblocks := (s.restartRecords_keeps.sameClock.trans (State.restartFans_keeps _).sameClock).trans
    ((State.restartAir_keeps _).sameClock.trans (State.restartOutputs_keeps _).sameClock)
  exact (hblocks.trans (State.restartPorts_keeps _).sameClock).trans (State.restartSpans_sameClock _)

theorem State.takePlaced_sameClock (s : State) (p : Port) (item : Placed) (key : Bool) :
    s.sameClock (s.takePlaced p item key) := by
  cases item with
  | badFrame tag => exact (s.occupy_keeps _ _ _).sameClock
  | request cls tag body => exact s.take_sameClock { port := p, cls := cls, tag := tag, key := key } _ body

theorem State.replySent_sameClock (s : State) (p : Port) (key : Bool) : s.sameClock (s.replySent p key) := by
  unfold State.replySent
  split
  · exact .refl s
  · have h1 := s.withPort_sameClock p { s.port p with service := none }
    dsimp only
    split
    · exact h1.trans (State.restartEffect_sameClock _)
    · split
      · exact h1
      · exact h1.trans ((State.withPort_sameClock _ p _).trans (State.takePlaced_sameClock _ p _ key))

theorem State.lineStuck_timeSound {s : State} (h : s.timeSound) (i : SpanId) : (s.lineStuck i).timeSound := by
  have hlimit : (s.answerLimitPasses i).timeSound := by
    unfold State.answerLimitPasses
    split
    · exact h
    · split
      · exact (s.atMs_timeSound _ h).clock (State.endVisit_keeps _ _ _).sameClock
      · exact h
  unfold State.lineStuck
  split
  · exact (State.atMs_timeSound _ _ hlimit).clock
      (((State.changeSpan_keeps _ i _).sameClock).trans (State.raise_keeps _ _ _ _).sameClock)
  · exact h

/-- R192: what a command makes of the time base: it stands, or it goes on to a moment, or a full reset sets it to 0. -/
theorem exec_timeSound {s t : State} (h : s.timeSound) {cmd : Instr} (he : exec cmd s = .next t) : t.timeSound := by
  have later : ∀ m, (s.atMs m).timeSound := fun m => s.atMs_timeSound m h
  cases hr : requestRow cmd with
  | some r =>
    exact Host.Outcome.next.inj ((exec_request hr s).symm.trans he) ▸ h.clock (s.arrive_sameClock _ _)
  | none =>
    cases cmd with
    | badFrameAnswer p tag => cases he; exact h.clock (s.arriveBad_sameClock p tag)
    | linkByteReceived p b stopOk key => cases he; exact h.clock (s.linkByte_sameClock p b stopOk key)
    | frameGapTimeout p =>
      cases he
      unfold State.frameGap
      split
      · exact h
      · exact h
      · exact (later _).clock (State.withPort_sameClock _ p _)
    | drainingEnd p =>
      cases he
      unfold State.drained
      split
      · exact h
      · exact h
      · exact (later _).clock (State.withPort_sameClock _ p _)
    | replySent p key => cases he; exact h.clock (s.replySent_sameClock p key)
    | fullReset pins => cases he; exact ⟨show (0 : Nat) = 1000 * (0 / 1000) from rfl, show (0 : Seconds) = BitVec.ofNat 32 (0 / 1000) from rfl⟩
    | secondsCountAdvance => cases he; exact later _
    | fireLineEdge level => cases he; exact h.clock ⟨rfl, rfl, rfl⟩
    | fireFilterDue =>
      cases he
      unfold State.filterDue
      split
      · exact h
      · split
        · exact (later _).clock (State.leaveFireMode_keeps _).sameClock
        · exact (later _).clock (State.enterFireMode_keeps _).sameClock
    | fireZoneCodeChange value => cases he; exact h.clock ⟨rfl, rfl, rfl⟩
    | pendingZoneDue =>
      cases he
      unfold State.pendingZoneDue
      split
      · exact h
      · split
        · exact (later _).clock (State.moveFireZone_keeps _ _).sameClock
        · exact h
    | airEvaluationExpiry =>
      cases he
      split
      · exact h.clock s.evaluateAll_keeps.sameClock
      · exact h
    | fanStep =>
      cases he
      split
      · exact h.clock (((s.withFanNext_keeps _).sameClock).trans
          (State.keepsBut.forEach (fun n s => s.stepGroup_keeps n) _ _).sameClock)
      · exact h
    | startSlotExpiry =>
      cases he
      unfold State.slotExpires
      split
      · split <;> exact h.clock ⟨rfl, rfl, rfl⟩
      · exact h
    | proofTimerExpiry group =>
      cases he
      unfold State.proofExpires
      split
      · exact h
      · split
        · exact h
        · split
          · exact h.clock (s.enterFault_keeps _ _).sameClock
          · exact h
    | overrideExpiry group =>
      cases he
      split <;> exact h.clock ⟨rfl, rfl, rfl⟩
    | reservationExpiry bay =>
      cases he
      unfold State.expireReservation
      split
      · exact h
      · split
        · exact h.clock ((s.putBay_keeps _ _).sameClock.trans (State.raise_keeps _ _ _ _).sameClock)
        · exact h
    | holdExpiry group => cases he; exact h.clock ⟨rfl, rfl, rfl⟩
    | rampStep group => cases he; exact h.clock ⟨rfl, rfl, rfl⟩
    | lightOverrideExpiry group => cases he; exact h.clock ⟨rfl, rfl, rfl⟩
    | roundStart i =>
      cases he
      unfold State.startRound
      split
      · exact (later _).clock (State.beginRound_keeps _ _).sameClock
      · exact h
    | visitStart i =>
      cases he
      unfold State.startVisit
      split
      · dsimp only
        split
        · exact (later _).clock (State.closeRound_keeps _ _).sameClock
        · exact (later _).clock (State.beginVisit_keeps _ _ _).sameClock
      · exact h
    | spanByteReceived i b stopOk => cases he; exact h.clock (s.spanByte_keeps i b stopOk).sameClock
    | answerLimitExpiry i =>
      cases he
      unfold State.answerLimitPasses
      split
      · exact h
      · split
        · exact (later _).clock (State.endVisit_keeps _ _ _).sameClock
        · exact h
    | answerGapTimeout i =>
      cases he
      unfold State.answerGapPasses
      split
      · exact h
      · split
        · exact h
        · exact (later _).clock (State.endVisit_keeps _ _ _).sameClock
    | spanStuck i => cases he; exact State.lineStuck_timeSound h i
    | stuckSilencing i =>
      cases he
      unfold State.silenceStuck
      split
      · exact h
      · split
        · exact h
        · exact (later _).clock ((State.changeSpan_keeps _ _ _).sameClock.trans (State.silenceSpan_keeps _ _).sameClock)
    | stuckRetry i idle =>
      cases he
      unfold State.retryStuck
      split
      · exact h
      · dsimp only
        split
        · exact (later _).clock (State.freeSpan_keeps _ _).sameClock
        · exact (later _).clock (State.changeSpan_keeps _ _ _).sameClock
    | _ => cases hr

theorem step_timeSound {s t : State} (h : s.timeSound) (hstep : step s = .next t) : t.timeSound := by
  unfold step at hstep
  split at hstep
  · cases hstep
    exact s.atMs_timeSound _ h
  · next rest _ =>
    have hrest : ({ s with pending := rest } : State).timeSound := h
    exact exec_timeSound hrest hstep

/-- An idle millisecond completes the running second or none. -/
theorem passed_of_lt {ms at' : Nat} (h1 : at' ≤ ms) (h2 : ms < at' + 1000) :
    (ms + 1 - at') / 1000 = if ms + 1 = at' + 1000 then 1 else 0 := by
  split <;> omega

/-- Up to the end of the next second, one second passes. -/
theorem passed_next {ms at' : Nat} (h : ms < at' + 2000) : (max ms (at' + 1000) - at') / 1000 = 1 := by
  omega

/-- Settles O48: `step` by its two cases; an idle millisecond passes at most one second. -/
theorem stepRunsTheFrontCommand : Obligations.StepRunsTheFrontCommand := by
  refine ⟨fun s c rest => rfl, fun s hnil h1 h2 => ?_⟩
  have hstep : step s = .next s.idle := by
    unfold step
    rw [hnil]
  rw [hstep]
  have hmax : max s.ms (s.ms + 1) = s.ms + 1 := Nat.max_eq_right (Nat.le_succ _)
  have hidle : s.idle = s.withClock (s.ms + 1) (s.secondAt + (s.ms + 1 - s.secondAt) / 1000 * 1000)
      (s.seconds + BitVec.ofNat 32 ((s.ms + 1 - s.secondAt) / 1000)) := by
    show s.withClock (max s.ms (s.ms + 1)) _ _ = _
    rw [hmax]
    rfl
  by_cases heq : s.ms + 1 = s.secondAt + 1000
  · rw [hidle, passed_of_lt h1 h2, if_pos heq, if_pos heq]
    rfl
  · rw [hidle, passed_of_lt h1 h2, if_neg heq, if_neg heq]
    simp [State.withClock]

/-- Settles O49: `step_timeSound`, and the full reset's record field by field. -/
theorem secondsAndFullReset : Obligations.SecondsAndFullReset := by
  refine ⟨fun s t h hstep => step_timeSound h hstep, fun s => ⟨⟨s.atMs (s.secondAt + 1000), rfl, s.atMs_movedTo _, s.atMs_keeps _,
    fun hlt => ?_⟩, fun pins => ?_⟩⟩
  · have hpassed := passed_next hlt
    refine ⟨?_, ?_, rfl⟩
    · rw [State.atMs_seconds, hpassed]
      rfl
    · rw [State.atMs_secondAt, hpassed]
  · refine ⟨s.fullReset pins, rfl, rfl, rfl, rfl, ?_, ?_, rfl, rfl, rfl, rfl, rfl, rfl, rfl, rfl, rfl, rfl, rfl, rfl, rfl, rfl,
      rfl, rfl, rfl, fun p => ?_, fun i => ?_, rfl, rfl⟩
    · cases hp : pins.rate0 <;> cases hq : pins.rate1 <;> simp [State.fullReset, State.fresh, rateCode, State.withFreeCount, hp, hq]
    · cases hp : pins.rate0 <;> cases hq : pins.rate1 <;> simp [State.fullReset, State.fresh, rateCode, State.withFreeCount, hp, hq]
    · cases p <;> rfl
    · cases i <;> exact ⟨rfl, rfl, rfl⟩

theorem State.reset_tablesSound : State.reset.tablesSound :=
  ⟨Table.wf_nil _, Table.wf_nil _, Table.wf_nil _, Table.wf_nil _, Table.wf_nil _, Table.wf_nil _⟩

theorem AttSet.empty_sound : AttSet.empty.sound := fun k => by
  cases k <;> exact Table.wf_nil _

theorem State.reset_fumeSetSound : State.reset.fumeSetSound := fun k => by
  show (0 : ZoneSet).getLsbD k = false
  simp

theorem State.reset_queueSound : State.reset.queueSound :=
  ⟨List.nodup_nil, fun n => by simp [State.reset, State.fresh, Table.get]⟩

/-- No record of an empty table fails an invariant. -/
theorem forall_mem_nil {α : Type} {P : α → Prop} : ∀ e ∈ ([] : List α), P e := by simp

/-- Settles O50: every table is empty, and what is not empty is evaluated. -/
theorem resetMeetsEveryInvariant : Obligations.ResetMeetsEveryInvariant := by
  have hlines : State.reset.linesSound := fun p => by cases p <;> rfl
  have hfire : State.reset.fireSound := ⟨rfl, by simp [State.reset, State.fresh, FireMonitor.reset], rfl⟩
  have htime : State.reset.timeSound := ⟨rfl, rfl⟩
  have hsets : State.reset.setsSound := fun p => by cases p <;> exact AttSet.empty_sound
  have hplaces : State.reset.placesSound :=
    ⟨forall_mem_nil, forall_mem_nil, forall_mem_nil, forall_mem_nil, forall_mem_nil⟩
  exact ⟨hlines, State.reset_tablesSound, PartSettings.default_sound, hfire, rfl, forall_mem_nil, State.reset_fumeSetSound,
    forall_mem_nil, forall_mem_nil, forall_mem_nil, forall_mem_nil, forall_mem_nil, ⟨forall_mem_nil, forall_mem_nil⟩,
    State.reset_queueSound, List.Pairwise.nil, forall_mem_nil, forall_mem_nil, forall_mem_nil, forall_mem_nil,
    forall_mem_nil, hplaces, forall_mem_nil, hsets, htime, forall_mem_nil⟩

/-! ### The fire monitor's filters (R103, R105) -/

/-- Settles O35, by the equations of the two filters. -/
theorem fireFiltersWatch : Obligations.FireFiltersWatch := by
  intro s
  have hedge : ∀ level, exec (.fireLineEdge level) s = .next (s.withFire (s.fire.edge s.ms level)) := fun _ => rfl
  have hcode : ∀ v, exec (.fireZoneCodeChange v) s = .next (s.withFire (s.fire.codeChange s.ms v)) := fun _ => rfl
  refine ⟨fun level h => ?_, fun level h => ?_, fun v h hf => ?_, fun v h hf => ?_, fun v h => ?_, fun h => ?_, fun h => ?_⟩
  · rw [hedge, FireMonitor.edge, if_neg h]
    rfl
  · rw [hedge, FireMonitor.edge, if_pos h]
    rfl
  · rw [hcode, FireMonitor.codeChange, if_neg h]
    simp only [hf, Bool.not_true, Bool.false_eq_true, if_false]
    rfl
  · rw [hcode, FireMonitor.codeChange, if_neg h]
    simp only [hf, Bool.not_false, if_true]
    rfl
  · rw [hcode, FireMonitor.codeChange, if_pos h]
    rfl
  · show Host.Outcome.next s.filterDue = _
    unfold State.filterDue
    rw [h]
  · show Host.Outcome.next s.pendingZoneDue = _
    unfold State.pendingZoneDue
    rw [h]

/-! ### Refusals (R179, R181) -/

/-- A request whose result is neither OK nor OK_MASKED has changed nothing, and its reply is empty. -/
def Served.clean (s : State) (v : Served) : Prop :=
  v.result ≠ .ok → v.result ≠ .okMasked → v.state = s ∧ v.payload = []

namespace Served.clean

theorem refuse (r : Result) (s : State) : Served.clean s (refuse r s) := fun _ _ => ⟨rfl, rfl⟩

theorem ok {s t : State} {l : List Byte} : Served.clean s (serveOk l t) := fun h => absurd rfl h

theorem need1 {s : State} {b : Bool} {r : Result} {v : Served} (h : Served.clean s v) :
    Served.clean s (Sys2Proof.Machine.need b r s v) := by
  cases b
  · exact .refuse r s
  · exact h

/-- Behind the range check and the class or zone check. -/
theorem need2 {s : State} {b b' : Bool} {r r' : Result} {v : Served} (h : Served.clean s v) :
    Served.clean s (Sys2Proof.Machine.need b r s (Sys2Proof.Machine.need b' r' s v)) := h.need1.need1

end Served.clean

open Served.clean in
theorem serveRequest_clean (p : Port) (body : Request) (c : Cls) (s : State) :
    Served.clean s (serveRequest p body c s) := by
  unfold serveRequest
  cases body with
  | readBays => exact ok.need1
  | findBays => exact ok.need2
  | changeBay =>
    dsimp only; unfold serveChangeBay; split
    · refine need2 ?_; split
      · exact .refuse _ _
      · dsimp only
        intro h1 h2
        split at h1 <;> simp_all
    · exact .refuse _ _
  | reserveBay =>
    dsimp only; unfold serveReserveBay; refine need2 ?_; split
    · exact .refuse _ _
    · exact ok.need1
  | releaseBay =>
    dsimp only; unfold serveReleaseBay; refine need2 ?_; split
    · exact .refuse _ _
    · split
      · exact .refuse _ _
      · exact ok.need1
  | defineBay =>
    dsimp only; unfold serveDefineBay; split
    · exact .refuse _ _
    · exact ok.need1.need2.need2
  | redefineBay =>
    dsimp only; unfold serveRedefineBay; split
    · exact .refuse _ _
    · refine need2 ?_; split
      · exact .refuse _ _
      · exact ok.need2
  | retireBay =>
    dsimp only; unfold serveRetireBay; refine need2 ?_; split
    · exact .refuse _ _
    · exact ok.need2
  | readZone => exact ok.need2
  | closeZone => exact ok.need2.need2
  | openZone => exact ok.need2.need2
  | defineZone => exact ok.need2.need2
  | setZone =>
    dsimp only; unfold serveSetZone; refine need2 ?_; split
    · exact .refuse _ _
    · exact ok.need1
  | retireZone => exact ok.need1.need2.need2
  | readFan => exact ok.need2
  | pushOverride =>
    dsimp only; unfold servePushOverride; refine need2 ?_; split
    · exact .refuse _ _
    · exact ok.need2
  | popOverride =>
    dsimp only; unfold servePopOverride; refine need2 ?_; split
    · exact .refuse _ _
    · exact ok.need2
  | fanControl =>
    dsimp only; unfold serveFanControl; split
    · exact .refuse _ _
    · exact ok.need1.need2.need2
  | defineFan => exact ok.need1.need2.need2
  | setFan =>
    dsimp only; unfold serveSetFan; refine need1 (need2 ?_); split
    · exact .refuse _ _
    · exact ok.need2
  | retireFan =>
    dsimp only; unfold serveRetireFan; refine need2 ?_; split
    · exact .refuse _ _
    · exact ok.need1
  | readSign => exact ok.need2
  | defineSign =>
    dsimp only; unfold serveDefineSign; split
    · exact .refuse _ _
    · exact ok.need2.need2.need2
  | setSign =>
    dsimp only; unfold serveSetSign; refine need2 ?_; split
    · exact .refuse _ _
    · refine need1 ?_; split
      · exact .refuse _ _
      · exact ok.need2
  | retireSign => exact ok.need2.need2
  | readLight => exact ok.need2
  | lightOverride => exact ok.need1.need2
  | defineLight => exact ok.need2.need2.need2
  | setLight =>
    dsimp only; unfold serveSetLight; refine need2 ?_; split
    · exact .refuse _ _
    · exact ok.need1.need2
  | retireLight => exact ok.need2.need2
  | readNode => exact ok.need2
  | defineNode =>
    dsimp only; unfold serveDefineNode; split
    · refine need2 ?_
      unfold placeNode
      refine need1 ?_; split
      · exact ok.need1
      · exact ok.need1
    · exact .refuse _ _
  | retireNode =>
    dsimp only; unfold serveRetireNode; refine need2 ?_; split
    · exact .refuse _ _
    · exact ok.need2
  | suspendNode =>
    dsimp only; unfold serveSuspendNode; refine need2 ?_; split
    · exact .refuse _ _
    · exact ok
  | resumeNode =>
    dsimp only; unfold serveResumeNode; refine need2 ?_; split
    · exact .refuse _ _
    · exact ok
  | readStatus => exact ok
  | setPermit =>
    dsimp only; unfold serveSetPermit; split
    · exact ok.need1
    · exact ok.need1
    · exact .refuse _ _
  | setPart => exact ok.need2
  | readAttention => exact ok.need1
  | clearAttention =>
    dsimp only; unfold serveClearAttention; split
    · exact .refuse _ _
    · refine need1 ?_; dsimp only; split
      · exact ok
      · exact ok
  | setAttentionEnable => exact ok.need1
  | restart => exact ok.need1
  | unknown => exact .refuse _ _
  | badLength => exact .refuse _ _
  | badPresence => exact .refuse _ _

/-- Settles O59, request by request. -/
theorem refusalsChangeNothing : Obligations.RefusalsChangeNothing := fun p body c s =>
  serveRequest_clean p body c s

end Sys2Proof.Machine

/-! ## Proofs: the fume state, luminaire groups and signs -/

namespace Sys2Proof.Machine

/-! ### The fume state (R63 to R66) -/

theorem presentAverages_any {st : ZoneSettings} {co no2 : Option Nat} (lvl : GasSettings → Nat) :
    (presentAverages st co no2).any (fun e => decide (16 * lvl e.2 ≤ e.1)) = true ↔
      (∃ a, co = some a ∧ 16 * lvl st.co ≤ a) ∨ (∃ a, no2 = some a ∧ 16 * lvl st.no2 ≤ a) := by
  cases co <;> cases no2 <;> simp [presentAverages]

theorem presentAverages_all {st : ZoneSettings} {co no2 : Option Nat} (lvl : GasSettings → Nat) :
    (presentAverages st co no2).all (fun e => decide (e.1 < 16 * lvl e.2)) = true ↔
      (∀ a, co = some a → a < 16 * lvl st.co) ∧ (∀ a, no2 = some a → a < 16 * lvl st.no2) := by
  cases co <;> cases no2 <;> simp [presentAverages]

theorem presentAverages_isEmpty {st : ZoneSettings} {co no2 : Option Nat} :
    (presentAverages st co no2).isEmpty = true ↔ co = none ∧ no2 = none := by
  cases co <;> cases no2 <;> simp [presentAverages]

/-- R63 to R66: a zone with heads that is not BLIND and has an average, by its fume state; the four conditions of the
tables stand for what they test. -/
theorem judgeFume_present {st : ZoneSettings} {co no2 : Option Nat} {f : FumeCounts}
    (h : co.isSome = true ∨ no2.isSome = true) {warn alarm belowWarn belowAlarm : Prop}
    (hw : (presentAverages st co no2).any (fun e => decide (16 * e.2.warn ≤ e.1)) = true ↔ warn)
    (ha : (presentAverages st co no2).any (fun e => decide (16 * e.2.alarm ≤ e.1)) = true ↔ alarm)
    (hbw : (presentAverages st co no2).all (fun e => decide (e.1 < 16 * (e.2.warn - e.2.hyst))) = true ↔ belowWarn)
    (hba : (presentAverages st co no2).all (fun e => decide (e.1 < 16 * (e.2.alarm - e.2.hyst))) = true ↔ belowAlarm)
    [Decidable warn] [Decidable alarm] [Decidable belowWarn] [Decidable belowAlarm] :
    (f.fume = .clear → judgeFume st true false co no2 f =
      if warn then
        if st.alarmConfirm ≤ (if alarm then 1 else 0) then { fume := .fume, alarm := 0, clear := 0 }
        else { fume := .warning, alarm := if alarm then 1 else 0, clear := 0 }
      else { fume := .clear, alarm := 0, clear := 0 }) ∧
    (f.fume = .warning → judgeFume st true false co no2 f =
      if alarm then
        if st.alarmConfirm ≤ f.alarm + 1 then { fume := .fume, alarm := 0, clear := 0 } else { f with alarm := f.alarm + 1 }
      else if belowWarn then { fume := .clear, alarm := 0, clear := 0 } else { f with alarm := 0 }) ∧
    (f.fume = .fume → judgeFume st true false co no2 f =
      if belowAlarm then
        if st.clearConfirm ≤ f.clear + 1 then { fume := .warning, alarm := 0, clear := 0 } else { f with clear := f.clear + 1 }
      else { f with clear := 0 }) := by
  have hne : (presentAverages st co no2).isEmpty = false := by
    rw [← Bool.not_eq_true, presentAverages_isEmpty]
    rintro ⟨rfl, rfl⟩
    simp at h
  refine ⟨fun hf => ?_, fun hf => ?_, fun hf => ?_⟩ <;>
    simp only [judgeFume, hne, hf, hw, ha, hbw, hba, Bool.not_true, Bool.false_eq_true, if_false, Bool.or_self]

/-- Settles O21: the tables of R63 to R66, a row for each branch of `judgeFume`. -/
theorem fumeStateMoves : Obligations.FumeStateMoves := by
  classical
  intro st hasHeads blind co no2 f hconfirm g some' every atWarn atAlarm belowWarn belowAlarm clear warning fume
  have hnone : hasHeads = false → g = clear := fun h => by
    simp only [g, judgeFume, h, Bool.not_false, if_true]
    rfl
  have hheld : hasHeads = true → (blind = true ∨ (co = none ∧ no2 = none)) → g = f := fun h hb => by
    simp only [g, judgeFume, h, Bool.not_true, Bool.false_eq_true, if_false]
    rw [if_pos]
    rw [Bool.or_eq_true, presentAverages_isEmpty]
    exact hb.symm
  have hpresent : hasHeads = true → blind = false → (co.isSome = true ∨ no2.isSome = true) →
      (f.fume = .clear → g = if atWarn then
        if st.alarmConfirm ≤ (if atAlarm then 1 else 0) then fume else { warning with alarm := if atAlarm then 1 else 0 }
        else clear) ∧
      (f.fume = .warning → g = if atAlarm then
        if st.alarmConfirm ≤ f.alarm + 1 then fume else { f with alarm := f.alarm + 1 }
        else if belowWarn then clear else { f with alarm := 0 }) ∧
      (f.fume = .fume → g = if belowAlarm then
        if st.clearConfirm ≤ f.clear + 1 then warning else { f with clear := f.clear + 1 }
        else { f with clear := 0 }) := by
    rintro rfl rfl h
    exact judgeFume_present h (presentAverages_any _) (presentAverages_any _) (presentAverages_all fun e => e.warn - e.hyst)
      (presentAverages_all fun e => e.alarm - e.hyst)
  have hcases : hasHeads = false ∨ g = f ∨
      (hasHeads = true ∧ blind = false ∧ (co.isSome = true ∨ no2.isSome = true)) := by
    cases hh : hasHeads with
    | false => exact .inl rfl
    | true =>
      cases hb : blind with
      | true => exact .inr (.inl (hheld hh (.inl hb)))
      | false =>
        cases hc : co with
        | some _ => exact .inr (.inr ⟨rfl, rfl, .inl rfl⟩)
        | none =>
          cases hn : no2 with
          | some _ => exact .inr (.inr ⟨rfl, rfl, .inr rfl⟩)
          | none => exact .inr (.inl (hheld hh (.inr ⟨hc, hn⟩)))
  refine ⟨hnone, hheld, fun hh hb hp => ?_, fun hf hg => ?_, fun hf hg => ?_⟩
  · obtain ⟨hclear, hwarning, hfume⟩ := hpresent hh hb hp
    refine ⟨fun hf => ?_, fun hf => ?_, fun hf => ?_⟩
    · rw [hclear hf]
      refine ⟨fun h => if_neg h, fun hw ha => ?_, fun hw ha hlt => ?_, fun hw ha heq => ?_⟩
      · rw [if_pos hw, if_neg ha, if_neg (by omega)]
      · rw [if_pos hw, if_pos ha, if_neg (by omega)]
      · rw [if_pos hw, if_pos ha, if_pos (by omega)]
    · rw [hwarning hf]
      refine ⟨fun ha hle => ?_, fun ha hlt => ?_, fun ha hw => ?_, fun ha hw => ?_⟩
      · rw [if_pos ha, if_pos hle]
      · rw [if_pos ha, if_neg (by omega)]
      · rw [if_neg ha, if_pos hw]
      · rw [if_neg ha, if_neg hw]
    · rw [hfume hf]
      refine ⟨fun hb hle => ?_, fun hb hlt => ?_, fun hb => ?_⟩
      · rw [if_pos hb, if_pos hle]
      · rw [if_pos hb, if_neg (by omega)]
      · rw [if_neg hb]
  · rcases hcases with hh | hgf | ⟨hh, hb, hp⟩
    · rw [hnone hh] at hg
      exact absurd hg (by simp [clear])
    · exact absurd (hgf ▸ hg) hf
    · obtain ⟨hclear, hwarning, -⟩ := hpresent hh hb hp
      refine ⟨hh, hb, ?_⟩
      cases hst : f.fume with
      | fume => exact absurd hst hf
      | clear =>
        rw [hclear hst] at hg
        by_cases hw : atWarn <;> by_cases ha : atAlarm
        · by_cases hle : st.alarmConfirm ≤ 1
          · exact ⟨ha, .inr ⟨rfl, by omega⟩⟩
          · simp [hw, ha, hle, warning] at hg
        · simp [hw, ha, warning, show st.alarmConfirm ≠ 0 by omega] at hg
        · simp [hw, clear] at hg
        · simp [hw, clear] at hg
      | warning =>
        rw [hwarning hst] at hg
        by_cases ha : atAlarm
        · by_cases hle : st.alarmConfirm ≤ f.alarm + 1
          · exact ⟨ha, .inl ⟨rfl, hle⟩⟩
          · simp [ha, hle, hst] at hg
        · by_cases hw : belowWarn <;> simp [ha, hw, clear, hst] at hg
  · rcases hcases with hh | hgf | ⟨hh, hb, hp⟩
    · exact .inl hh
    · exact absurd (hgf ▸ hf) hg
    · obtain ⟨-, -, hfume⟩ := hpresent hh hb hp
      have heq := hfume hf
      by_cases hba : belowAlarm
      · by_cases hle : st.clearConfirm ≤ f.clear + 1
        · rw [if_pos hba, if_pos hle] at heq
          exact .inr ⟨hb, hba, hle, by rw [heq]⟩
        · rw [heq, if_pos hba, if_neg hle] at hg
          exact absurd hf hg
      · rw [heq, if_neg hba] at hg
        exact absurd hf hg

/-! ### Requests on the luminaire groups and the signs -/

/-- A request that puts a luminaire table in place. -/
theorem exec_setsLights {s : State} {cmd : Instr} {h : Head} {c : Cls} {body : Request} {tab : Table Light} {l : List Byte}
    (hr : requestRow cmd = some (h, body)) (ha : s.accepts h c)
    (hs : serveRequest h.port body c (s.withKey h.key) = serveOk l ((s.withKey h.key).withLights tab)) :
    ∃ t, exec cmd s = .next t ∧ t.lights = tab ∧ s.answers t h body .ok l ∧
      s.keepsBut t [.serviceKey, .places h.port, .lights] := by
  obtain ⟨t, ht, hv, hans, hkeep⟩ := exec_performs hr ha hs
    ((s.withKey_keeps h.key).seq (State.withLights_keeps _ tab) (n := [.serviceKey, .lights]) (by simp) (by simp)) (by simp) rfl
  exact ⟨t, ht, hv .lights (by simp), hans, hkeep⟩

/-- A request that puts a sign table in place. -/
theorem exec_setsSigns {s : State} {cmd : Instr} {h : Head} {c : Cls} {body : Request} {tab : Table Sign} {l : List Byte}
    (hr : requestRow cmd = some (h, body)) (ha : s.accepts h c)
    (hs : serveRequest h.port body c (s.withKey h.key) = serveOk l ((s.withKey h.key).withSigns tab)) :
    ∃ t, exec cmd s = .next t ∧ t.signs = tab ∧ s.answers t h body .ok l ∧
      s.keepsBut t [.serviceKey, .places h.port, .signs] := by
  obtain ⟨t, ht, hv, hans, hkeep⟩ := exec_performs hr ha hs
    ((s.withKey_keeps h.key).seq (State.withSigns_keeps _ tab) (n := [.serviceKey, .signs]) (by simp) (by simp)) (by simp) rfl
  exact ⟨t, ht, hv .signs (by simp), hans, hkeep⟩

theorem State.lightViewOf_of_get {s : State} {n : Nat} {l : Light} (h : Table.get s.lights n = some l) :
    s.lightViewOf n = lightView n l := by
  unfold State.lightViewOf
  rw [h]

theorem State.signViewOf_of_get {s : State} {n : Nat} {g : Sign} (h : Table.get s.signs n = some g) :
    s.signViewOf n = signView n g := by
  unfold State.signViewOf
  rw [h]

/-! ### LIGHT_OVERRIDE and its expiry (R142, R143) -/

/-- R136: the level of a group's table. -/
theorem Light.relevel_eq (l : Light) : l.relevel =
    { l with level := if l.state = .forced then 100 else (l.ovr.map (fun o => o.level)).getD l.policy } := by
  unfold Light.relevel
  cases hst : l.state <;> cases ho : l.ovr <;> simp

theorem Light.dropOverride_none {l : Light} (h : l.ovr = none) (now : Seconds) : l.dropOverride now = l := by
  simp [Light.dropOverride, h]

theorem Light.dropOverride_some {l : Light} {o : LightOverride} (h : l.ovr = some o) (now : Seconds) :
    l.dropOverride now =
      if l.state = .forced then { l with ovr := none, level := 100 }
      else { l with
        ovr := none, state := .active, policy := l.settings.active, level := l.settings.active
        holdExpiry := some (now + BitVec.ofNat 32 l.settings.hold), nextRamp := none } := by
  simp only [Light.dropOverride, h, Light.enterActive, Light.relevel_eq]
  split
  · next hf => simp [hf]
  · simp

theorem State.lightZone_of_get {s : State} {group : Nat} {l : Light} (h : Table.get s.lights group = some l) :
    s.lightZone group = zoneSingle l.zone := by
  unfold State.lightZone
  rw [h]

/-- Settles O26: both removals are `dropOverride`. -/
theorem lightOverrideComesAndGoes : Obligations.LightOverrideComesAndGoes := by
  intro h c s group l hget dropped
  have hdropped : l.dropOverride s.seconds = dropped := by
    cases ho : l.ovr with
    | none => rw [Light.dropOverride_none ho]; simp only [dropped, ho]
    | some o => rw [Light.dropOverride_some ho]; simp only [dropped, ho]
  have hexpiry : exec (.lightOverrideExpiry group) s = .next (s.changeLight group (Light.overrideExpires s.seconds)) := rfl
  have hserve : ∀ level duration : Option Nat, s.accepts h c → group ≤ 47 → s.permits c (zoneSingle l.zone) = true →
      (∀ v, level = some v → v ≤ 100) → (∀ d, duration = some d → 1 ≤ d ∧ d ≤ 86400) →
      ∃ t, exec (.lightOverride h group level duration) s = .next t ∧
        Table.get t.lights group = some (s.overrideLight level duration l) ∧
        (∀ n, n ≠ group → Table.get t.lights n = Table.get s.lights n) ∧
        s.answers t h (.lightOverride group level duration) .ok (lightView group (s.overrideLight level duration l)) ∧
        s.keepsBut t [.serviceKey, .places h.port, .lights] := by
    intro level duration ha hg hp hl hd
    have hrange : (within 0 47 group && optWithin 0 100 level && optWithin 1 86400 duration) = true := by
      cases level <;> cases duration <;> simp_all [within, optWithin]
    set tab := Table.set s.lights group (s.overrideLight level duration l) with htab
    have hs : serveRequest h.port (.lightOverride group level duration) c (s.withKey h.key) =
        serveOk (lightView group (s.overrideLight level duration l)) ((s.withKey h.key).withLights tab) := by
      show serveLightOverride c group level duration (s.withKey h.key) = _
      have hget' : Table.get (s.withKey h.key).lights group = some l := hget
      unfold serveLightOverride
      rw [need_pos hrange, need_pos (by rwa [State.permits_withKey, State.lightZone_of_get hget']),
        need_pos (by simp [Table.has, hget])]
      dsimp only
      have hmod : Table.modify (s.withKey h.key).lights group ((s.withKey h.key).overrideLight level duration) = tab :=
        Table.modify_of_get hget' _
      rw [hmod, State.lightViewOf_of_get (l := s.overrideLight level duration l) (Table.get_set _ _ _)]
    obtain ⟨t, ht, hlights, hans, hkeep⟩ := exec_setsLights (cmd := .lightOverride h group level duration) rfl ha hs
    exact ⟨t, ht, by rw [hlights, Table.get_set], fun n hn => by rw [hlights, Table.get_set_ne _ _ hn], hans, hkeep⟩
  refine ⟨fun ha hg hp => ⟨fun level duration hl hd => ?_, fun duration hd => ?_⟩, fun hex => ?_, fun hno => ?_⟩
  · intro l'
    have hl' : s.overrideLight (some level) duration l = l' := by
      simp only [State.overrideLight, Light.relevel_eq, l']
      rfl
    simpa only [hl'] using hserve (some level) duration ha hg hp (by simpa using hl) hd
  · have hl' : s.overrideLight none duration l = dropped := hdropped
    simpa only [hl'] using hserve none duration ha hg hp (by decide) hd
  · obtain ⟨o, ho, hnow⟩ := hex
    have hdue : l.overrideExpires s.seconds = dropped := by
      rw [Light.overrideExpires, ho]
      simp only [Option.bind_some, hnow, dueNow_self, if_true]
      exact hdropped
    refine ⟨_, hexpiry, ?_, fun n hn => ?_, s.withLights_keeps _⟩
    · show Table.get (Table.modify s.lights group _) group = _
      rw [Table.get_modify, hget, Option.map_some, hdue]
    · exact Table.get_modify_ne _ _ hn
  · have hsame : l.overrideExpires s.seconds = l := by
      rw [Light.overrideExpires, hno]
      rfl
    refine ⟨_, hexpiry, s.withLights_keeps _, fun n => ?_⟩
    show Table.get (Table.modify s.lights group _) n = _
    by_cases hn : n = group
    · rw [hn, Table.get_modify, hget, Option.map_some, hsame]
    · exact Table.get_modify_ne _ _ hn

/-! ### HOLD_EXPIRY and RAMP_STEP (R138) -/

theorem Light.enterEconomy_eq (l : Light) : l.enterEconomy =
    { l with
      state := .economy, policy := l.settings.economy
      level := (l.ovr.map (fun o => o.level)).getD l.settings.economy, holdExpiry := none, nextRamp := none } := by
  rw [Light.enterEconomy, Light.relevel_eq]
  simp

/-- Settles O27: the two events change one record. -/
theorem holdEndsAndRampFalls : Obligations.HoldEndsAndRampFalls := by
  intro s group l hget shown economy p only
  have hone : ∀ f : Light → Light, only (s.changeLight group f) (f l) := fun f => by
    refine ⟨?_, fun n hn => Table.get_modify_ne _ _ hn, s.withLights_keeps _⟩
    show Table.get (Table.modify s.lights group f) group = _
    rw [Table.get_modify, hget, Option.map_some]
  have hhold : exec (.holdExpiry group) s = .next (s.changeLight group (Light.holdExpires s.seconds)) := rfl
  have hramp : exec (.rampStep group) s = .next (s.changeLight group (Light.rampStep s.seconds)) := rfl
  refine ⟨fun hst hdue => ⟨_, hhold, ?_⟩, fun hst => ⟨_, hhold, ?_⟩, fun hst hdue => ⟨_, hramp, ?_⟩, fun hst => ⟨_, hramp, ?_⟩⟩
  · have heq : Light.holdExpires s.seconds l = if l.settings.economy < l.settings.active then
        { l with state := .ramping, holdExpiry := none, nextRamp := some (s.seconds + 1), level := shown l.policy }
        else economy := by
      rw [Light.holdExpires, if_pos ⟨hst, by rw [hdue, dueNow_self]⟩, Light.holdEnds,
        Light.enterEconomy_eq, Light.relevel_eq]
      simp only [reduceCtorEq, if_false]
      rfl
    exact heq ▸ hone _
  · have heq : Light.holdExpires s.seconds l = l := by
      rw [Light.holdExpires, if_neg fun hc => hst hc.1]
    simpa only [heq] using hone (Light.holdExpires s.seconds)
  · have heq : Light.rampStep s.seconds l = if p = l.settings.economy then economy
        else { l with policy := p, nextRamp := some (s.seconds + 1), level := shown p } := by
      simp only [Light.rampStep, hdue, hst, reached_self, and_self, if_true, Light.ramped,
        Light.enterEconomy_eq, Light.relevel_eq, reduceCtorEq, if_false]
      rfl
    exact heq ▸ hone _
  · have heq : Light.rampStep s.seconds l = l := by
      unfold Light.rampStep
      split
      · rfl
      · rw [if_neg fun hc => hst hc.1]
    simpa only [heq] using hone (Light.rampStep s.seconds)

end Sys2Proof.Machine

/-! ## Proofs: defining and changing luminaire groups and signs (R130 to R132, R149 to R151) -/

namespace Sys2Proof.Machine

/-! ### Luminaire groups (R149 to R151) -/

theorem LightSettings.consistent_iff {st : LightSettings} : st.consistent = true ↔ st.economy ≤ st.active := by
  simp [LightSettings.consistent]

theorem LightSettings.consistent_eq_false {st : LightSettings} : st.consistent = false ↔ st.active < st.economy := by
  simp [LightSettings.consistent]

/-- R149, R150: a DIMMER node clashes exactly where another group lists it. -/
theorem State.lightNodeClash_iff {s : State} {group node : Nat} (hk : s.kindOf node = some .dimmer) :
    s.lightNodeClash group node = true ↔ ∃ e ∈ s.lights, e.1 ≠ group ∧ e.2.node = node := by
  simp [State.lightNodeClash, hk, Table.exists_iff]

theorem State.signNodeClash_iff {s : State} {sign node : Nat} (hk : s.kindOf node = some .sign) :
    s.signNodeClash sign node = true ↔ ∃ e ∈ s.signs, e.1 ≠ sign ∧ e.2.config.node = node := by
  simp [State.signNodeClash, hk, Table.exists_iff]

/-- The number of a record of a table is not an undefined one. -/
theorem Table.ne_of_get_none {α : Type} {t : Table α} {k : Nat} (h : Table.get t k = none) {e : Nat × α} (he : e ∈ t) :
    e.1 ≠ k := by
  induction t with
  | nil => cases he
  | cons a t ih =>
    rw [Table.get] at h
    by_cases ha : a.1 = k
    · simp [ha] at h
    · rw [if_neg ha] at h
      rcases List.mem_cons.1 he with rfl | he
      · exact ha
      · exact ih h he

/-- R149: FORCED where it is due, and ACTIVE with a fresh hold elsewhere. -/
theorem Light.settled_blank (zone node : Nat) (st : LightSettings) (unseen forced : Bool) (now : Seconds) :
    (Light.blank zone node st unseen).settled forced now =
      { zone := zone, node := node, settings := st, state := if forced then .forced else .active
        policy := if forced then 100 else st.active, level := if forced then 100 else st.active
        holdExpiry := if forced then none else some (now + BitVec.ofNat 32 st.hold)
        nextRamp := none, ovr := none, applied := none, failedLamps := none
        unseen := unseen } := by
  cases forced <;> rfl

theorem serveDefineLight_checked {s : State} {group zone node : Nat} {fields : LightFields} (hg : group ≤ 47) (hz : zone ≤ 31)
    (hn : node ≤ 255) (hf : lightFieldsInRange fields = true) (hget : Table.get s.lights group = none) :
    serveDefineLight .service group zone node fields s =
      (let st := lightFieldsApplied fields LightSettings.default
      need st.consistent .badValue s <|
      need (Table.has s.zones zone && Table.has s.nodes node) .noSuch s <|
      need (!s.lightNodeClash group node) .conflict s <|
      let l := (Light.blank zone node st (s.unreachable node)).settled (s.dueForForcing zone) s.seconds
      serveOk (lightView group l) (s.withLights (Table.set s.lights group l))) := by
  unfold serveDefineLight
  dsimp only
  rw [need_pos (by simp [within, hg, hz, hn, hf]), need_pos serviceOnly_service, need_pos (by simp [Table.has, hget]),
    State.lightViewOf_of_get (Table.get_set _ _ _)]

/-- Settles O28: the new record by `settled_blank`. -/
theorem defineAndRetireLight : Obligations.DefineAndRetireLight := by
  refine ⟨fun h s group zone node fields ha hg hz hn hf hget => ?_, fun h s group l ha hg hs hget => ?_⟩
  · intro st cmd body
    have hserve := serveDefineLight_checked (s := s.withKey h.key) hg hz hn hf hget
    dsimp only at hserve
    refine ⟨fun hlt => ?_, fun hle hzone hkind => ?_⟩
    · rw [need_neg (LightSettings.consistent_eq_false.2 hlt)] at hserve
      exact exec_refuses (cmd := cmd) rfl ha hserve
    · rw [need_pos (LightSettings.consistent_iff.2 hle), need_pos (by simp [hzone, State.has_of_kindOf hkind])] at hserve
      have hclash := State.lightNodeClash_iff (s := s.withKey h.key) (group := group) (node := node) hkind
      refine ⟨fun hex => ?_, fun hfree => ?_⟩
      · obtain ⟨e, he, hnode⟩ := hex
        rw [need_neg (by rw [hclash.2 ⟨e, he, Table.ne_of_get_none hget he, hnode⟩]; rfl)] at hserve
        exact exec_refuses (cmd := cmd) rfl ha hserve
      · have hno : (s.withKey h.key).lightNodeClash group node = false := by
          rw [← Bool.not_eq_true, hclash]
          exact fun ⟨e, he, _, hnode⟩ => hfree e he hnode
        rw [need_pos (by simp [hno])] at hserve
        intro forced l
        have hl : (Light.blank zone node st (s.unreachable node)).settled forced s.seconds = l := Light.settled_blank ..
        obtain ⟨t, ht, hlights, hans, hkeep⟩ := exec_setsLights (cmd := cmd) rfl ha hserve
        rw [show (Light.blank zone node _ ((s.withKey h.key).unreachable node)).settled ((s.withKey h.key).dueForForcing zone)
          (s.withKey h.key).seconds = l from hl] at hlights hans
        exact ⟨t, ht, by rw [hlights, Table.get_set], fun n hn => by rw [hlights, Table.get_set_ne _ _ hn]; rfl, hans, hkeep⟩
  · have hserve : serveRequest h.port (.retireLight group) .service (s.withKey h.key) =
        need (!s.fireActive) .fireLock (s.withKey h.key) (serveOk (lightView group l)
          ((s.withKey h.key).withLights (Table.erase s.lights group))) := by
      show serveRetireLight .service group (s.withKey h.key) = _
      unfold serveRetireLight
      rw [need_pos (by simp [within, hg]), need_pos serviceOnly_service, need_pos (by simp [Table.has, hget]),
        State.lightViewOf_of_get (s := s.withKey h.key) hget]
      rfl
    refine ⟨fun hfire => ?_, fun hfire => ?_⟩
    · rw [need_neg (by simp [State.fireActive, hfire])] at hserve
      exact exec_refuses (cmd := .retireLight h group) rfl ha hserve
    · rw [need_pos (by simp [State.fireActive, hfire])] at hserve
      obtain ⟨t, ht, hlights, hans, hkeep⟩ := exec_setsLights (cmd := .retireLight h group) rfl ha hserve
      exact ⟨t, ht, by rw [hlights, Table.get_erase_self hs.lights.1], fun n hn => by rw [hlights, Table.get_erase_ne _ hn],
        hans, hkeep⟩

/-- R150: what the new levels make of the policy level. -/
theorem Light.relimited_eq (st : LightSettings) (l : Light) : l.relimited st =
    { l with
      settings := st
      policy :=
        if l.state = .active ∧ st.active ≠ l.settings.active then st.active
        else if l.state = .ramping ∧ st.active ≠ l.settings.active then min l.policy st.active
        else if l.state = .economy ∧ st.economy ≠ l.settings.economy then st.economy
        else l.policy } := by
  unfold Light.relimited
  cases hst : l.state <;> simp [ite_not]

/-- R150, R136: where a group lands, its level last; the level before counts for nothing. -/
theorem Light.landed_eq (l : Light) (v : Nat) : ({ l with level := v } : Light).landed =
    (let m : Light :=
      if l.state = .ramping ∧ l.policy ≤ l.settings.economy then
        { l with state := .economy, policy := l.settings.economy, holdExpiry := none, nextRamp := none }
      else l
    { m with level := if m.state = .forced then 100 else (m.ovr.map (fun o => o.level)).getD m.policy }) := by
  unfold Light.landed Light.enterEconomy
  dsimp only
  split <;> rw [Light.relevel_eq]

theorem serveSetLight_checked {s : State} {group : Nat} {zone node : Option Nat} {fields : LightFields} {l : Light}
    (hg : group ≤ 47) (hf : lightFieldsInRange fields = true) (hz : ∀ z, zone = some z → z ≤ 31 ∧ Table.has s.zones z = true)
    (hn : ∀ n, node = some n → n ≤ 255 ∧ s.kindOf n = some .dimmer ∧ ∀ e ∈ s.lights, e.1 ≠ group → e.2.node ≠ n)
    (hget : Table.get s.lights group = some l) :
    serveSetLight .service group zone node fields s =
      (let st := lightFieldsApplied fields l.settings
      let l' := s.changedLight (zone.getD l.zone) (node.getD l.node) st l
      need st.consistent .badValue s (serveOk (lightView group l') (s.withLights (Table.set s.lights group l')))) := by
  have hzone : optWithin 0 31 zone = true ∧ zone.all (Table.has s.zones) = true := by
    cases zone with
    | none => exact ⟨rfl, rfl⟩
    | some z => simpa [optWithin, within] using hz z rfl
  have hnode : optWithin 0 255 node = true ∧ node.all (Table.has s.nodes) = true ∧
      node.all (fun n => !s.lightNodeClash group n) = true := by
    cases node with
    | none => exact ⟨rfl, rfl, rfl⟩
    | some n =>
      obtain ⟨h255, hkind, hfree⟩ := hn n rfl
      have hno : s.lightNodeClash group n = false := by
        rw [← Bool.not_eq_true, State.lightNodeClash_iff hkind]
        exact fun ⟨e, he, hne, heq⟩ => hfree e he hne heq
      simp [optWithin, within, h255, State.has_of_kindOf hkind, hno]
  unfold serveSetLight
  rw [need_pos (by simp [within, hg, hf, hzone.1, hnode.1]), need_pos serviceOnly_service]
  simp only [hget]
  rw [need_pos (b := zone.all (Table.has s.zones) && _) (by simp [hzone.2, hnode.2.1]),
    need_pos (b := node.all (fun n => !s.lightNodeClash group n)) hnode.2.2, State.lightViewOf_of_get (Table.get_set _ _ _)]

/-- Settles O29: the record by its stages, the level last. -/
theorem setLightApplies : Obligations.SetLightApplies := by
  intro h s group zone node fields l ha hg hf hz hn hget cmd body st z n l1 l2 l3 l'
  have hserve := serveSetLight_checked (s := s.withKey h.key) hg hf hz hn hget
  dsimp only at hserve
  have hl' : s.changedLight z n st l = l' := by
    have h1 : (if n = l.node then l.relimited st else (l.relimited st).renoded n (s.unreachable n)) = { l1 with zone := l.zone } := by
      rw [Light.relimited_eq]
      split
      · next hnode => simp [l1, hnode]
      · next hnode => simp [l1, hnode, Light.renoded]
    have h2 : ∃ v, (if z = l.zone then ({ l1 with zone := l.zone } : Light)
        else ({ l1 with zone := l.zone } : Light).rezoned (s.dueForForcing z) s.seconds z) = { l2 with level := v } := by
      by_cases hzone : z = l.zone
      · refine ⟨l.level, ?_⟩
        rw [if_pos hzone]
        simp only [l2, if_pos hzone, ← hzone]
        rfl
      · rw [if_neg hzone]
        simp only [l2, if_neg hzone, Light.rezoned]
        by_cases hdue : s.dueForForcing z = true
        · rw [if_pos hdue, if_pos (show (s.fireFlag || s.fumeSet.getLsbD z) = true from hdue)]
          by_cases hst : l.state = .forced
          · exact ⟨l.level, by rw [if_pos hst]; simp [l1, hst]⟩
          · exact ⟨100, by rw [if_neg hst]; simp [l1, hst, Light.enterForced, Light.relevel_eq]⟩
        · rw [if_neg hdue, if_neg (show ¬(s.fireFlag || s.fumeSet.getLsbD z) = true from hdue)]
          exact ⟨_, rfl⟩
    obtain ⟨v, hv⟩ := h2
    unfold State.changedLight
    dsimp only
    have hst : l2.settings = st := by
      simp only [l2]
      split
      · rfl
      · split
        · split <;> rfl
        · rfl
    rw [h1, hv, Light.landed_eq]
    simp only [l', l3, hst]
  refine ⟨fun hlt => ?_, fun hle => ?_⟩
  · rw [need_neg (LightSettings.consistent_eq_false.2 hlt)] at hserve
    exact exec_refuses (cmd := cmd) rfl ha hserve
  · rw [need_pos (LightSettings.consistent_iff.2 hle)] at hserve
    obtain ⟨t, ht, hlights, hans, hkeep⟩ := exec_setsLights (cmd := cmd) rfl ha hserve
    rw [show (s.withKey h.key).changedLight (zone.getD l.zone) (node.getD l.node) (lightFieldsApplied fields l.settings) l = l'
      from hl'] at hlights hans
    exact ⟨t, ht, by rw [hlights, Table.get_set], fun k hk => by rw [hlights, Table.get_set_ne _ _ hk]; rfl, hans, hkeep⟩

/-! ### Signs (R130 to R132) -/

theorem serveDefineSign_checked {s : State} {sign : Nat} {fields : SignFields} {d : SignDef} (hn : sign ≤ 63)
    (hd : signDefOf fields = some d) (hget : Table.get s.signs sign = none) :
    serveDefineSign .service sign fields s =
      (need d.consistent .badValue s <|
      need (Table.has s.nodes d.node && s.zonesDefined (d.countZones ||| d.termA ||| d.termB)) .noSuch s <|
      need (!s.signNodeClash sign d.node) .conflict s <|
      serveOk (signView sign (s.freshSign d)) (s.withSigns (Table.set s.signs sign (s.freshSign d)))) := by
  unfold serveDefineSign
  simp only [hd]
  rw [need_pos (by simp [within, hn]), need_pos serviceOnly_service, need_pos (by simp [Table.has, hget]),
    State.signViewOf_of_get (Table.get_set _ _ _)]

/-- Settles O24: the new record is `freshSign`. -/
theorem defineAndRetireSign : Obligations.DefineAndRetireSign := by
  refine ⟨fun h s sign fields d ha hn hd hget => ?_, fun h s sign g ha hn hs hget => ?_⟩
  · have hserve : serveRequest h.port (.defineSign sign fields) .service (s.withKey h.key) = _ :=
      serveDefineSign_checked (s := s.withKey h.key) hn hd hget
    refine ⟨fun hno => ?_, fun hyes hkind hzones => ?_⟩
    · rw [need_neg hno] at hserve
      exact exec_refuses (cmd := .defineSign h sign fields) rfl ha hserve
    · rw [need_pos hyes, need_pos (by simp [hzones, State.has_of_kindOf hkind])] at hserve
      have hclash := State.signNodeClash_iff (s := s.withKey h.key) (sign := sign) (node := d.node) hkind
      refine ⟨fun hex => ?_, fun hfree => ?_⟩
      · obtain ⟨e, he, hnode⟩ := hex
        rw [need_neg (by rw [hclash.2 ⟨e, he, Table.ne_of_get_none hget he, hnode⟩]; rfl)] at hserve
        exact exec_refuses (cmd := .defineSign h sign fields) rfl ha hserve
      · have hno : (s.withKey h.key).signNodeClash sign d.node = false := by
          rw [← Bool.not_eq_true, hclash]
          exact fun ⟨e, he, _, hnode⟩ => hfree e he hnode
        rw [need_pos (by simp [hno])] at hserve
        intro g
        obtain ⟨t, ht, hsigns, hans, hkeep⟩ := exec_setsSigns (cmd := .defineSign h sign fields) rfl ha hserve
        exact ⟨t, ht, by rw [hsigns, Table.get_set]; rfl, fun n hn => by rw [hsigns, Table.get_set_ne _ _ hn]; rfl, hans, hkeep⟩
  · have hserve : serveRequest h.port (.retireSign sign) .service (s.withKey h.key) =
        need (!s.fireActive) .fireLock (s.withKey h.key) (serveOk (signView sign g)
          ((s.withKey h.key).withSigns (Table.erase s.signs sign))) := by
      show serveRetireSign .service sign (s.withKey h.key) = _
      unfold serveRetireSign
      rw [need_pos (by simp [within, hn]), need_pos serviceOnly_service, need_pos (by simp [Table.has, hget]),
        State.signViewOf_of_get (s := s.withKey h.key) hget]
      rfl
    refine ⟨fun hfire => ?_, fun hfire => ?_⟩
    · rw [need_neg (by simp [State.fireActive, hfire])] at hserve
      exact exec_refuses (cmd := .retireSign h sign) rfl ha hserve
    · rw [need_pos (by simp [State.fireActive, hfire])] at hserve
      obtain ⟨t, ht, hsigns, hans, hkeep⟩ := exec_setsSigns (cmd := .retireSign h sign) rfl ha hserve
      exact ⟨t, ht, by rw [hsigns, Table.get_erase_self hs.signs.1], fun n hn => by rw [hsigns, Table.get_erase_ne _ hn],
        hans, hkeep⟩

/-- R131: the record with a new definition, written out. -/
theorem State.redefinedSign_eq (s : State) (d : SignDef) (g : Sign) : s.redefinedSign d g =
    (let moved : Bool := decide (d.node ≠ g.config.node)
    let accepted := if moved then none else g.accepted
    if d = g.config then g else
      { config := d, content := s.contentOf d, accepted := accepted, sent := none
        dirty := decide (accepted ≠ some (s.contentOf d))
        unseen := if moved then s.unreachable d.node else g.unseen
        displayFault := if moved then none else g.displayFault }) := by
  unfold State.redefinedSign
  dsimp only
  split
  · rfl
  · by_cases hn : d.node = g.config.node <;> simp [hn, Sign.judged]

theorem serveSetSign_checked {s : State} {sign : Nat} {change : SignChange} {d : SignDef} {g : Sign} (hn : sign ≤ 63)
    (hc : signChangeInRange change = true) (hget : Table.get s.signs sign = some g)
    (hd : signDefOf (signFieldsOver change g.config) = some d)
    (hnode : ∀ n, change.node = some n → s.kindOf n = some .sign ∧ ∀ e ∈ s.signs, e.1 ≠ sign → e.2.config.node ≠ n)
    (hzones : ∀ m, change.countZones = some m ∨ change.termA = some m ∨ change.termB = some m → s.zonesDefined m = true) :
    serveSetSign .service sign change s =
      need d.consistent .badValue s
        (serveOk (signView sign (s.redefinedSign d g)) (s.withSigns (Table.set s.signs sign (s.redefinedSign d g)))) := by
  have hnodes : change.node.all (Table.has s.nodes) = true ∧ change.node.all (fun n => !s.signNodeClash sign n) = true := by
    cases hcn : change.node with
    | none => exact ⟨rfl, rfl⟩
    | some n =>
      obtain ⟨hkind, hfree⟩ := hnode n hcn
      have hno : s.signNodeClash sign n = false := by
        rw [← Bool.not_eq_true, State.signNodeClash_iff hkind]
        exact fun ⟨e, he, hne, heq⟩ => hfree e he hne heq
      simp [State.has_of_kindOf hkind, hno]
  have hdefined : s.changeZonesDefined change = true := by
    simp only [State.changeZonesDefined, Bool.and_eq_true, Option.all_eq_true]
    exact ⟨⟨fun m hm => hzones m (.inl hm), fun m hm => hzones m (.inr (.inl hm))⟩, fun m hm => hzones m (.inr (.inr hm))⟩
  unfold serveSetSign
  rw [need_pos (by simp [within, hn, hc]), need_pos serviceOnly_service]
  simp only [hget, hd]
  rw [need_pos (b := change.node.all (Table.has s.nodes) && _) (by simp [hnodes.1, hdefined]),
    need_pos (b := change.node.all (fun n => !s.signNodeClash sign n)) hnodes.2, State.signViewOf_of_get (Table.get_set _ _ _)]

/-- Settles O25: the record by `redefinedSign_eq`. -/
theorem setSignApplies : Obligations.SetSignApplies := by
  intro h s sign change d g ha hn hc hget hd hnode hzones
  have hserve : serveRequest h.port (.setSign sign change) .service (s.withKey h.key) = _ :=
    serveSetSign_checked (s := s.withKey h.key) hn hc hget hd hnode hzones
  refine ⟨fun hno => ?_, fun hyes => ?_⟩
  · rw [need_neg hno] at hserve
    exact exec_refuses (cmd := .setSign h sign change) rfl ha hserve
  · rw [need_pos hyes] at hserve
    intro moved accepted g'
    have hg' : (s.withKey h.key).redefinedSign d g = g' := s.redefinedSign_eq d g
    rw [hg'] at hserve
    obtain ⟨t, ht, hsigns, hans, hkeep⟩ := exec_setsSigns (cmd := .setSign h sign change) rfl ha hserve
    exact ⟨t, ht, by rw [hsigns, Table.get_set], fun n hn => by rw [hsigns, Table.get_set_ne _ _ hn]; rfl, hans, hkeep⟩

end Sys2Proof.Machine

/-! ## Proofs: the request links (R174 to R178) -/

namespace Sys2Proof.Machine

/-! ### The receiver (R174, R175) -/

theorem State.hunt_keeps (s : State) (p : Port) : s.keepsBut (s.withPort p { s.port p with receiver := .hunting }) [.link p] := by
  refine s.withPort_only p _ _ fun f h hn => ?_
  simp only [List.mem_cons, List.not_mem_nil, or_false] at h hn
  rcases h with rfl | rfl | rfl | rfl
  · exact absurd rfl hn
  all_goals simp [Field.same, PortState.placesPart, PortState.itemsPart]

theorem exec_linkByteReceived (p : Port) (b : Byte) (stopOk key : Bool) (s : State) :
    exec (.linkByteReceived p b stopOk key) s = .next (s.linkByte p b stopOk key) := rfl

/-- R174: a byte that completes no frame. -/
theorem State.linkByte_more {s : State} {p : Port} {b : Byte} {stopOk : Bool} {r : Receiver}
    (h : (s.port p).receiver.step b stopOk = .more r) (key : Bool) : s.linkByte p b stopOk key = s.setReceiver p r := by
  unfold State.linkByte
  rw [h]

theorem State.frameGap_receiving {s : State} {p : Port} {bytes : List Byte} (h : (s.port p).receiver = .receiving bytes) :
    s.frameGap p = (s.atMs ((s.port p).lastByte + 20)).withPort p
      { (s.atMs ((s.port p).lastByte + 20)).port p with receiver := .hunting } := by
  unfold State.frameGap
  rw [h]
  rfl

theorem State.drained_draining {s : State} {p : Port} (h : (s.port p).receiver = .draining) :
    s.drained p = (s.atMs ((s.port p).lastByte + 20)).withPort p
      { (s.atMs ((s.port p).lastByte + 20)).port p with receiver := .hunting } := by
  unfold State.drained
  rw [h]
  rfl

/-- A port hunts at a moment to which the time base has gone on. -/
theorem State.hunts_at {s : State} {p : Port} {m : Millis} {cmd : Instr}
    (h : exec cmd s = .next ((s.atMs m).withPort p { (s.atMs m).port p with receiver := .hunting })) :
    ∃ t, exec cmd s = .next t ∧ s.movedTo t m ∧ t.port p = { s.port p with receiver := .hunting } ∧
      s.keepsBut t (clockParts ++ [.link p]) := by
  have hclock := State.withPort_sameClock (s.atMs m) p { (s.atMs m).port p with receiver := .hunting }
  obtain ⟨hms, hat, hsec⟩ := s.atMs_movedTo m
  refine ⟨_, h, ⟨hclock.1.trans hms, hclock.2.1.trans hat, hclock.2.2.trans hsec⟩, State.withPort_port _ _ _, ?_⟩
  exact (s.atMs_keeps m).seq (State.hunt_keeps _ p) (by simp) (by simp)

/-- Settles O43, byte by byte as `Receiver.step` and `judgeFrame` have it. -/
theorem receiverTakesBytes : Obligations.ReceiverTakesBytes := by
  refine ⟨fun s p b stopOk key => ?_, fun s p => ?_⟩
  · intro becomes
    have hmore : ∀ r, (s.port p).receiver.step b stopOk = .more r → becomes r := fun r h =>
      ⟨_, (exec_linkByteReceived p b stopOk key s).trans (congrArg _ (State.linkByte_more h key)),
        State.withPort_port _ _ _, s.setReceiver_keeps p r⟩
    refine ⟨fun h => hmore _ ?_, fun h => hmore _ (by rw [h]; rfl), fun bytes h => ⟨fun hstop => hmore _ ?_, fun hstop => ?_⟩⟩
    · rw [h, Receiver.step]
      by_cases hs : stopOk = true ∧ b = 0xC3
      · rw [if_pos hs, if_pos (by simp [hs, Config.startByte])]
      · have hne : ¬ (stopOk && decide (b = Config.startByte)) = true := fun hc =>
          hs ⟨(Bool.and_eq_true_iff.1 hc).1, of_decide_eq_true (Bool.and_eq_true_iff.1 hc).2⟩
        rw [if_neg hs, if_neg hne]
    · rw [h, Receiver.step, hstop]
      rfl
    · intro frame length
      have hstep : (s.port p).receiver.step b stopOk = judgeFrame frame := by
        rw [h, Receiver.step, hstop]
        rfl
      refine ⟨fun h4 => hmore _ ?_, fun h4 h244 hlen => hmore _ ?_, fun h244 hlen => hmore _ ?_⟩
      · rw [hstep, judgeFrame]
        exact if_pos h4
      · rw [hstep, judgeFrame]
        rw [if_neg (Nat.not_lt.2 h4), if_neg (Nat.not_lt.2 h244), if_pos hlen]
      · rw [hstep, judgeFrame]
        rw [if_neg (show ¬ length < 4 by omega), if_pos h244, if_neg (Nat.not_le.2 hlen)]
  · intro hunts
    have hgap : exec (.frameGapTimeout p) s = .next (s.frameGap p) := rfl
    have hdrain : exec (.drainingEnd p) s = .next (s.drained p) := rfl
    refine ⟨fun bytes h => State.hunts_at (hgap.trans (congrArg _ (State.frameGap_receiving h))), fun h => ?_,
      fun h => State.hunts_at (hdrain.trans (congrArg _ (State.drained_draining h))), fun h => ?_⟩
    · rw [hgap, State.frameGap]
      rcases h with h | h <;> simp only [h]
    · rw [hdrain, State.drained]
      rcases h with h | ⟨bytes, h⟩ <;> simp only [h]

/-! ### Completed frames (R175 to R177) -/

/-- Settles O44: a good frame arrives as `exec_request` has the request's own command. -/
theorem completedFramesArrive : Obligations.CompletedFramesArrive := by
  intro s p b bytes key hr frame length code payload head after
  have hstep : (s.port p).receiver.step b true = judgeFrame frame := by
    rw [hr]
    rfl
  have hbad : ∀ r, judgeFrame frame = .bad r (byteAt frame 3) →
      exec (.linkByteReceived p b true key) s = exec (.badFrameAnswer p (byteAt frame 3)) (after r) := fun r h => by
    rw [exec_linkByteReceived, State.linkByte, hstep, h]
    rfl
  refine ⟨fun h4 h244 hlen => ⟨fun hsum => ?_, fun hsum => hbad _ ?_⟩, fun h244 hlen => hbad _ ?_⟩
  · have hgood : judgeFrame frame = .good (byteAt frame 1) (byteAt frame 2) (byteAt frame 3) payload := by
      rw [judgeFrame]
      rw [if_neg (Nat.not_lt.2 h4), if_neg (Nat.not_lt.2 h244), if_neg (by rw [hlen]; exact lt_irrefl _), if_pos hsum]
    have harrive : exec (.linkByteReceived p b true key) s =
        .next ((after .hunting).arrive head (parseRequest code payload) (serveRequest p (parseRequest code payload))) := by
      rw [exec_linkByteReceived, State.linkByte, hstep, hgood]
      rfl
    have hcmd : ∀ cmd : Instr, requestRow cmd = some (head, parseRequest code payload) →
        exec (.linkByteReceived p b true key) s = exec cmd (after .hunting) := fun cmd hrow => by
      rw [exec_request hrow]
      exact harrive
    exact ⟨hcmd, hcmd _ rfl⟩
  · rw [judgeFrame]
    rw [if_neg (Nat.not_lt.2 h4), if_neg (Nat.not_lt.2 h244), if_neg (by rw [hlen]; exact lt_irrefl _), if_neg hsum]
  · rw [judgeFrame]
    rw [if_neg (show ¬ length < 4 by omega), if_pos h244, if_pos hlen]

/-! ### Places (R176 to R179) -/

/-- R176: a full port: the arrival waits, or is lost with an OVERRUN item. -/
theorem State.waits {s : State} {p : Port} {cmd : Instr} {item : Placed} (h : exec cmd s = .next (s.wait p item)) :
    ((s.port p).waiting = none → ∃ t, exec cmd s = .next t ∧
      t.port p = { s.port p with waiting := some item } ∧ s.keepsBut t [.places p]) ∧
    ((s.port p).waiting ≠ none → ∃ t, exec cmd s = .next t ∧
      (∀ q : Port, Table.get (t.port q).att.link (if p = .main then 0 else 1) = some .overrun ∧
        (t.port q).service = (s.port q).service ∧ (t.port q).waiting = (s.port q).waiting) ∧
      s.keepsBut t [.items .main, .items .panel]) := by
  refine ⟨fun hw => ?_, fun hw => ?_⟩
  · have heq : s.wait p item = s.withPort p { s.port p with waiting := some item } := by
      unfold State.wait
      rw [hw]
    refine ⟨_, h.trans (congrArg _ heq), State.withPort_port _ _ _, s.withPort_only p _ _ fun f hf hn => ?_⟩
    simp only [List.mem_cons, List.not_mem_nil, or_false] at hf hn
    rcases hf with rfl | rfl | rfl | rfl
    · simp [Field.same, PortState.linkPart]
    · exact absurd rfl hn
    all_goals simp [Field.same, PortState.itemsPart]
  · obtain ⟨v, hv⟩ := Option.ne_none_iff_exists'.1 hw
    have heq : s.wait p item = s.raise .link (portObject p) .overrun := by
      unfold State.wait
      rw [hv]
    have hobj : portObject p = if p = .main then 0 else 1 := by cases p <;> rfl
    refine ⟨_, h.trans (congrArg _ heq), fun q => ⟨?_, ?_, ?_⟩, s.raise_keeps _ _ _⟩
    · rw [← hobj]
      exact s.raise_raised .link (portObject p) .overrun q
    · rw [State.raise_port]; rfl
    · rw [State.raise_port]; rfl

/-- R196: the codes with a layout are 1 to 42. -/
theorem shapesOf_above (n : Nat) : shapesOf (n + 43) = none := rfl

theorem code_of_shapes {code : Nat} {l : List Shape} (h : shapesOf code = some l) : 1 ≤ code ∧ code ≤ 42 := by
  constructor
  · cases code with
    | zero => exact absurd h (Option.some_ne_none l).symm
    | succ n => exact Nat.succ_pos n
  · by_contra hlt
    obtain ⟨n, rfl⟩ : ∃ n, code = n + 43 := ⟨code - 43, by omega⟩
    rw [shapesOf_above] at h
    exact absurd h (Option.some_ne_none l).symm

/-- Settles O45: an arrival is taken or waits, by the service place. -/
theorem requestsArrive : Obligations.RequestsArrive := by
  intro s p places
  refine ⟨?_, fun h c code payload ha hcode => ?_, fun tag => ⟨fun hfull => ?_, fun hfree => ?_⟩⟩
  · rintro cmd h body hrow rfl
    refine ⟨fun hfull => State.waits ?_, fun hfree hadm => ?_⟩
    · obtain ⟨v, hv⟩ := Option.ne_none_iff_exists'.1 hfull
      rw [exec_request hrow, State.arrive, hv]
    · have hcls := State.arrive_classRefused hfree hadm body (serveRequest h.port body)
      refine ⟨_, (exec_request hrow s).trans (congrArg _ hcls), State.answers_of_occupy body _ _ rfl rfl, ?_⟩
      exact (s.withKey_keeps h.key).seq (State.occupy_keeps _ _ _ _) (by simp) (by simp)
  · have hshapes : shapesOf code = none := by
      cases hl : shapesOf code with
      | none => rfl
      | some l =>
        obtain ⟨h1, h42⟩ := code_of_shapes hl
        omega
    have hparse : parseRequest code payload = .unknown code := by
      unfold parseRequest
      rw [hshapes]
    have hrow : requestRow (.unknownRequest h code payload) = some (h, .unknown code) := by
      rw [← hparse]
      rfl
    exact exec_refuses hrow ha rfl
  · refine State.waits ?_ 
    obtain ⟨v, hv⟩ := Option.ne_none_iff_exists'.1 hfull
    show Host.Outcome.next (s.arriveBad p tag) = _
    rw [State.arriveBad, hv]
  · refine ⟨s.takeBad p tag, ?_, State.withPort_port _ _ _, s.occupy_keeps _ _ _⟩
    show Host.Outcome.next (s.arriveBad p tag) = _
    rw [State.arriveBad, hfree]

theorem State.withPort_withPort (s : State) (p : Port) (v w : PortState) : (s.withPort p v).withPort p w = s.withPort p w := by
  cases p <;> rfl

/-- Settles O46: what moves up is taken by the same functions as what arrives. -/
theorem replySentFreesThePlace : Obligations.ReplySentFreesThePlace := by
  intro s p key
  have hexec : exec (.replySent p key) s = .next (s.replySent p key) := rfl
  refine ⟨fun hnone => by rw [hexec, State.replySent, hnone], fun v hv hrestart => ?_⟩
  intro freed
  have hservice : (freed.port p).service = none := by
    rw [show freed.port p = _ from State.withPort_port _ _ _]
  have htaken : ∀ item, (s.port p).waiting = some item → s.replySent p key = freed.takePlaced p item key := fun item hw => by
    have hfreed : (s.withPort p { s.port p with service := none }).withPort p
        { (s.withPort p { s.port p with service := none }).port p with waiting := none } = freed := by
      rw [State.withPort_port, State.withPort_withPort]
    unfold State.replySent
    simp only [hv, hrestart, Bool.false_eq_true, if_false]
    split
    · next hno => exact absurd (hno.symm.trans hw) (by simp)
    · next item' hsome =>
      obtain rfl : item = item' := Option.some.inj (hw.symm.trans hsome)
      rw [hfreed]
  refine ⟨fun hw => ?_, fun tag hw => ?_, fun cls tag body cmd hw hrow => ?_⟩
  · rw [hexec, State.replySent]
    simp only [hv, hrestart, hw, Bool.false_eq_true, if_false]
    rfl
  · rw [hexec, htaken _ hw]
    show _ = Host.Outcome.next (freed.arriveBad p tag)
    rw [State.arriveBad, hservice]
    rfl
  · rw [hexec, htaken _ hw, exec_request hrow, State.arrive, hservice]
    rfl

end Sys2Proof.Machine

/-! ## Proofs: requests are read back from their frames (R195, R196) -/

namespace Sys2Proof.Machine

/-! ### One field -/

/-- A payload field with its value. -/
inductive Val where
  | num (size n : Nat)
  | opt (size : Nat) (o : Option Nat)
  | list (l : List Nat)
  | optList (o : Option (List Nat))

namespace Val

def shape : Val → Shape
  | num k _ => .num k
  | opt k _ => .opt k
  | list _ => .list
  | optList _ => .optList

def bytes : Val → List Byte
  | num k n => numBytes k n
  | opt k o => optNumBytes k o
  | list l => listBytes l
  | optList o => optListBytes o

/-- The field as it stands once the payload is split. -/
def raw : Val → Raw
  | num k n => { present := 1, bytes := numBytes k n }
  | opt k (some n) => { present := 1, bytes := numBytes k n }
  | opt k none => { present := 0, bytes := zeros k }
  | list l => { present := 1, bytes := l.map byte }
  | optList (some l) => { present := 1, bytes := l.map byte }
  | optList none => { present := 0, bytes := [] }

/-- Its value fits the width it is sent in. -/
def fits : Val → Bool
  | num k n => decide (n < 256 ^ k)
  | opt k o => o.all (fun n => decide (n < 256 ^ k))
  | list l => listFits l
  | optList o => o.all listFits

end Val

theorem numBytes_length (k n : Nat) : (numBytes k n).length = k := by
  induction k generalizing n with
  | zero => rfl
  | succ k ih => simp [numBytes, ih]

theorem byte_toNat (n : Nat) : (byte n).toNat = n % 256 := by simp [byte]

/-- R195: a number that fits is read back from its bytes. -/
theorem numberOf_numBytes {k n : Nat} (h : n < 256 ^ k) : numberOf (numBytes k n) = n := by
  induction k generalizing n with
  | zero => simp only [pow_zero, Nat.lt_one_iff] at h; subst h; rfl
  | succ k ih =>
    have hdiv : n / 256 < 256 ^ k := by
      rw [Nat.div_lt_iff_lt_mul (by norm_num)]
      simpa [pow_succ] using h
    have happ : numberOf (numBytes (k + 1) n) = numberOf (numBytes k (n / 256)) * 256 + (byte n).toNat := by
      simp [numberOf, numBytes]
    rw [happ, ih hdiv, byte_toNat]
    omega

theorem takeBytes_append {n : Nat} {l rest : List Byte} (h : l.length = n) : takeBytes n (l ++ rest) = some (l, rest) := by
  unfold takeBytes
  rw [if_neg (by simp [← h])]
  simp [← h]

theorem takeList_append {l : List Nat} (h : l.length < 256) (rest : List Byte) :
    takeList (listBytes l ++ rest) = some (l.map byte, rest) := by
  show takeBytes (byte l.length).toNat (l.map byte ++ rest) = _
  exact takeBytes_append (by rw [byte_toNat, Nat.mod_eq_of_lt h, List.length_map])

/-- R179 step 3: a field is taken off the front of the payload that begins with its bytes. -/
theorem takeField_val {v : Val} (h : v.fits = true) (rest : List Byte) :
    takeField v.shape (v.bytes ++ rest) = some (v.raw, rest) := by
  have hnum : ∀ k n, takeBytes k (numBytes k n ++ rest) = some (numBytes k n, rest) := fun k n =>
    takeBytes_append (numBytes_length k n)
  cases v with
  | num k n => simp [Val.shape, Val.bytes, Val.raw, takeField, hnum]
  | opt k o =>
    cases o with
    | none =>
      show (takeBytes k (zeros k ++ rest)).map _ = _
      rw [takeBytes_append (by simp [zeros])]
      rfl
    | some n =>
      show (takeBytes k (numBytes k n ++ rest)).map _ = _
      rw [hnum]
      rfl
  | list l =>
    have hl : l.length < 256 := of_decide_eq_true (Bool.and_eq_true_iff.1 h).1
    show (takeList (listBytes l ++ rest)).map _ = _
    rw [takeList_append hl]
    rfl
  | optList o =>
    cases o with
    | none => rfl
    | some l =>
      have hl : l.length < 256 := of_decide_eq_true (Bool.and_eq_true_iff.1 h).1
      show (takeList (listBytes l ++ rest)).map _ = _
      rw [takeList_append hl]
      rfl

/-- The values all fit. -/
def valsFit (vs : List Val) : Bool := vs.all Val.fits

@[simp] theorem valsFit_nil : valsFit [] = true := rfl
@[simp] theorem valsFit_cons (v : Val) (vs : List Val) : valsFit (v :: vs) = (v.fits && valsFit vs) := rfl

/-- The bytes of a list of fields. -/
def valBytes (vs : List Val) : List Byte := vs.flatMap Val.bytes

@[simp] theorem valBytes_nil : valBytes [] = [] := rfl
@[simp] theorem valBytes_cons (v : Val) (vs : List Val) : valBytes (v :: vs) = v.bytes ++ valBytes vs := List.flatMap_cons

theorem splitFields_vals {vs : List Val} (h : valsFit vs = true) :
    splitFields (vs.map Val.shape) (valBytes vs) = some (vs.map Val.raw) := by
  induction vs with
  | nil => rfl
  | cons v vs ih =>
    obtain ⟨hv, hvs⟩ := Bool.and_eq_true_iff.1 h
    rw [List.map_cons, valBytes_cons, splitFields, takeField_val hv]
    dsimp only
    rw [ih hvs]
    rfl

/-- R195: a presence byte is 0 or 1. -/
theorem Val.raw_present (v : Val) : decide (1 < v.raw.present.toNat) = false := by
  cases v with
  | num => rfl
  | opt _ o => cases o <;> rfl
  | list => rfl
  | optList o => cases o <;> rfl

/-! ### What the fields of a split payload say -/

theorem numberOf_raw_num {k n : Nat} (h : (Val.num k n).fits = true) : numberOf (Val.num k n).raw.bytes = n :=
  numberOf_numBytes (of_decide_eq_true h)

/-- The optional number of a raw field. -/
def Raw.opt (r : Raw) : Option Nat := if r.present = 0 then none else some (numberOf r.bytes)

theorem Raw.opt_raw {k : Nat} {o : Option Nat} (h : (Val.opt k o).fits = true) : (Val.opt k o).raw.opt = o := by
  cases o with
  | none => rfl
  | some n => exact congrArg some (numberOf_numBytes (of_decide_eq_true h))

theorem map_toNat_byte {l : List Nat} (h : ∀ n ∈ l, n < 256) : (l.map byte).map BitVec.toNat = l := by
  rw [List.map_map]
  conv_rhs => rw [← List.map_id l]
  exact List.map_congr_left fun n hn => by simp [byte_toNat, Nat.mod_eq_of_lt (h n hn)]

theorem listFits_mem {l : List Nat} (h : listFits l = true) : ∀ n ∈ l, n < 256 := fun n hn =>
  of_decide_eq_true (List.all_eq_true.1 (Bool.and_eq_true_iff.1 h).2 n hn)

theorem list_raw {l : List Nat} (h : (Val.list l).fits = true) : (Val.list l).raw.bytes.map BitVec.toNat = l :=
  map_toNat_byte (listFits_mem h)

/-- The optional list of a raw field. -/
def Raw.optList (r : Raw) : Option (List Nat) := if r.present = 0 then none else some (r.bytes.map BitVec.toNat)

theorem Raw.optList_raw {o : Option (List Nat)} (h : (Val.optList o).fits = true) : (Val.optList o).raw.optList = o := by
  cases o with
  | none => rfl
  | some l => exact congrArg some (map_toNat_byte (listFits_mem h))

theorem byte_toNat_self (b : Byte) : byte b.toNat = b := by simp [byte]

theorem map_byte_toNat (o : Option Byte) : (o.map BitVec.toNat).map byte = o := by
  cases o with
  | none => rfl
  | some b => exact congrArg some (byte_toNat_self b)

theorem map_ofNat_toNat (o : Option ZoneSet) : (o.map BitVec.toNat).map (BitVec.ofNat 32) = o := by
  cases o with
  | none => rfl
  | some m => exact congrArg some (by simp)

/-! ### The fields of each request, in the order R196 sends them -/

def zoneVals (f : ZoneFields) : List Val :=
  [.opt 1 f.fullAt, .opt 1 f.hysteresis, .opt 1 f.coWeight, .opt 1 f.no2Weight, .opt 2 f.coStart, .opt 2 f.coFull,
   .opt 1 f.no2Start, .opt 1 f.no2Full, .opt 2 f.coWarn, .opt 2 f.coAlarm, .opt 2 f.coHyst, .opt 1 f.no2Warn,
   .opt 1 f.no2Alarm, .opt 1 f.no2Hyst, .opt 1 f.alarmConfirm, .opt 1 f.clearConfirm, .opt 1 f.blindLimit,
   .opt 1 f.blindDemand, .opt 1 f.arrivalCredit, .opt 1 f.departureCredit, .opt 1 f.decay, .opt 1 f.minDemand]

def fanVals (f : FanFields) : List Val :=
  [.opt 1 f.vmin, .opt 1 f.su, .opt 1 f.sd, .opt 2 f.minRun, .opt 1 f.fireIn, .opt 1 f.fireOut]

def lightVals (f : LightFields) : List Val :=
  [.opt 1 f.economy, .opt 1 f.active, .opt 2 f.hold, .opt 1 f.rampRate]

def partVals (f : PartFields) : List Val :=
  [.opt 1 f.airPeriod, .opt 1 f.fanPeriod, .opt 1 f.startInterval, .opt 1 f.arrivalConfirm, .opt 1 f.departureConfirm,
   .opt 1 f.proofTime, .opt 1 f.missLimit, .opt 1 f.limit0, .opt 1 f.limit1, .opt 1 f.limit2, .opt 1 f.limit3,
   .opt 1 f.revisit]

def signVals (f : SignFields) : List Val :=
  [.num 1 f.node, .num 1 f.kind, .num 4 f.countZones.toNat, .num 1 f.countKinds.toNat, .num 1 f.fullAt,
   .num 4 f.termA.toNat, .num 4 f.termB.toNat, .num 1 f.out0, .num 1 f.out1, .num 1 f.out2, .num 1 f.out3]

def changeVals (c : SignChange) : List Val :=
  [.opt 1 c.node, .opt 1 c.kind, .opt 4 (c.countZones.map BitVec.toNat), .opt 4 (c.termA.map BitVec.toNat),
   .opt 4 (c.termB.map BitVec.toNat), .opt 1 (c.countKinds.map BitVec.toNat), .opt 1 c.fullAt, .opt 1 c.out0, .opt 1 c.out1,
   .opt 1 c.out2, .opt 1 c.out3]

def requestVals : Request → List Val
  | .readBays start count direction step => [.num 2 start, .num 1 count, .num 1 direction, .num 1 step]
  | .findBays zone kinds states after maximum =>
    [.num 1 zone, .num 1 kinds.toNat, .num 1 states.toNat, .num 2 after, .num 1 maximum]
  | .changeBay bay mode marks => [.num 2 bay, .num 1 mode, .num 1 marks.toNat]
  | .reserveBay bay holder hold => [.num 2 bay, .num 2 holder, .num 1 hold]
  | .releaseBay bay holder => [.num 2 bay, .num 2 holder]
  | .defineBay bay zone node channel kind => [.num 2 bay, .num 1 zone, .num 1 node, .num 1 channel, .num 1 kind]
  | .redefineBay bay zone node channel kind => [.num 2 bay, .num 1 zone, .num 1 node, .num 1 channel, .num 1 kind]
  | .retireBay bay => [.num 2 bay]
  | .readZone zone => [.num 1 zone]
  | .closeZone zone => [.num 1 zone]
  | .openZone zone => [.num 1 zone]
  | .defineZone zone level fields => .num 1 zone :: .num 1 level :: zoneVals fields
  | .setZone zone level fields => .num 1 zone :: .opt 1 level :: zoneVals fields
  | .retireZone zone => [.num 1 zone]
  | .readFan group => [.num 1 group]
  | .pushOverride group level duration tag => [.num 1 group, .num 1 level, .opt 4 duration, .num 1 tag]
  | .popOverride group => [.num 1 group]
  | .fanControl groups action => [.num 4 groups.toNat, .num 1 action]
  | .defineFan group zones drives fields => .num 1 group :: .num 4 zones.toNat :: .list drives :: fanVals fields
  | .setFan group zones drives fields =>
    .num 1 group :: .opt 4 (zones.map BitVec.toNat) :: .optList drives :: fanVals fields
  | .retireFan group => [.num 1 group]
  | .readSign sign => [.num 1 sign]
  | .defineSign sign fields => .num 1 sign :: signVals fields
  | .setSign sign change => .num 1 sign :: changeVals change
  | .retireSign sign => [.num 1 sign]
  | .readLight group => [.num 1 group]
  | .lightOverride group level duration => [.num 1 group, .opt 1 level, .opt 4 duration]
  | .defineLight group zone node fields => .num 1 group :: .num 1 zone :: .num 1 node :: lightVals fields
  | .setLight group zone node fields => .num 1 group :: .opt 1 zone :: .opt 1 node :: lightVals fields
  | .retireLight group => [.num 1 group]
  | .readNode node => [.num 1 node]
  | .defineNode node span address kind zone => [.num 1 node, .num 1 span, .num 1 address, .num 1 kind, .opt 1 zone]
  | .retireNode node => [.num 1 node]
  | .suspendNode node => [.num 1 node]
  | .resumeNode node => [.num 1 node]
  | .readStatus => []
  | .setPermit cls mode zones => [.num 1 cls, .num 1 mode, .num 4 zones.toNat]
  | .setPart fields => partVals fields
  | .readAttention cls => [.opt 1 cls]
  | .clearAttention cls object => [.num 1 cls, .num 2 object]
  | .setAttentionEnable classes => [.num 1 classes.toNat]
  | .restart => []
  | .unknown _ => []
  | .badLength _ => []
  | .badPresence _ => []

/-! ### A request and its fields -/

/-- R196: the layout of a request's code is that of its fields. -/
theorem shapesOf_vals {r : Request} (h : requestFits r = true) :
    shapesOf (encodeRequest r).1 = some ((requestVals r).map Val.shape) := by
  cases r with
  | unknown => exact absurd h Bool.false_ne_true
  | badLength => exact absurd h Bool.false_ne_true
  | badPresence => exact absurd h Bool.false_ne_true
  | _ => rfl

theorem numBytes_mask (b : Byte) : numBytes 1 b.toNat = [b] := by simp [numBytes, byte]

theorem numBytes_set (m : ZoneSet) : numBytes 4 m.toNat = zoneSetBytes m := by
  simp [zoneSetBytes, bytes4, numBytes, Nat.div_div_eq_div_mul]

theorem optNumBytes_mask (o : Option Byte) : optNumBytes 1 (o.map BitVec.toNat) = optMaskBytes o := by
  cases o with
  | none => rfl
  | some b => exact congrArg (byte 1 :: ·) (numBytes_mask b)

theorem optNumBytes_set (o : Option ZoneSet) : optNumBytes 4 (o.map BitVec.toNat) = optSetBytes o := by
  cases o with
  | none => rfl
  | some m => exact congrArg (byte 1 :: ·) (numBytes_set m)

@[simp] theorem Val.bytes_num (k n : Nat) : (Val.num k n).bytes = numBytes k n := rfl
@[simp] theorem Val.bytes_opt (k : Nat) (o : Option Nat) : (Val.opt k o).bytes = optNumBytes k o := rfl
@[simp] theorem Val.bytes_list (l : List Nat) : (Val.list l).bytes = listBytes l := rfl
@[simp] theorem Val.bytes_optList (o : Option (List Nat)) : (Val.optList o).bytes = optListBytes o := rfl

theorem zoneFieldBytes_vals (f : ZoneFields) : zoneFieldBytes f = valBytes (zoneVals f) := by
  unfold zoneFieldBytes zoneVals
  simp only [valBytes_cons, valBytes_nil, Val.bytes_opt]
  simp only [List.append_assoc]
  rw [List.append_nil]

theorem fanFieldBytes_vals (f : FanFields) : fanFieldBytes f = valBytes (fanVals f) := by
  simp only [fanFieldBytes, fanVals, valBytes_cons, valBytes_nil, Val.bytes_opt, List.append_assoc, List.append_nil]

theorem lightFieldBytes_vals (f : LightFields) : lightFieldBytes f = valBytes (lightVals f) := by
  simp only [lightFieldBytes, lightVals, valBytes_cons, valBytes_nil, Val.bytes_opt, List.append_assoc, List.append_nil]

theorem partFieldBytes_vals (f : PartFields) : partFieldBytes f = valBytes (partVals f) := by
  simp only [partFieldBytes, partVals, valBytes_cons, valBytes_nil, Val.bytes_opt, List.append_assoc, List.append_nil]

theorem signFieldBytes_vals (f : SignFields) : signFieldBytes f = valBytes (signVals f) := by
  simp only [signFieldBytes, signVals, valBytes_cons, valBytes_nil, Val.bytes_num, numBytes_set, numBytes_mask,
    List.append_assoc, List.append_nil]

theorem signChangeBytes_vals (c : SignChange) : signChangeBytes c = valBytes (changeVals c) := by
  simp only [signChangeBytes, changeVals, valBytes_cons, valBytes_nil, Val.bytes_opt, optNumBytes_set, optNumBytes_mask,
    List.append_assoc, List.append_nil]

/-- R196: its payload is the bytes of its fields. -/
theorem encode_vals (r : Request) : (encodeRequest r).2 = valBytes (requestVals r) := by
  cases r <;> delta encodeRequest requestVals <;>
    simp only [valBytes_cons, valBytes_nil, Val.bytes_num, Val.bytes_opt, Val.bytes_list, Val.bytes_optList, numBytes_mask,
      numBytes_set, optNumBytes_set, zoneFieldBytes_vals, fanFieldBytes_vals, lightFieldBytes_vals, partFieldBytes_vals,
      signFieldBytes_vals, signChangeBytes_vals, List.append_assoc, List.append_nil, List.cons_append, List.nil_append]

theorem fits8_mask (b : Byte) : fits8 b.toNat = true := decide_eq_true (by simpa using b.isLt)

theorem fits_set (m : ZoneSet) : (Val.num 4 m.toNat).fits = true := decide_eq_true (by simpa using m.isLt)

theorem optFits8_mask (o : Option Byte) : optFits8 (o.map BitVec.toNat) = true := by
  cases o with
  | none => rfl
  | some b => exact fits8_mask b

theorem optFits32_set (o : Option ZoneSet) : optFits32 (o.map BitVec.toNat) = true := by
  cases o with
  | none => rfl
  | some m => exact fits_set m

theorem fits_num1 (n : Nat) : (Val.num 1 n).fits = fits8 n := rfl
theorem fits_num2 (n : Nat) : (Val.num 2 n).fits = fits16 n := rfl
theorem fits_opt1 (o : Option Nat) : (Val.opt 1 o).fits = optFits8 o := rfl
theorem fits_opt2 (o : Option Nat) : (Val.opt 2 o).fits = optFits16 o := rfl
theorem fits_opt4 (o : Option Nat) : (Val.opt 4 o).fits = optFits32 o := rfl
theorem fits_list (l : List Nat) : (Val.list l).fits = listFits l := rfl
theorem fits_optList (o : Option (List Nat)) : (Val.optList o).fits = o.all listFits := rfl

/-- A request fits where each of its fields does. -/
theorem vals_fit {r : Request} (h : requestFits r = true) : valsFit (requestVals r) = true := by
  cases r <;> delta requestFits at h <;> delta requestVals <;>
    simp only [ZoneFields.wf, FanFields.wf, LightFields.wf, PartFields.wf, SignFields.wf, SignChange.wf, Bool.and_eq_true] at h <;>
    simp [zoneVals, fanVals, lightVals, partVals, signVals, changeVals, fits8_mask, fits_set, optFits8_mask,
      optFits32_set, fits_num1, fits_num2, fits_opt1, fits_opt2, fits_opt4, fits_list, fits_optList, h]

/-! ### The request of split fields -/

@[simp] theorem rawAt_zero (f : Raw) (r : List Raw) : rawAt (f :: r) 0 = f := rfl
@[simp] theorem rawAt_succ (f : Raw) (r : List Raw) (n : Nat) : rawAt (f :: r) (n + 1) = rawAt r n := rfl

theorem numAt_eq (r : List Raw) (i : Nat) : numAt r i = numberOf (rawAt r i).bytes := rfl
theorem optAt_eq (r : List Raw) (i : Nat) : optAt r i = (rawAt r i).opt := rfl
theorem listAt_eq (r : List Raw) (i : Nat) : listAt r i = (rawAt r i).bytes.map BitVec.toNat := rfl
theorem optListAt_eq (r : List Raw) (i : Nat) : optListAt r i = (rawAt r i).optList := rfl

theorem zoneFieldsAt_vals {f : ZoneFields} (h : valsFit (zoneVals f) = true) (a b : Raw) :
    zoneFieldsAt (a :: b :: (zoneVals f).map Val.raw) = f := by
  simp only [zoneVals, valsFit_cons, Bool.and_eq_true] at h
  simp only [zoneFieldsAt, zoneVals, optAt_eq, List.map_cons, rawAt_zero, rawAt_succ, Raw.opt_raw, h]

theorem fanFieldsAt_vals {f : FanFields} (h : valsFit (fanVals f) = true) (a b c : Raw) :
    fanFieldsAt (a :: b :: c :: (fanVals f).map Val.raw) = f := by
  simp only [fanVals, valsFit_cons, Bool.and_eq_true] at h
  simp only [fanFieldsAt, fanVals, optAt_eq, List.map_cons, rawAt_zero, rawAt_succ, Raw.opt_raw, h]

theorem lightFieldsAt_vals {f : LightFields} (h : valsFit (lightVals f) = true) (a b c : Raw) :
    lightFieldsAt (a :: b :: c :: (lightVals f).map Val.raw) = f := by
  simp only [lightVals, valsFit_cons, Bool.and_eq_true] at h
  simp only [lightFieldsAt, lightVals, optAt_eq, List.map_cons, rawAt_zero, rawAt_succ, Raw.opt_raw, h]

theorem partFieldsAt_vals {f : PartFields} (h : valsFit (partVals f) = true) :
    partFieldsAt ((partVals f).map Val.raw) = f := by
  simp only [partVals, valsFit_cons, Bool.and_eq_true] at h
  simp only [partFieldsAt, partVals, optAt_eq, List.map_cons, rawAt_zero, rawAt_succ, Raw.opt_raw, h]

theorem signFieldsAt_vals {f : SignFields} (h : valsFit (signVals f) = true) (a : Raw) :
    signFieldsAt (a :: (signVals f).map Val.raw) = f := by
  simp only [signVals, valsFit_cons, Bool.and_eq_true] at h
  simp only [signFieldsAt, signVals, numAt_eq, setAt, maskAt, List.map_cons, rawAt_zero, rawAt_succ, byte_toNat_self,
    BitVec.ofNat_toNat, BitVec.setWidth_eq, numberOf_raw_num, h]

theorem signChangeAt_vals {c : SignChange} (h : valsFit (changeVals c) = true) (a : Raw) :
    signChangeAt (a :: (changeVals c).map Val.raw) = c := by
  simp only [changeVals, valsFit_cons, Bool.and_eq_true] at h
  simp only [signChangeAt, changeVals, optAt_eq, optSetAt, optMaskAt, List.map_cons, rawAt_zero, rawAt_succ, map_byte_toNat,
    map_ofNat_toNat, Raw.opt_raw, h]

/-- R196: a request is the one its fields spell. -/
theorem requestOf_vals {r : Request} (hr : requestFits r = true) :
    requestOf (encodeRequest r).1 ((requestVals r).map Val.raw) = r := by
  have h := vals_fit hr
  cases r with
  | unknown => exact absurd hr Bool.false_ne_true
  | badLength => exact absurd hr Bool.false_ne_true
  | badPresence => exact absurd hr Bool.false_ne_true
  | readStatus => rfl
  | restart => rfl
  | _ =>
    delta requestVals at h
    simp only [valsFit_cons, Bool.and_eq_true] at h
    conv_lhs => whnf
    delta requestVals
    simp only [numAt_eq, optAt_eq, listAt_eq, optListAt_eq, setAt, maskAt, optSetAt,
      List.map_cons, rawAt_zero, rawAt_succ, byte_toNat_self, BitVec.ofNat_toNat, BitVec.setWidth_eq, map_ofNat_toNat,
      numberOf_raw_num, Raw.opt_raw, Raw.optList_raw, list_raw, zoneFieldsAt_vals, fanFieldsAt_vals, lightFieldsAt_vals,
      partFieldsAt_vals, signFieldsAt_vals, signChangeAt_vals, h]

theorem vals_present (vs : List Val) :
    (vs.map Val.raw).any (fun f => decide (1 < f.present.toNat)) = false := by
  rw [List.any_map, List.any_eq_false]
  intro v _
  simpa using v.raw_present

/-- R179 steps 2 and 3: a request is read back from its code and payload. -/
theorem parse_encode {r : Request} (hr : requestFits r = true) : parseRequest (encodeRequest r).1 (encodeRequest r).2 = r := by
  rw [encode_vals, parseRequest, shapesOf_vals hr]
  dsimp only
  rw [splitFields_vals (vals_fit hr)]
  dsimp only
  rw [vals_present, if_neg Bool.false_ne_true, requestOf_vals hr]

/-! ### The frame (R174, R175) -/

theorem byteSum_check (l : List Byte) : byteSum (l ++ [checkByte l]) = 0 := by
  rw [byteSum, List.foldl_append]
  show byteSum l + (0 - byteSum l) = 0
  bv_omega

theorem requestFrame_cons (cls tag : Byte) (r : Request) :
    ∃ check, requestFrame cls tag r = byte ((encodeRequest r).2.length + 4) :: cls :: byte (encodeRequest r).1 :: tag ::
      ((encodeRequest r).2 ++ [check]) := ⟨_, rfl⟩

theorem byteSum_requestFrame (cls tag : Byte) (r : Request) : byteSum (requestFrame cls tag r) = 0 := byteSum_check _

theorem requestFrame_length (cls tag : Byte) (r : Request) :
    (requestFrame cls tag r).length = (encodeRequest r).2.length + 5 := by
  obtain ⟨check, h⟩ := requestFrame_cons cls tag r
  simp [h]

/-- The length byte of a request that a frame can hold. -/
theorem byte_length {n : Nat} (h : n ≤ 240) : (byte (n + 4)).toNat = n + 4 := by
  rw [byte_toNat]
  omega

/-- R175: a frame is complete and good at its last byte. -/
theorem judge_requestFrame (cls tag : Byte) {r : Request} (h : (encodeRequest r).2.length ≤ 240) :
    judgeFrame (requestFrame cls tag r) = .good cls (byte (encodeRequest r).1) tag (encodeRequest r).2 := by
  have hsum := byteSum_requestFrame cls tag r
  have hlen := requestFrame_length cls tag r
  obtain ⟨check, hframe⟩ := requestFrame_cons cls tag r
  have h0 : (byteAt (requestFrame cls tag r) 0).toNat = (encodeRequest r).2.length + 4 := by
    rw [hframe]
    exact byte_length h
  unfold judgeFrame
  dsimp only
  rw [h0, if_neg (by omega), if_neg (by omega), if_neg (by omega), if_pos hsum, hframe]
  simp [byteAt]

/-- R174: and not before. -/
theorem judge_requestFrame_take (cls tag : Byte) {r : Request} (h : (encodeRequest r).2.length ≤ 240) {n : Nat} (h1 : 1 ≤ n)
    (hn : n < (requestFrame cls tag r).length) :
    judgeFrame ((requestFrame cls tag r).take n) = .more (.receiving ((requestFrame cls tag r).take n)) := by
  have htake : ((requestFrame cls tag r).take n).length = n := by
    rw [List.length_take]
    omega
  rw [requestFrame_length] at hn
  obtain ⟨m, rfl⟩ : ∃ m, n = m + 1 := ⟨n - 1, by omega⟩
  obtain ⟨check, hframe⟩ := requestFrame_cons cls tag r
  have h0 : (byteAt ((requestFrame cls tag r).take (m + 1)) 0).toNat = (encodeRequest r).2.length + 4 := by
    rw [hframe]
    exact byte_length h
  unfold judgeFrame
  dsimp only
  rw [h0, if_neg (by omega), if_neg (by omega), if_pos (by omega)]

/-- Settles O47: the payload splits into the fields the request was spelled with. -/
theorem requestsRoundTrip : Obligations.RequestsRoundTrip := by
  intro cls tag r hr
  refine ⟨⟨parse_encode hr, code_of_shapes (shapesOf_vals hr)⟩, fun h => ⟨judge_requestFrame cls tag h, ?_⟩⟩
  exact fun n h1 hn => judge_requestFrame_take cls tag h h1 hn

end Sys2Proof.Machine

/-! ## Proofs: what FACILITY and OPERATOR cannot do (R180, R22, R45, R101, R133, R152, R171) -/

namespace Sys2Proof.Machine

/-! ### The definitions of the signs -/

/-- The signs' numbers and definitions. -/
def State.signDefs (s : State) : List (Nat × SignDef) := s.signs.map (fun e => (e.1, e.2.config))

theorem State.signDefs_congr {s t : State} (h : t.signs = s.signs) : t.signDefs = s.signDefs := by
  unfold State.signDefs
  rw [h]

theorem State.markSigns_signDefs (s : State) (zone : Nat) : (s.markSigns zone).signDefs = s.signDefs := by
  have key : ∀ (f : Nat → Sign → Sign) (t : Table Sign), (∀ n g, (f n g).config = g.config) →
      (Table.update f t).map (fun e => (e.1, e.2.config)) = t.map (fun e => (e.1, e.2.config)) := fun f t hf => by
    induction t with
    | nil => rfl
    | cons e t ih => simp [Table.update, hf, ih]
  refine key _ _ fun n g => ?_
  split
  · exact s.recomputed_config g
  · rfl

theorem State.adjustZone_signDefs (s : State) (zone : Nat) (f : Zone → Zone) :
    (s.adjustZone zone f).signDefs = s.signDefs := by
  unfold State.adjustZone
  split
  · rfl
  · dsimp only
    split_ifs
    · rfl
    · exact State.markSigns_signDefs _ _
    · rfl
    · exact State.markSigns_signDefs _ _

theorem State.recount_signDefs (s : State) (old new : Option Bay) : (s.recount old new).signDefs = s.signDefs := by
  cases old with
  | none =>
    cases new with
    | none => rfl
    | some b => exact s.adjustZone_signDefs _ _
  | some b =>
    cases new with
    | none => exact s.adjustZone_signDefs _ _
    | some b' =>
      unfold State.recount
      dsimp only
      split
      · exact s.adjustZone_signDefs _ _
      · exact (State.adjustZone_signDefs _ _ _).trans (s.adjustZone_signDefs _ _)

theorem State.putBay_signDefs (s : State) (bay : Nat) (b : Bay) : (s.putBay bay b).signDefs = s.signDefs := by
  unfold State.putBay
  split
  · rfl
  · split
    · rfl
    · dsimp only
      have h := fun old b' => State.recount_signDefs (s.withBays (Table.set s.bays bay b')) old (some b')
      split
      · exact h _ _
      · exact h _ _

theorem State.changeCauses_signDefs (s : State) (zone : Nat) (f : Causes → Causes) :
    (s.changeCauses zone f).signDefs = s.signDefs := by
  unfold State.changeCauses
  split
  · rfl
  · split
    · rfl
    · exact State.markSigns_signDefs _ _

theorem State.judgeStatus_signDefs (s : State) (zone : Nat) : (s.judgeStatus zone).signDefs = s.signDefs := by
  unfold State.judgeStatus
  split
  · rfl
  · dsimp only
    split
    · rfl
    · unfold State.judgeAirCause
      split
      · rfl
      · exact State.changeCauses_signDefs _ _ _

theorem State.forEach_signDefs {f : Nat → State → State} (hf : ∀ n s, (f n s).signDefs = s.signDefs) (ns : List Nat)
    (s : State) : (State.forEach f ns s).signDefs = s.signDefs := by
  induction ns generalizing s with
  | nil => rfl
  | cons n ns ih => exact (ih _).trans (hf n s)

theorem State.availabilityNotice_signDefs (s : State) (m : ZoneSet) : (s.availabilityNotice m).signDefs = s.signDefs :=
  State.forEach_signDefs (fun n s => s.judgeStatus_signDefs n) _ _

theorem State.judgeDrives_signDefs (s : State) (group : Nat) : (s.judgeDrives group).signDefs = s.signDefs := by
  cases h : Table.get s.fans group with
  | none => simp [State.judgeDrives, h]
  | some g =>
    rw [State.judgeDrives_eq h]
    split
    · unfold State.enterFault
      split
      · rfl
      · exact State.availabilityNotice_signDefs _ _
    · split <;> rfl

theorem State.control_signDefs (s : State) (a : FanAction) (group : Nat) : (s.control a group).signDefs = s.signDefs := by
  have returned : ∀ g, (s.returnToService group g).signDefs = s.signDefs := fun g => by
    unfold State.returnToService
    dsimp only
    split
    · exact (State.availabilityNotice_signDefs _ _).trans (State.judgeDrives_signDefs _ _)
    · exact State.judgeDrives_signDefs _ _
  unfold State.control
  split
  · rfl
  · next g hg =>
    split
    · rfl
    · split
      · unfold State.isolate
        dsimp only
        split
        · exact State.availabilityNotice_signDefs _ _
        · rfl
      · exact returned _
      · exact returned _

/-! ### What a class may move -/

/-- Records of a table changed in place, each to one that R allows. -/
def Table.keptBy {α : Type} (R : Nat → α → α → Prop) (t t' : Table α) : Prop :=
  (∀ k, Table.get t k = none → Table.get t' k = none) ∧ ∀ k a, Table.get t k = some a → ∃ a', Table.get t' k = some a' ∧ R k a a'

theorem Table.keptBy.of_eq {α : Type} {R : Nat → α → α → Prop} {t t' : Table α} (h : t' = t) (hR : ∀ k a, R k a a) :
    Table.keptBy R t t' := by
  subst h
  exact ⟨fun _ hk => hk, fun k a hk => ⟨a, hk, hR k a⟩⟩

theorem Table.Moves.keptBy {α : Type} {R R' : Nat → α → α → Prop} {t t' : Table α} (h : Table.Moves R' t t')
    (hR : ∀ k a b, R' k a b → R k a b) : Table.keptBy R t t' :=
  ⟨h.undefined, fun k a hk => (h.defined k a hk).imp fun _ ha => ha.imp id (hR k _ _)⟩

/-- The permit map of FACILITY, or of OPERATOR. -/
def State.mapOf (s : State) (c : Cls) : ZoneSet := if c = .facility then s.facilityMap else s.operatorMap

def Bay.keptFor (map : ZoneSet) (b b' : Bay) : Prop :=
  b'.zone = b.zone ∧ b'.node = b.node ∧ b'.channel = b.channel ∧ b'.kind = b.kind ∧ b'.marks.noCount = b.marks.noCount ∧
  b'.marks.lampTest = b.marks.lampTest ∧ (b.zone ≤ 31 → map.getLsbD b.zone = false → b' = b)

def Zone.keptFor (map : ZoneSet) (c : Cls) (k : Nat) (z z' : Zone) : Prop :=
  z'.level = z.level ∧ z'.settings = z.settings ∧
  (map.getLsbD k = false ∨ c = .facility → z'.causes.operator = z.causes.operator)

def Fan.keptFor (map : ZoneSet) (g g' : Fan) : Prop :=
  g'.served = g.served ∧ g'.settings = g.settings ∧ g'.drives = g.drives ∧
  ((∃ z, g.served.getLsbD z = true ∧ map.getLsbD z = false) → g'.stack = g.stack ∧ g'.state = g.state)

def Light.keptFor (map : ZoneSet) (l l' : Light) : Prop :=
  l'.zone = l.zone ∧ l'.node = l.node ∧ l'.settings = l.settings ∧ (l.zone ≤ 31 → map.getLsbD l.zone = false → l' = l)

/-- A change that keeps to a class's zones. -/
structure State.within (c : Cls) (s t : State) : Prop where
  nodes : t.nodes = s.nodes
  settings : t.settings = s.settings
  facilityMap : t.facilityMap = s.facilityMap
  operatorMap : t.operatorMap = s.operatorMap
  signs : t.signDefs = s.signDefs
  bays : Table.keptBy (fun _ => Bay.keptFor (s.mapOf c)) s.bays t.bays
  zones : Table.keptBy (Zone.keptFor (s.mapOf c) c) s.zones t.zones
  fans : Table.keptBy (fun _ => Fan.keptFor (s.mapOf c)) s.fans t.fans
  lights : Table.keptBy (fun _ => Light.keptFor (s.mapOf c)) s.lights t.lights

theorem Bay.keptFor.refl (map : ZoneSet) (b : Bay) : b.keptFor map b := ⟨rfl, rfl, rfl, rfl, rfl, rfl, fun _ _ => rfl⟩
theorem Zone.keptFor.refl (map : ZoneSet) (c : Cls) (k : Nat) (z : Zone) : z.keptFor map c k z := ⟨rfl, rfl, fun _ => rfl⟩
theorem Fan.keptFor.refl (map : ZoneSet) (g : Fan) : g.keptFor map g := ⟨rfl, rfl, rfl, fun _ => ⟨rfl, rfl⟩⟩
theorem Light.keptFor.refl (map : ZoneSet) (l : Light) : l.keptFor map l := ⟨rfl, rfl, rfl, fun _ _ => rfl⟩

theorem Zone.Recounted.keptFor (map : ZoneSet) (c : Cls) (k : Nat) {z z' : Zone} (h : z.Recounted z') :
    z.keptFor map c k z' := by
  unfold Zone.Recounted at h
  rw [h]
  exact ⟨rfl, rfl, fun _ => rfl⟩

/-- A change of one table's records and of what follows it. -/
theorem State.within.of_bays {c : Cls} {s t : State} (hk : s.keepsBut t bayParts) (hs : t.signDefs = s.signDefs)
    (hb : Table.keptBy (fun _ => Bay.keptFor (s.mapOf c)) s.bays t.bays)
    (hz : Table.keptBy (Zone.keptFor (s.mapOf c) c) s.zones t.zones) : s.within c t where
  nodes := hk .nodes (by decide)
  settings := hk .settings (by decide)
  facilityMap := hk .facilityMap (by decide)
  operatorMap := hk .operatorMap (by decide)
  signs := hs
  bays := hb
  zones := hz
  fans := .of_eq (hk .fans (by decide)) fun _ => .refl _
  lights := .of_eq (hk .lights (by decide)) fun _ => .refl _

theorem State.within.of_fans {c : Cls} {s t : State} (hk : s.keepsBut t fanParts) (hs : t.signDefs = s.signDefs)
    (hz : Table.keptBy (Zone.keptFor (s.mapOf c) c) s.zones t.zones)
    (hg : Table.keptBy (fun _ => Fan.keptFor (s.mapOf c)) s.fans t.fans) : s.within c t where
  nodes := hk .nodes (by decide)
  settings := hk .settings (by decide)
  facilityMap := hk .facilityMap (by decide)
  operatorMap := hk .operatorMap (by decide)
  signs := hs
  bays := .of_eq (hk .bays (by decide)) fun _ => .refl _
  zones := hz
  fans := hg
  lights := .of_eq (hk .lights (by decide)) fun _ => .refl _

/-- A change of none of the tables. -/
theorem State.within.of_keeps {c : Cls} {s t : State}
    (hk : s.keepsBut t [.freeCount, .enables .main, .enables .panel, .items .main, .items .panel]) : s.within c t where
  nodes := hk .nodes (by decide)
  settings := hk .settings (by decide)
  facilityMap := hk .facilityMap (by decide)
  operatorMap := hk .operatorMap (by decide)
  signs := State.signDefs_congr (hk .signs (by decide))
  bays := .of_eq (hk .bays (by decide)) fun _ => .refl _
  zones := .of_eq (hk .zones (by decide)) fun _ => .refl _ _ _
  fans := .of_eq (hk .fans (by decide)) fun _ => .refl _
  lights := .of_eq (hk .lights (by decide)) fun _ => .refl _

theorem State.within.refl (c : Cls) (s : State) : s.within c s := .of_keeps (.refl s _)

/-! ### Checks -/

theorem zoneSet_subset_iff {m n : ZoneSet} : m &&& ~~~n = 0 ↔ ∀ k, m.getLsbD k = true → n.getLsbD k = true := by
  rw [BitVec.eq_of_getLsbD_eq_iff]
  simp only [BitVec.getLsbD_and, BitVec.getLsbD_not, BitVec.ofNat_eq_ofNat, BitVec.getLsbD_zero]
  refine ⟨fun h k hk => ?_, fun h k hk => ?_⟩
  · have hlt := BitVec.lt_of_getLsbD hk
    simpa [hk, hlt] using h k hlt
  · cases hm : m.getLsbD k
    · rfl
    · simp [h k hm, hk]

/-- R180: what FACILITY or OPERATOR may touch lies in its map. -/
theorem State.permits_iff {s : State} {c : Cls} (hc : c = .facility ∨ c = .operator) {m : ZoneSet} :
    s.permits c m = true ↔ ∀ k, m.getLsbD k = true → (s.mapOf c).getLsbD k = true := by
  rcases hc with rfl | rfl
  · exact decide_eq_true_iff.trans zoneSet_subset_iff
  · exact decide_eq_true_iff.trans zoneSet_subset_iff

theorem State.permits_zone {s : State} {c : Cls} (hc : c = .facility ∨ c = .operator) {zone : Nat} (hz : zone ≤ 31)
    (h : s.permits c (zoneSingle zone) = true) : (s.mapOf c).getLsbD zone = true :=
  (State.permits_iff hc).1 h zone (by rw [zoneSingle_getLsbD (Nat.lt_succ_of_le hz)]; simp)

theorem not_serviceOnly {c : Cls} (hc : c = .facility ∨ c = .operator) : serviceOnly c = false := by
  rcases hc with rfl | rfl <;> rfl

/-- A served request keeps to the class's zones. -/
def Served.within (c : Cls) (s : State) (v : Served) : Prop := s.within c v.state

namespace Served.within

theorem refuse (c : Cls) (r : Result) (s : State) : Served.within c s (refuse r s) := .refl c s

theorem need {c : Cls} {s : State} {b : Bool} {r : Result} {v : Served} (h : b = true → Served.within c s v) :
    Served.within c s (Sys2Proof.Machine.need b r s v) := by
  cases b
  · exact .refuse c r s
  · exact h rfl

/-- R179 step 5: a request that is SERVICE's alone. -/
theorem service {c : Cls} (hc : c = .facility ∨ c = .operator) {s : State} {v : Served} (b : Bool) (r r' : Result) :
    Served.within c s (Sys2Proof.Machine.need b r s (Sys2Proof.Machine.need (serviceOnly c) r' s v)) :=
  .need fun _ => .need fun h => absurd h (by simp [not_serviceOnly hc])

end Served.within

/-! ### The requests -/

/-- R180: a bay that a class may touch, changed in place. -/
theorem State.putBay_within {c : Cls} (hc : c = .facility ∨ c = .operator) {s : State} {bay : Nat} {b b' : Bay}
    (h : Table.get s.bays bay = some b) (hp : s.permits c (s.bayZone bay) = true)
    (hb : b'.zone = b.zone ∧ b'.node = b.node ∧ b'.channel = b.channel ∧ b'.kind = b.kind ∧
      b'.marks.noCount = b.marks.noCount ∧ b'.marks.lampTest = b.marks.lampTest) : s.within c (s.putBay bay b') := by
  obtain ⟨hself, hother, -⟩ := State.putBay_spec h b'
  have hbay : b.keptFor (s.mapOf c) (Bay.stamped s.seconds b b') := by
    rw [State.bayZone_of_get h] at hp
    obtain ⟨hz, hn, hch, hkind, hcount, hlamp⟩ := hb
    have hden : ∀ {x : Bay}, b.zone ≤ 31 → (s.mapOf c).getLsbD b.zone = false → x = b := fun hle hf =>
      absurd (State.permits_zone hc hle hp) (by simp [hf])
    unfold Bay.stamped
    split <;> exact ⟨hz, hn, hch, hkind, hcount, hlamp, fun hle hf => hden hle hf⟩
  refine .of_bays (s.putBay_keeps bay b') (s.putBay_signDefs bay b') ⟨fun k hk => ?_, fun k a hk => ?_⟩
    ((s.putBay_moves bay b').keptBy fun k _ _ hr => hr.keptFor _ c k)
  · rw [hother k fun e => by simp [e, h] at hk]
    exact hk
  · by_cases e : k = bay
    · subst e
      obtain rfl := Option.some.inj (h.symm.trans hk)
      exact ⟨_, hself, hbay⟩
    · exact ⟨a, (hother k e).trans hk, .refl _ a⟩

theorem serveChangeBay_within {c : Cls} (hc : c = .facility ∨ c = .operator) (s : State) (bay mode : Nat) (marks : Byte) :
    Served.within c s (serveChangeBay c bay mode marks s) := by
  unfold serveChangeBay
  split
  · refine .need fun _ => .need fun hp => ?_
    split
    · exact .refuse c _ s
    · next b hget =>
      refine State.putBay_within hc hget hp ?_
      simp [not_serviceOnly hc, Marks.masked]
  · exact .refuse c _ s

theorem serveReserveBay_within {c : Cls} (hc : c = .facility ∨ c = .operator) (s : State) (bay holder hold : Nat) :
    Served.within c s (serveReserveBay c bay holder hold s) := by
  unfold serveReserveBay
  refine .need fun _ => .need fun hp => ?_
  split
  · exact .refuse c _ s
  · next b hget => exact .need fun _ => State.putBay_within hc hget hp ⟨rfl, rfl, rfl, rfl, rfl, rfl⟩

theorem serveReleaseBay_within {c : Cls} (hc : c = .facility ∨ c = .operator) (s : State) (bay holder : Nat) :
    Served.within c s (serveReleaseBay c bay holder s) := by
  unfold serveReleaseBay
  refine .need fun _ => .need fun hp => ?_
  split
  · exact .refuse c _ s
  · next b hget =>
    split
    · exact .refuse c _ s
    · exact .need fun _ => State.putBay_within hc hget hp ⟨rfl, rfl, rfl, rfl, rfl, rfl⟩

theorem serveOperatorCause_within {c : Cls} (hc : c = .facility ∨ c = .operator) (s : State) (present : Bool) (zone : Nat) :
    Served.within c s (serveOperatorCause present c zone s) := by
  unfold serveOperatorCause
  refine .need fun hz => .need fun hup => .need fun hp => .need fun _ => ?_
  have hle : zone ≤ 31 := of_decide_eq_true (Bool.and_eq_true_iff.1 hz).2
  have hbit := State.permits_zone hc hle hp
  have hk := s.changeCauses_keeps zone fun k => { k with operator := present }
  refine .of_bays (hk.mono (by decide)) (s.changeCauses_signDefs _ _) (.of_eq (hk .bays (by decide)) fun _ => .refl _)
    ((s.changeCauses_moves zone _).keptBy fun k z z' hr => ?_)
  rcases hr with rfl | ⟨rfl, rfl⟩
  · exact .refl _ c k _
  · refine ⟨rfl, rfl, fun h => ?_⟩
    rcases h with h | rfl
    · simp [h] at hbit
    · exact absurd hup Bool.false_ne_true

/-- R180: a group's stack that a class may touch. -/
theorem State.restack_within {c : Cls} (hc : c = .facility ∨ c = .operator) {s : State} {group : Nat} {g : Fan}
    (h : Table.get s.fans group = some g) (hp : s.permits c (s.fanZones group) = true) (k : List Entry → List Entry) :
    s.within c ((s.changeFan group (fun g => { g with stack := k g.stack })).retarget group) := by
  have hfans : ((s.changeFan group (fun g => { g with stack := k g.stack })).retarget group).fans =
      Table.modify s.fans group (fun g => s.retargeted { g with stack := k g.stack }) := by
    rw [State.retarget_fans, State.changeFan_fans, Table.modify_modify]
    rfl
  have hkeep : s.keepsBut ((s.changeFan group (fun g => { g with stack := k g.stack })).retarget group) [.fans] :=
    (s.changeFan_keeps group _).trans (State.retarget_keeps _ group)
  refine .of_fans (hkeep.mono (by decide)) (State.signDefs_congr (hkeep .signs (by decide)))
    (.of_eq (hkeep .zones (by decide)) fun _ => .refl _ c _) ⟨fun n hn => ?_, fun n a hn => ?_⟩
  · rw [hfans, Table.get_modify_eq, hn]
    simp
  · rw [hfans, Table.get_modify_eq, hn]
    by_cases e : n = group
    · subst e
      obtain rfl := Option.some.inj (h.symm.trans hn)
      refine ⟨s.retargeted { g with stack := k g.stack }, by rw [Option.map_some, if_pos rfl], rfl, rfl, rfl, fun ⟨z, hz, hf⟩ => ?_⟩
      rw [State.fanZones_of_get h] at hp
      exact absurd ((State.permits_iff hc).1 hp z hz) (by simp [hf])
    · exact ⟨a, by simp [e], .refl _ a⟩

theorem servePushOverride_within {c : Cls} (hc : c = .facility ∨ c = .operator) (s : State) (group level : Nat)
    (duration : Option Nat) (tag : Nat) : Served.within c s (servePushOverride c group level duration tag s) := by
  unfold servePushOverride
  refine .need fun _ => .need fun hp => ?_
  split
  · exact .refuse c _ s
  · next g hget => exact .need fun _ => .need fun _ => State.restack_within hc hget hp (· ++ [_])

theorem servePopOverride_within {c : Cls} (hc : c = .facility ∨ c = .operator) (s : State) (group : Nat) :
    Served.within c s (servePopOverride c group s) := by
  unfold servePopOverride
  refine .need fun _ => .need fun hp => ?_
  split
  · exact .refuse c _ s
  · next g hget => exact .need fun _ => .need fun _ => State.restack_within hc hget hp List.dropLast

theorem State.controlled_kept (s : State) (a : FanAction) (g : Fan) :
    (s.controlled a g).served = g.served ∧ (s.controlled a g).settings = g.settings ∧ (s.controlled a g).drives = g.drives := by
  have judged : ∀ g : Fan, (s.drivesJudged g).served = g.served ∧ (s.drivesJudged g).settings = g.settings ∧
      (s.drivesJudged g).drives = g.drives := fun g => by
    unfold State.drivesJudged
    split
    · exact ⟨rfl, rfl, rfl⟩
    · split
      · split <;> exact ⟨rfl, rfl, rfl⟩
      · exact ⟨rfl, rfl, rfl⟩
  unfold State.controlled
  split
  · cases a with
    | isolate => exact ⟨rfl, rfl, rfl⟩
    | restore => exact judged _
    | clearFault => exact judged _
  · exact ⟨rfl, rfl, rfl⟩

theorem serveFanControl_within {c : Cls} (hc : c = .facility ∨ c = .operator) (s : State) (groups : BitVec 32) (action : Nat) :
    Served.within c s (serveFanControl c groups action s) := by
  unfold serveFanControl
  split
  · exact .refuse c _ s
  · next a ha =>
    refine .need fun _ => .need fun _ => .need fun hp => .need fun _ => .need fun _ => ?_
    obtain ⟨hz0, hz, -, -⟩ := State.airOnly.forEach (fun n s => s.control_airOnly a n) (s.fansIn groups) s
    refine .of_fans ?_ (State.forEach_signDefs (fun n s => s.control_signDefs a n) _ _) ⟨hz0, fun k z hk => ?_⟩
      ⟨fun n hn => ?_, fun n g hn => ?_⟩
    · exact .forEach (fun n u => u.control_keeps a n) _ s
    · obtain ⟨z', hk', e⟩ := hz k z hk
      exact ⟨z', hk', by rw [e]; exact ⟨rfl, rfl, fun _ => rfl⟩⟩
    · dsimp only [serveOk]
      rw [State.controls_reads s a (s.fansIn_nodup groups), hn]
      rfl
    · dsimp only [serveOk]
      rw [State.controls_reads s a (s.fansIn_nodup groups), hn]
      by_cases hin : n ∈ s.fansIn groups
      · obtain ⟨hserved, hset, hdr⟩ := s.controlled_kept a g
        refine ⟨_, by rw [Option.map_some, if_pos hin], hserved, hset, hdr, fun ⟨z, hz, hf⟩ => ?_⟩
        have hbit : (s.fansZones groups).getLsbD z = true :=
          State.fansZones_getLsbD.2 ⟨n, hin, by rw [State.fanZones_of_get hn]; exact hz⟩
        exact absurd ((State.permits_iff hc).1 hp z hbit) (by simp [hf])
      · exact ⟨g, by rw [Option.map_some, if_neg hin], .refl _ g⟩

theorem State.overrideLight_kept (s : State) (level duration : Option Nat) (l : Light) :
    (s.overrideLight level duration l).zone = l.zone ∧ (s.overrideLight level duration l).node = l.node ∧
    (s.overrideLight level duration l).settings = l.settings := by
  cases level with
  | some v => exact ⟨rfl, rfl, rfl⟩
  | none =>
    show (l.dropOverride s.seconds).zone = _ ∧ (l.dropOverride s.seconds).node = _ ∧ (l.dropOverride s.seconds).settings = _
    cases ho : l.ovr with
    | none => simp [Light.dropOverride_none ho]
    | some o =>
      rw [Light.dropOverride_some ho]
      split_ifs <;> exact ⟨rfl, rfl, rfl⟩

theorem serveLightOverride_within {c : Cls} (hc : c = .facility ∨ c = .operator) (s : State) (group : Nat)
    (level duration : Option Nat) : Served.within c s (serveLightOverride c group level duration s) := by
  unfold serveLightOverride
  refine .need fun _ => .need fun hp => .need fun _ => ?_
  have hkeep := s.withLights_keeps (Table.modify s.lights group (s.overrideLight level duration))
  refine ⟨rfl, rfl, rfl, rfl, rfl, .of_eq rfl fun _ => .refl _, .of_eq rfl fun _ => .refl _ c _, .of_eq rfl fun _ => .refl _,
    fun n hn => ?_, fun n l hn => ?_⟩
  · show Table.get (Table.modify s.lights group _) n = none
    rw [Table.get_modify_eq, hn]
    rfl
  · by_cases e : n = group
    · subst e
      obtain ⟨hz, hnode, hset⟩ := s.overrideLight_kept level duration l
      refine ⟨s.overrideLight level duration l, ?_, hz, hnode, hset, fun hle hf => ?_⟩
      · show Table.get (Table.modify s.lights n _) n = _
        rw [Table.get_modify_eq, hn, Option.map_some, if_pos rfl]
      · rw [State.lightZone_of_get hn] at hp
        exact absurd (State.permits_zone hc hle hp) (by simp [hf])
    · refine ⟨l, ?_, .refl _ l⟩
      show Table.get (Table.modify s.lights group _) n = _
      rw [Table.get_modify_eq, hn, Option.map_some, if_neg e]

/-- R22, R45, R101, R133, R152, R171: every request of FACILITY and OPERATOR. -/
theorem serveRequest_within (p : Port) (body : Request) {c : Cls} (hc : c = .facility ∨ c = .operator) (s : State) :
    Served.within c s (serveRequest p body c s) := by
  cases body with
  | readBays => exact .of_keeps ((serveReadBays_keeps s _ _ _ _).mono (by decide))
  | findBays => exact .of_keeps ((serveFindBays_keeps s _ _ _ _ _).mono (by decide))
  | changeBay => exact serveChangeBay_within hc s _ _ _
  | reserveBay => exact serveReserveBay_within hc s _ _ _
  | releaseBay => exact serveReleaseBay_within hc s _ _
  | defineBay =>
    show Served.within c s (serveDefineBay c _ _ _ _ _ s)
    unfold serveDefineBay
    split
    · exact .refuse c _ s
    · exact .service hc _ _ _
  | redefineBay =>
    show Served.within c s (serveRedefineBay c _ _ _ _ _ s)
    unfold serveRedefineBay
    split
    · exact .refuse c _ s
    · exact .service hc _ _ _
  | retireBay => exact .service hc _ _ _
  | readZone => exact .of_keeps ((serveReadZone_keeps s _).mono (by decide))
  | closeZone => exact serveOperatorCause_within hc s _ _
  | openZone => exact serveOperatorCause_within hc s _ _
  | defineZone => exact .service hc _ _ _
  | setZone => exact .service hc _ _ _
  | retireZone => exact .service hc _ _ _
  | readFan => exact .of_keeps ((serveReadFan_keeps s _).mono (by decide))
  | pushOverride => exact servePushOverride_within hc s _ _ _ _
  | popOverride => exact servePopOverride_within hc s _
  | fanControl => exact serveFanControl_within hc s _ _
  | defineFan => exact .service hc _ _ _
  | setFan => exact .service hc _ _ _
  | retireFan => exact .service hc _ _ _
  | readSign => exact .of_keeps ((serveReadSign_keeps s _).mono (by decide))
  | defineSign =>
    show Served.within c s (serveDefineSign c _ _ s)
    unfold serveDefineSign
    split
    · exact .refuse c _ s
    · exact .service hc _ _ _
  | setSign => exact .service hc _ _ _
  | retireSign => exact .service hc _ _ _
  | readLight => exact .of_keeps ((serveReadLight_keeps s _).mono (by decide))
  | lightOverride => exact serveLightOverride_within hc s _ _ _
  | defineLight => exact .service hc _ _ _
  | setLight => exact .service hc _ _ _
  | retireLight => exact .service hc _ _ _
  | readNode => exact .of_keeps ((serveReadNode_keeps s _).mono (by decide))
  | defineNode =>
    show Served.within c s (serveDefineNode c _ _ _ _ _ s)
    unfold serveDefineNode
    split
    · exact .service hc _ _ _
    · exact .refuse c _ s
  | retireNode => exact .service hc _ _ _
  | suspendNode => exact .service hc _ _ _
  | resumeNode => exact .service hc _ _ _
  | readStatus => exact .of_keeps ((serveReadStatus_keeps s p).mono (by decide))
  | setPermit =>
    show Served.within c s (serveSetPermit c _ _ _ s)
    unfold serveSetPermit
    split
    · exact .need fun h => absurd h (by simp [not_serviceOnly hc])
    · exact .need fun h => absurd h (by simp [not_serviceOnly hc])
    · exact .refuse c _ s
  | setPart => exact .service hc _ _ _
  | readAttention => exact .of_keeps ((serveReadAttention_keeps s p _).mono (by decide))
  | clearAttention => exact .of_keeps ((serveClearAttention_keeps s p _ _).mono (by cases p <;> simp))
  | setAttentionEnable => exact .of_keeps ((serveSetAttentionEnable_keeps s p _).mono (by cases p <;> simp))
  | restart => exact .of_keeps ((serveRestart_keeps s c).mono (by decide))
  | unknown => exact .refuse c _ s
  | badLength => exact .refuse c _ s
  | badPresence => exact .refuse c _ s

/-- Settles O60, request by request. -/
theorem classesKeepToTheirZones : Obligations.ClassesKeepToTheirZones := by
  intro p body c s hc t map
  obtain ⟨hnodes, hset, hfm, hom, hsigns, hb, hz, hf, hl⟩ := serveRequest_within p body hc s
  exact ⟨hnodes, hset, hfm, hom, hsigns, fun n => ⟨hb.1 n, hz.1 n, hf.1 n, hl.1 n⟩, hb.2, hz.2, hf.2, hl.2⟩

end Sys2Proof.Machine

/-! ## Proofs: fire mode entered, left and moved (R104 to R110) -/

namespace Sys2Proof.Machine

/-! ### The FIRE entries placed one after the other (R84, R92, R106) -/

theorem Fan.fireTop_placed (s : State) (g : Fan) : (s.firePlaced g).fireTop = true := by
  rw [Fan.fireTop_eq_true, State.firePlaced_stack]
  exact ⟨_, List.getLast?_concat, rfl⟩

/-- R107: the FIRE entry's level is the target at once. -/
theorem State.firePlaced_eq (s : State) {g : Fan} {level : Nat} (h : g.fireLevel s.fire.zone = level) :
    s.firePlaced g = { g with
      stack := (if 4 ≤ g.stack.length then g.stack.drop 1 else g.stack) ++
        [{ cls := .fire, level := level, expiry := none, tag := 0 }]
      target := level } := by
  unfold State.firePlaced State.retargeted
  rw [(s.targetOf_spec _).1 _ List.getLast?_concat rfl, h]
  rfl

/-- R84, R107: the item a FIRE entry raises: the isolated group, or the entry it displaced. -/
def Fan.fireItem (g : Fan) : Option Reason :=
  if g.state = .isolated then some .isolatedInFire else if 4 ≤ g.stack.length then some .displaced else none

/-- Whether a group waits. -/
def State.waiter (s : State) (n : Nat) : Bool := (Table.get s.fans n).any (fun g => decide (g.state = .waiting))

theorem State.waiter_iff {s : State} {n : Nat} : s.waiter n = true ↔ ∃ g, Table.get s.fans n = some g ∧ g.state = .waiting := by
  simp [State.waiter, Option.any_eq_true]

theorem insertFire_between {isFire : Nat → Bool} {n : Nat} {ahead behind : List Nat} (ha : ∀ m ∈ ahead, isFire m = true)
    (hb : ∀ m ∈ behind, isFire m = false) : insertFire isFire n (ahead ++ behind) = ahead ++ n :: behind := by
  induction ahead with
  | nil =>
    cases behind with
    | nil => rfl
    | cons m rest =>
      have hrest : rest.any isFire = false := List.any_eq_false.2 fun x hx => by simp [hb x (List.mem_cons_of_mem m hx)]
      simp [insertFire, hb m List.mem_cons_self, hrest]
  | cons m ahead ih =>
    simp [insertFire, ha m List.mem_cons_self, ih fun x hx => ha x (List.mem_cons_of_mem m hx)]

/-- R92: a waiter whose FIRE entry arrives moves forward; other groups leave the queue as it is. -/
theorem State.placeFire_queue {s : State} {n : Nat} {g : Fan} (h : Table.get s.fans n = some g) :
    (s.placeFire n).queue = if g.state = .waiting then
      insertFire (s.placeFire n).isFireWaiter n (s.queue.filter (fun m => decide (m ≠ n))) else s.queue := by
  have hfans := s.placeFire_fans n
  have hread : (s.placeFire n).isFireWaiter = fun m => (Table.get (Table.modify s.fans n s.firePlaced) m).any Fan.fireTop := by
    funext m
    rw [State.isFireWaiter, hfans]
  rw [hread]
  have hraised : ∀ (b : Prop) [Decidable b] (r : Reason) (u : State),
      (if b then u.raise .fan n r else u).queue = u.queue ∧ (if b then u.raise .fan n r else u).fans = u.fans := fun b _ r u => by
    split <;> exact ⟨rfl, rfl⟩
  unfold State.placeFire
  rw [h]
  dsimp only
  by_cases hw : g.state = .waiting
  · rw [if_pos hw, if_pos hw]
    generalize hu : (s.changeFan n (fun g => { g with stack := stackWithFire g.stack (g.fireLevel s.fire.zone) })).retarget n = u
    have hq : u.queue = s.queue := by rw [← hu]; rfl
    have hf : u.fans = Table.modify s.fans n s.firePlaced := by
      rw [← hu, State.retarget_fans, State.changeFan_fans, Table.modify_modify]
      rfl
    generalize hv : (if Config.stackDepth ≤ g.stack.length then u.raise .fan n .displaced else u) = v
    obtain ⟨hq1, hf1⟩ : v.queue = u.queue ∧ v.fans = u.fans := hv ▸ hraised _ _ u
    generalize hx : (if g.state = .isolated then v.raise .fan n .isolatedInFire else v) = x
    obtain ⟨hq2, hf2⟩ : x.queue = v.queue ∧ x.fans = v.fans := hx ▸ hraised _ _ v
    show insertFire (fun m => (Table.get x.fans m).any Fan.fireTop) n (x.queue.filter _) = _
    rw [hq2, hq1, hq, hf2, hf1, hf]
  · rw [if_neg hw, if_neg hw, (hraised _ _ _).1, (hraised _ _ _).1]
    rfl

theorem State.placeFire_fanItems {s : State} {n : Nat} {g : Fan} (h : Table.get s.fans n = some g) (p : Port) (k : Nat) :
    Table.get ((s.placeFire n).port p).att.fan k =
      (if k = n then g.fireItem else none).or (Table.get (s.port p).att.fan k) := by
  have hraise : ∀ (u : State) (r : Reason), Table.get ((u.raise .fan n r).port p).att.fan k =
      if k = n then some r else Table.get (u.port p).att.fan k := fun u r => by
    show Table.get (((u.raise .fan n r).port p).att.items .fan) k = _
    rw [State.raise_items, if_pos rfl]
    by_cases e : k = n
    · rw [if_pos e, e, Table.get_set]
    · rw [if_neg e, Table.get_set_ne _ _ e]
      rfl
  have hmove : ∀ u : State, ((u.moveForward n).port p).att = (u.port p).att := fun u => by
    cases p <;> rfl
  unfold State.placeFire
  rw [h]
  dsimp only
  generalize hu : (s.changeFan n (fun g => { g with stack := stackWithFire g.stack (g.fireLevel s.fire.zone) })).retarget n = u
  have hp : (u.port p).att = (s.port p).att := by rw [← hu]; cases p <;> rfl
  unfold Fan.fireItem
  have hdepth : Config.stackDepth = 4 := rfl
  by_cases hi : g.state = .isolated
  · rw [if_neg (by simp [hi]), if_pos hi, if_pos hi, hraise]
    by_cases e : k = n
    · simp [e]
    · rw [if_neg e, if_neg e]
      split
      · rw [hraise, if_neg e, hp]
        rfl
      · rw [hp]
        rfl
  · have hx : Table.get ((if Config.stackDepth ≤ g.stack.length then u.raise .fan n .displaced else u).port p).att.fan k =
        (if k = n then if 4 ≤ g.stack.length then some Reason.displaced else none else none).or
          (Table.get (s.port p).att.fan k) := by
      by_cases hd : 4 ≤ g.stack.length
      · rw [if_pos (hdepth ▸ hd), hraise, if_pos hd, hp]
        by_cases e : k = n <;> simp [e]
      · rw [if_neg (hdepth ▸ hd), if_neg hd, hp]
        simp
    rw [if_neg hi, if_neg hi]
    split
    · rw [hmove, hx]
    · exact hx

/-- How far the FIRE entries have come: the groups done, the queue and the FAN items. -/
structure State.Placing (s u : State) (done : List Nat) : Prop where
  zones : u.zones = s.zones
  fire : u.fire = s.fire
  fans : ∀ k, Table.get u.fans k = (Table.get s.fans k).map (fun g => if k ∈ done then s.firePlaced g else g)
  members : ∀ n ∈ u.queue, n ∈ s.queue ∨ s.waiter n = true
  order : s.queueSound → (∀ n, s.isFireWaiter n = false) →
    u.queue = done.filter s.waiter ++ s.queue.filter (fun n => decide (n ∉ done))
  items : ∀ (p : Port) (k : Nat), Table.get (u.port p).att.fan k =
    (if k ∈ done then (Table.get s.fans k).bind Fan.fireItem else none).or (Table.get (s.port p).att.fan k)

theorem State.Placing.start (s : State) : s.Placing s [] where
  zones := rfl
  fire := rfl
  fans k := by simp
  members n hn := .inl hn
  order _ _ := by simp
  items p k := by simp

/-- R106: the FIRE entry of the next group. -/
theorem State.Placing.step {s u : State} {done : List Nat} (h : s.Placing u done) {n : Nat} (hn : n ∉ done) {g : Fan}
    (hg : Table.get s.fans n = some g) : s.Placing (u.placeFire n) (done ++ [n]) := by
  have hgu : Table.get u.fans n = some g := by rw [h.fans, hg, Option.map_some, if_neg hn]
  have hplaced : u.firePlaced = s.firePlaced := by
    funext g
    rw [State.firePlaced, State.firePlaced, State.retargeted_congr h.zones, h.fire]
  have hfans : ∀ k, Table.get (u.placeFire n).fans k =
      (Table.get s.fans k).map (fun g => if k ∈ done ++ [n] then s.firePlaced g else g) := fun k => by
    rw [State.placeFire_fans, Table.get_modify_eq, h.fans, Option.map_map, hplaced]
    congr 1
    funext g
    by_cases e : k = n
    · subst e; simp [hn]
    · simp [e]
  have hwait : s.waiter n = decide (g.state = .waiting) := by simp [State.waiter, hg]
  refine ⟨(u.placeFire_zones n).trans h.zones, (u.placeFire_keeps n .fire (by decide)).trans h.fire, hfans, fun m hm => ?_,
    fun hq hno => ?_, fun p k => ?_⟩
  · rw [State.placeFire_queue hgu] at hm
    split at hm
    · next hw =>
      rcases List.mem_cons.1 ((insertFire_perm _ _ _).mem_iff.1 hm) with rfl | hm
      · exact .inr (by simpa [hwait] using hw)
      · exact h.members m (List.mem_filter.1 hm).1
    · exact h.members m hm
  · have hmem := hq.2
    rw [State.placeFire_queue hgu, h.order hq hno, List.filter_append]
    have hdone : ∀ m ∈ done.filter s.waiter, m ≠ n := fun m hm e => hn (e ▸ (List.mem_filter.1 hm).1)
    split
    · next hw =>
      rw [List.filter_append, List.filter_eq_self.2 fun m hm => by simpa using hdone m hm, List.filter_filter,
        insertFire_between]
      · simp [hwait, hw, and_comm]
      · intro m hm
        obtain ⟨hmd, hmw⟩ := List.mem_filter.1 hm
        obtain ⟨gm, hgm, -⟩ := State.waiter_iff.1 hmw
        rw [State.isFireWaiter, hfans, hgm]
        simp [hmd, Fan.fireTop_placed]
      · intro m hm
        obtain ⟨hms, hm'⟩ := List.mem_filter.1 hm
        have hm0 := hno m
        have hout : m ∉ done ++ [n] := by simpa [and_comm] using hm'
        rw [State.isFireWaiter] at hm0 ⊢
        rw [hfans]
        cases hgm : Table.get s.fans m with
        | none => rfl
        | some gm => simpa [hgm, hout] using hm0
    · next hw =>
      have hns : n ∉ s.queue := fun hin => by
        obtain ⟨g', hg', hw'⟩ := (hmem n).1 hin
        obtain rfl := Option.some.inj (hg.symm.trans hg')
        exact hw hw'
      have hcongr : s.queue.filter (fun m => decide (m ∉ done ++ [n])) = s.queue.filter (fun m => decide (m ∉ done)) :=
        List.filter_congr fun m hm => by
          have hne : m ≠ n := fun e => hns (e ▸ hm)
          simp [hne]
      rw [hcongr]
      simp [hwait, hw]
  · rw [State.placeFire_fanItems hgu, h.items]
    by_cases e : k = n
    · subst e
      simp [hn, hg]
    · simp [e]

theorem State.Placing.all {s u : State} {done ns : List Nat} (h : s.Placing u done) (hns : (done ++ ns).Nodup)
    (hdef : ∀ n ∈ ns, ∃ g, Table.get s.fans n = some g) : s.Placing (State.forEach State.placeFire ns u) (done ++ ns) := by
  induction ns generalizing u done with
  | nil => simpa [State.forEach] using h
  | cons n ns ih =>
    obtain ⟨g, hg⟩ := hdef n List.mem_cons_self
    have hnd : n ∉ done := fun hin => (List.disjoint_of_nodup_append hns) hin List.mem_cons_self
    rw [State.forEach, List.append_cons]
    exact ih (h.step hnd hg) (by simpa using hns) fun m hm => hdef m (List.mem_cons_of_mem n hm)

theorem State.placeFires_placing {s : State} (hw : s.tablesSound) : s.Placing s.placeFires (Table.keys s.fans) := by
  have h := (State.Placing.start s).all (ns := Table.keys s.fans) (by simpa using Table.keys_nodup hw.fans.1) fun n hn => by
    obtain ⟨e, he, rfl⟩ := List.mem_map.1 hn
    exact ⟨e.2, Table.get_of_mem hw.fans.1 he⟩
  simpa [State.placeFires] using h

/-- R92: with every entry placed, the waiters stand in rising order. -/
theorem State.Placing.rising {s u : State} (h : s.Placing u (Table.keys s.fans)) (hw : s.tablesSound) (hq : s.queueSound)
    (hno : ∀ n, s.isFireWaiter n = false) :
    u.queue = (s.fans.filter (fun e => decide (e.2.state = .waiting))).map (fun e => e.1) := by
  have hnil : s.queue.filter (fun n => decide (n ∉ Table.keys s.fans)) = [] := by
    refine List.filter_eq_nil_iff.2 fun n hn => ?_
    obtain ⟨g, hg, -⟩ := (hq.2 n).1 hn
    simp [Table.mem_keys_of_get hg]
  rw [h.order hq hno, hnil, List.append_nil]
  show (s.fans.map (fun e => e.1)).filter s.waiter = _
  rw [List.filter_map]
  congr 1
  refine List.filter_congr fun e he => ?_
  simp [State.waiter, Table.get_of_mem hw.fans.1 he]

/-! ### Zones, signs and lights as fire mode comes and goes (R106, R110, R121, R140, R141) -/

/-- Signs that took new content and a new dirty flag alone. -/
def State.signsOnly (s t : State) : Prop :=
  ∀ n g, Table.get s.signs n = some g → ∃ g', Table.get t.signs n = some g' ∧ g' = { g with content := g'.content, dirty := g'.dirty }

theorem State.signsOnly.trans {s t u : State} (h : s.signsOnly t) (h' : t.signsOnly u) : s.signsOnly u := fun n g hg => by
  obtain ⟨g1, hg1, e1⟩ := h n g hg
  obtain ⟨g2, hg2, e2⟩ := h' n g1 hg1
  exact ⟨g2, hg2, by rw [e2, e1]⟩

theorem State.signsOnly.of_eq {s t : State} (h : t.signs = s.signs) : s.signsOnly t := fun n g hg => ⟨g, by rw [h, hg], rfl⟩

theorem State.changeCauses_signsOnly (s : State) (zone : Nat) (f : Causes → Causes) : s.signsOnly (s.changeCauses zone f) := by
  cases hz : Table.get s.zones zone with
  | none => exact .of_eq (by simp [State.changeCauses, hz])
  | some z => exact (State.changeCauses_marked hz f).only.2

theorem State.fireCause_signsOnly (s : State) (present : Bool) : s.signsOnly (s.fireCause present) := by
  unfold State.fireCause
  generalize Table.keys s.zones = ns
  induction ns generalizing s with
  | nil => exact .of_eq rfl
  | cons n ns ih => exact (s.changeCauses_signsOnly n _).trans (ih _)

theorem State.recomputeSigns_get (s : State) (n : Nat) :
    Table.get s.recomputeSigns.signs n = (Table.get s.signs n).map s.recomputed := by
  simp [State.recomputeSigns]

/-- R106, R110: what the zones, the signs and the lights make of a changed filter. -/
def State.fireEffects (s : State) (present : Bool) (r : Reason) : State :=
  ((s.fireCause present).recomputeSigns.setFireFlag present).raise .fire 0 r

theorem State.fireEffects_contents {s : State} (present : Bool) (r : Reason) {n : Nat} {g : Sign}
    (h : Table.get s.signs n = some g) : ∃ g', Table.get (s.fireEffects present r).signs n = some g' ∧
      g' = { g with content := (s.fireEffects present r).contentOf g.config, dirty := g'.dirty } := by
  obtain ⟨g1, hg1, e1⟩ := s.fireCause_signsOnly present n g h
  have hcong : (s.fireEffects present r).contentOf g.config = (s.fireCause present).contentOf g.config :=
    congrFun (State.contentOf_congr_zones (s := s.fireCause present) (t := s.fireEffects present r)
      (s.fireEffects_zones present r)
      ((s.fireEffects_keeps present r .fire (by decide)).trans (s.fireCause_keeps present .fire (by decide)).symm)) _
  have hconf : g1.config = g.config := by rw [e1]
  refine ⟨(s.fireCause present).recomputed g1, ?_, ?_⟩
  · show Table.get (s.fireCause present).recomputeSigns.signs n = _
    rw [State.recomputeSigns_get, hg1]
    rfl
  · have honly := State.recomputed_only (s.fireCause present) g1
    rw [State.recomputed_content, hconf, ← hcong] at honly
    rw [honly, e1]

theorem State.fireEffects_lights (s : State) (present : Bool) (r : Reason) (n : Nat) :
    Table.get (s.fireEffects present r).lights n =
      (Table.get s.lights n).map (fun l => l.judgeForcing (present || s.fumeSet.getLsbD l.zone) s.seconds) := by
  have hl : (s.fireCause present).recomputeSigns.lights = s.lights := (s.fireCause_keeps present) .lights (by decide)
  have hf : (s.fireCause present).recomputeSigns.fumeSet = s.fumeSet := (s.fireCause_keeps present) .fumeSet (by decide)
  have hs : (s.fireCause present).recomputeSigns.seconds = s.seconds := (s.fireCause_keeps present) .seconds (by decide)
  generalize hu : (s.fireCause present).recomputeSigns = u at hl hf hs
  show Table.get (((s.fireCause present).recomputeSigns).setFireFlag present).lights n = _
  rw [hu]
  simp [State.setFireFlag, State.judgeForcing, State.dueForForcing, hl, hf, hs]

theorem State.fireEffects_fanItems (s : State) (present : Bool) (r : Reason) (p : Port) :
    ((s.fireEffects present r).port p).att.fan = (s.port p).att.fan := by
  have hkeep : s.keepsBut ((s.fireCause present).recomputeSigns.setFireFlag present) [.zones, .signs, .lights, .fireFlag] :=
    (((s.fireCause_keeps present).mono (by decide)).trans ((State.recomputeSigns_keeps _).mono (by decide))).trans
      ((State.setFireFlag_keeps _ _).mono (by decide))
  have h := State.itemsStand.of_keeps hkeep [.fan]
  show ((s.fireEffects present r).port p).att.items .fan = (s.port p).att.items .fan
  rw [← h p .fan (by decide)]
  exact (State.raise_items _ _ _ _ p .fan).trans (if_neg (by decide))

theorem State.fireEffects_item (s : State) (present : Bool) (r : Reason) (p : Port) :
    Table.get ((s.fireEffects present r).port p).att.fire 0 = some r := State.raise_raised _ .fire 0 r p

/-- R140: due for forcing. -/
theorem Light.judgeForcing_due (now : Seconds) (l : Light) : l.judgeForcing true now =
    if l.state = .forced then l
    else { l with state := .forced, policy := 100, level := 100, holdExpiry := none, nextRamp := none } := rfl

theorem Light.judgeForcing_over (now : Seconds) (l : Light) : l.judgeForcing false now =
    if l.state = .forced then { l with
      state := .active, policy := l.settings.active, nextRamp := none
      holdExpiry := some (now + BitVec.ofNat 32 l.settings.hold)
      level := (l.ovr.map (fun o => o.level)).getD l.settings.active }
    else l := by
  cases ho : l.ovr <;> simp [Light.judgeForcing, Light.enterActive, Light.relevel, ho]

theorem execFireFilterDue_rise {s : State} {due : Millis} (hc : s.fire.change = some due) (ht : s.fire.taken = false) :
    exec .fireFilterDue s = .next ((s.atMs due).withFire s.fire.rise |>.placeFires.fireEffects true .asserted) := by
  show Host.Outcome.next s.filterDue = _
  unfold State.filterDue
  rw [hc]
  dsimp only
  rw [if_neg (by simp [ht])]
  rfl

theorem State.firePlaced_rise {s : State} (g : Fan) {zone : Nat} (hz : s.fire.zone = some zone) : s.firePlaced g =
    (let level := if g.served.getLsbD zone then g.settings.fireIn else g.settings.fireOut
    { g with
      stack := (if 4 ≤ g.stack.length then g.stack.drop 1 else g.stack) ++
        [{ cls := .fire, level := level, expiry := none, tag := 0 }]
      target := level }) := s.firePlaced_eq (by rw [hz]; rfl)

theorem State.movedTo.kept {s u t : State} {moment : Millis} (h : s.movedTo u moment) (hk : u.sameClock t) :
    s.movedTo t moment := by
  obtain ⟨h1, h2, h3⟩ := h
  obtain ⟨k1, k2, k3⟩ := hk
  exact ⟨k1.trans h1, k2.trans h2, k3.trans h3⟩

/-- Settles O36: the entries are placed one after the other, then the zones, signs and lights follow. -/
theorem fireModeEntered : Obligations.FireModeEntered := by
  intro s due hw hc ht
  obtain ⟨v, hv⟩ : ∃ v, v = (s.atMs due).withFire s.fire.rise := ⟨_, rfl⟩
  have hclock : s.keepsBut v (clockParts ++ [.fire]) := by
    rw [hv]
    exact ((s.atMs_keeps due).mono (by decide)).trans ((State.withFire_keeps _ _).mono (by decide))
  have hmoved : s.movedTo v due := by
    rw [hv]
    exact (s.atMs_movedTo due).kept ((State.withFire_keeps _ _).sameClock)
  have hvw : v.tablesSound := by
    rw [hv]
    exact hw
  have hvf : v.fire = s.fire.rise := by rw [hv]; rfl
  have hfans : v.fans = s.fans := hclock .fans (by decide)
  have hplace := v.placeFires_placing hvw
  have heff := State.fireEffects_keeps v.placeFires true .asserted
  refine ⟨v.placeFires.fireEffects true .asserted, by rw [hv]; exact execFireFilterDue_rise hc ht, ?_⟩
  have hfire : (v.placeFires.fireEffects true .asserted).fire = s.fire.rise :=
    ((heff .fire (by decide)).trans hplace.fire).trans hvf
  have hqueue : (v.placeFires.fireEffects true .asserted).queue = v.placeFires.queue := heff .queue (by decide)
  have hitems : ∀ (p : Port) (k : Nat), Table.get ((v.placeFires.fireEffects true .asserted).port p).att.fan k =
      ((Table.get s.fans k).bind Fan.fireItem).or (Table.get (s.port p).att.fan k) := fun p k => by
    have hport : (v.port p).att = (s.port p).att := by rw [hv]; cases p <;> rfl
    rw [State.fireEffects_fanItems, hplace.items, hfans, hport]
    cases hk : Table.get s.fans k with
    | none => simp
    | some g => rw [if_pos (Table.mem_keys_of_get hk)]
  refine ⟨?_, hfire, fun n => ?_, fun n => ?_, fun n g hg => ?_, fun n => ?_, rfl, fun p => State.fireEffects_item _ _ _ p,
    fun n g hg hlen hiso p => ?_, fun n g hg hiso p => ?_, fun n hn => ?_, fun hq hst => ?_, ?_⟩
  · exact hmoved.kept ((v.placeFires_keeps.sameClock).trans heff.sameClock)
  · rw [show (v.placeFires.fireEffects true .asserted).fans = v.placeFires.fans from heff .fans (by decide),
      State.placeFires_get (Table.keys_nodup hvw.fans.1), hfans]
    have hzone : v.fire.zone = some s.fire.codes.toNat := by rw [hvf]; rfl
    rw [show v.firePlaced = _ from funext fun g => State.firePlaced_rise g hzone]
  · rw [show (v.placeFires.fireEffects true .asserted).zones = (v.placeFires.fireCause true).zones from
      State.fireEffects_zones _ _ _]
    rw [State.fireCause_get, hplace.zones, show v.zones = s.zones from hclock .zones (by decide)]
  · have hgv : Table.get v.placeFires.signs n = some g := by
      rw [show v.placeFires.signs = v.signs from v.placeFires_keeps .signs (by decide),
        show v.signs = s.signs from hclock .signs (by decide), hg]
    obtain ⟨g', hg', e⟩ := State.fireEffects_contents true .asserted hgv
    refine ⟨g', hg', by rw [e], ?_⟩
    rw [e]
    dsimp only
    rw [State.contentOf_fire (by rw [hfire]; rfl)]
    cases g.config.kind <;> rfl
  · rw [State.fireEffects_lights, show v.placeFires.lights = v.lights from v.placeFires_keeps .lights (by decide),
      show v.lights = s.lights from hclock .lights (by decide)]
    rfl
  · rw [hitems, hg]
    simp [Fan.fireItem, hiso, hlen]
  · rw [hitems, hg]
    simp [Fan.fireItem, hiso]
  · rw [hqueue] at hn
    rw [← show v.queue = s.queue from hclock .queue (by decide), ← hfans]
    exact (hplace.members n hn).imp id State.waiter_iff.1
  · have hno : ∀ n, v.isFireWaiter n = false := fun n => by
      rw [State.isFireWaiter, hfans]
      cases hn : Table.get s.fans n with
      | none => rfl
      | some g => exact (stackSound.fireTop (hst _ (Table.mem_of_get hn))).trans ht
    rw [hqueue, ← hfans]
    refine hplace.rising hvw ?_ hno
    rw [State.queueSound, show v.queue = s.queue from hclock .queue (by decide), hfans]
    exact hq
  · exact (hclock.mono (by decide)).trans ((v.placeFires_keeps.mono (by decide)).trans (heff.mono (by decide)))

theorem execFireFilterDue_fall {s : State} {due : Millis} (hc : s.fire.change = some due) (ht : s.fire.taken = true) :
    exec .fireFilterDue s = .next ((s.atMs due).withFire s.fire.fall |>.removeFires.fireEffects false .released) := by
  show Host.Outcome.next s.filterDue = _
  unfold State.filterDue
  rw [hc]
  dsimp only
  rw [if_pos ht]
  rfl

theorem execPendingZoneDue_moves {s : State} {zone : Nat} {due : Millis} (hp : s.fire.pendingZone = some (zone, due))
    (ht : s.fire.taken = true) : exec .pendingZoneDue s =
      .next (((s.atMs due).withFire { s.fire with zone := some zone, pendingZone := none }).relevelFires.raise
        .fire 0 .zoneChanged) := by
  show Host.Outcome.next s.pendingZoneDue = _
  unfold State.pendingZoneDue
  rw [hp]
  dsimp only
  rw [if_pos ht]
  rfl

/-- R110: what leaving fire mode does, the filter once fallen. -/
theorem State.removeFires_effects {s v : State} {due : Millis} (hw : v.tablesSound) (hmoved : s.movedTo v due)
    (hclock : s.keepsBut v (clockParts ++ [.fire])) : s.movedTo (v.removeFires.fireEffects false .released) due ∧
      (v.removeFires.fireEffects false .released).fire = v.fire ∧
      (∀ n, Table.get (v.removeFires.fireEffects false .released).fans n = (Table.get s.fans n).map (fun g =>
        let stack := g.stack.filter (fun e => decide (e.cls ≠ .fire))
        { g with stack := stack, target := s.targetOf { g with stack := stack } })) ∧
      (∀ n, Table.get (v.removeFires.fireEffects false .released).zones n =
        (Table.get s.zones n).map (fun z => { z with causes := { z.causes with fire := false } })) := by
  have heff := State.fireEffects_keeps v.removeFires false .released
  have hzones : v.zones = s.zones := hclock .zones (by decide)
  refine ⟨hmoved.kept ((v.removeFires_keeps.sameClock).trans heff.sameClock),
    (heff .fire (by decide)).trans (v.removeFires_keeps .fire (by decide)), fun n => ?_, fun n => ?_⟩
  · rw [show (v.removeFires.fireEffects false .released).fans = v.removeFires.fans from heff .fans (by decide),
      State.removeFires_get (Table.keys_nodup hw.fans.1), show v.fans = s.fans from hclock .fans (by decide)]
    have hrem : v.fireRemoved = s.fireRemoved := by
      funext g
      rw [State.fireRemoved, State.fireRemoved, State.retargeted_congr hzones]
    rw [hrem]
    rfl
  · rw [show (v.removeFires.fireEffects false .released).zones = (v.removeFires.fireCause false).zones from
      State.fireEffects_zones _ _ _, State.fireCause_get, v.removeFires_keeps .zones (by decide), hzones]

/-- Settles O37: the entries are taken off, or releveled, one after the other. -/
theorem fireModeLeftAndZoneChanged : Obligations.FireModeLeftAndZoneChanged := by
  intro s due hw ht
  refine ⟨fun hc => ?_, fun zone hp => ?_⟩
  · obtain ⟨v, hv⟩ : ∃ v, v = (s.atMs due).withFire s.fire.fall := ⟨_, rfl⟩
    have hclock : s.keepsBut v (clockParts ++ [.fire]) := by
      rw [hv]
      exact ((s.atMs_keeps due).mono (by decide)).trans ((State.withFire_keeps _ _).mono (by decide))
    have hmoved : s.movedTo v due := by
      rw [hv]
      exact (s.atMs_movedTo due).kept ((State.withFire_keeps _ _).sameClock)
    have hvw : v.tablesSound := by
      rw [hv]
      exact hw
    have hvf : v.fire = s.fire.fall := by rw [hv]; rfl
    have heff := State.fireEffects_keeps v.removeFires false .released
    obtain ⟨hms, hfire, hfans, hzones⟩ := State.removeFires_effects hvw hmoved hclock
    have hsec : (v.removeFires.fireEffects false .released).seconds = v.removeFires.seconds := heff .seconds (by decide)
    refine ⟨v.removeFires.fireEffects false .released, by rw [hv]; exact execFireFilterDue_fall hc ht, hms,
      hfire.trans hvf, hfans, hzones, fun n g hg => ?_, fun n => ?_, rfl, fun p => State.fireEffects_item _ _ _ p,
      (hclock.mono (by decide)).trans ((v.removeFires_keeps.mono (by decide)).trans (heff.mono (by decide)))⟩
    · refine State.fireEffects_contents false .released ?_
      rw [show v.removeFires.signs = v.signs from v.removeFires_keeps .signs (by decide),
        show v.signs = s.signs from hclock .signs (by decide), hg]
    · rw [State.fireEffects_lights, hsec, show v.removeFires.lights = v.lights from v.removeFires_keeps .lights (by decide),
        show v.lights = s.lights from hclock .lights (by decide),
        show v.removeFires.fumeSet = v.fumeSet from v.removeFires_keeps .fumeSet (by decide),
        show v.fumeSet = s.fumeSet from hclock .fumeSet (by decide)]
      congr 1
      funext l
      cases hf : s.fumeSet.getLsbD l.zone
      · exact Light.judgeForcing_over _ l
      · exact Light.judgeForcing_due _ l
  · obtain ⟨v, hv⟩ : ∃ v, v = (s.atMs due).withFire { s.fire with zone := some zone, pendingZone := none } := ⟨_, rfl⟩
    have hclock : s.keepsBut v (clockParts ++ [.fire]) := by
      rw [hv]
      exact ((s.atMs_keeps due).mono (by decide)).trans ((State.withFire_keeps _ _).mono (by decide))
    have hmoved : s.movedTo v due := by
      rw [hv]
      exact (s.atMs_movedTo due).kept ((State.withFire_keeps _ _).sameClock)
    have hvw : v.tablesSound := by
      rw [hv]
      exact hw
    have hvf : v.fire = { s.fire with zone := some zone, pendingZone := none } := by rw [hv]; rfl
    have hraise := State.raise_keeps v.relevelFires .fire 0 .zoneChanged
    refine ⟨v.relevelFires.raise .fire 0 .zoneChanged, by rw [hv]; exact execPendingZoneDue_moves hp ht,
      hmoved.kept ((v.relevelFires_keeps.sameClock).trans hraise.sameClock),
      ((hraise .fire (by decide)).trans (v.relevelFires_keeps .fire (by decide))).trans hvf, fun n => ?_,
      fun p => State.raise_raised _ .fire 0 _ p,
      (hclock.mono (by decide)).trans ((v.relevelFires_keeps.mono (by decide)).trans (hraise.mono (by decide)))⟩
    rw [show (v.relevelFires.raise .fire 0 .zoneChanged).fans = v.relevelFires.fans from hraise .fans (by decide),
      State.relevelFires_get (Table.keys_nodup hvw.fans.1), show v.fans = s.fans from hclock .fans (by decide)]
    congr 1
    funext g
    rw [State.fireLeveled, State.retargeted_congr (hclock .zones (by decide)), hvf]
    rfl

end Sys2Proof.Machine

/-! ## Proofs: the air evaluation (R52 to R68) -/

namespace Sys2Proof.Machine

/-! ### The zone sample (R54) -/

/-- What a sample of peaks is: none of them where none is present, else the greatest, marked where one is. -/
def IsSample (peaks : List (Option Peak)) : Option Peak → Prop
  | none => ∀ p ∈ peaks, p = none
  | some r =>
    (∃ p ∈ peaks, ∃ q, p = some q ∧ q.value = r.value) ∧ (∀ p ∈ peaks, ∀ q, p = some q → q.value ≤ r.value) ∧
    (r.overRange = true ↔ ∃ p ∈ peaks, ∃ q, p = some q ∧ q.overRange = true)

/-- R50: two peaks as one. -/
def joinPeaks (acc : Option Peak) : Option Peak → Option Peak
  | none => acc
  | some r => raisePeak acc r

theorem sampleOf_eq (peaks : List (Option Peak)) : sampleOf peaks = peaks.foldl joinPeaks none := by
  unfold sampleOf
  rfl

/-- Two peaks sampled as one are sampled as they are. -/
theorem IsSample.split {acc p o : Option Peak} {peaks : List (Option Peak)} (h : IsSample (joinPeaks acc p :: peaks) o) :
    IsSample (acc :: p :: peaks) o := by
  cases p with
  | none => cases o <;> simpa [IsSample, joinPeaks] using h
  | some q =>
    cases acc with
    | none =>
      cases o with
      | none => exact absurd (h _ List.mem_cons_self) (Option.some_ne_none _)
      | some r => simpa [IsSample, joinPeaks, raisePeak] using h
    | some q' =>
      cases o with
      | none => exact absurd (h _ List.mem_cons_self) (Option.some_ne_none _)
      | some r =>
        simp only [IsSample, joinPeaks, raisePeak, List.mem_cons, exists_eq_or_imp, forall_eq_or_imp, Option.some.injEq,
          exists_eq_left', forall_eq', Bool.or_eq_true] at h ⊢
        obtain ⟨hex, ⟨hmax, hall⟩, hover⟩ := h
        refine ⟨?_, ⟨by omega, by omega, hall⟩, hover.trans or_assoc⟩
        rcases hex with hex | hex
        · rcases Nat.le_total q'.value q.value with hle | hle
          · exact .inr (.inl (by omega))
          · exact .inl (by omega)
        · exact .inr (.inr hex)

theorem isSample_foldl (peaks : List (Option Peak)) (acc : Option Peak) :
    IsSample (acc :: peaks) (peaks.foldl joinPeaks acc) := by
  induction peaks generalizing acc with
  | nil => cases acc <;> simp [IsSample]
  | cons p peaks ih => exact (ih (joinPeaks acc p)).split

theorem isSample_sampleOf (peaks : List (Option Peak)) : IsSample peaks (sampleOf peaks) := by
  have h := isSample_foldl peaks none
  rw [← sampleOf_eq] at h
  cases hs : sampleOf peaks <;> simpa [IsSample, hs] using h

/-! ### The order of an expiry (R53; log 16) -/

theorem State.evaluationOrder_perm (s : State) : s.evaluationOrder.Perm (s.zones.map (fun e => e.1)) := by
  unfold State.evaluationOrder
  dsimp only
  split
  · exact .refl _
  · split
    · next h => exact List.isPerm_iff.1 h
    · exact .refl _

/-! ### One zone's evaluation -/

theorem State.evaluateZone_nodes {s : State} {zone : Nat} {z : Zone} (h : Table.get s.zones zone = some z) (n : Nat) :
    Table.get (s.evaluateZone zone).nodes n = (Table.get s.nodes n).map (fun d =>
      if d.kind = .gas ∧ d.zone = some zone then { d with head := { d.head with coPeak := none, no2Peak := none } } else d) := by
  have hev : (s.evaluated zone z).nodes = (s.clearPeaks zone).nodes := by
    unfold State.evaluated
    dsimp only
    split <;> rfl
  rw [State.evaluateZone_eq h, (s.evaluated zone z).fumeEffects_keeps _ _ _ .nodes (by decide), hev]
  simp [State.clearPeaks, Node.isHeadOf]

theorem State.fumeEffects_airItem (s : State) (zone : Nat) (old new : Fume) (p : Port) :
    Table.get ((s.fumeEffects zone old new).port p).att.air zone =
      if old = new then Table.get (s.port p).att.air zone
      else if new = .fume then some .fumeEntered
      else if old = .fume then some .fumeLeft else Table.get (s.port p).att.air zone := by
  have judged : ∀ u : State, ((u.judgeAirCause zone).port p).att.items .air = (u.port p).att.items .air := fun u =>
    State.itemsStand.of_keeps (u.judgeAirCause_keeps zone) [.air] (by decide) (by decide) p .air (by decide)
  have quiet : ∀ u v : State, u.keepsBut v [.lights, .fumeSet, .fans] → (v.port p).att.items .air = (u.port p).att.items .air :=
    fun u v hk => State.itemsStand.of_keeps hk [.air] (by decide) (by decide) p .air (by decide)
  show Table.get (((s.fumeEffects zone old new).port p).att.items .air) zone = _
  unfold State.fumeEffects
  split
  · rfl
  · rw [judged]
    split
    · rw [quiet _ _ (((State.fumeReported_keeps _ zone).mono (by decide)).trans ((State.retargetServing_keeps _ zone).mono (by decide)))]
      exact State.raise_raised _ .air zone _ p
    · split
      · rw [quiet _ _ (((State.fumeEnded_keeps _ zone).mono (by decide)).trans ((State.retargetServing_keeps _ zone).mono (by decide)))]
        exact State.raise_raised _ .air zone _ p
      · rfl

/-- R58, R59: the stages of BLIND and of the demand. -/
theorem evaluateAir_blind (st : ZoneSettings) (co no2 : Option Peak) (a : AirState) :
    (co = none → no2 = none →
      (evaluateAir st true co no2 a).air.blindCount = min 255 (a.blindCount + 1) ∧
      ((evaluateAir st true co no2 a).air.blind = true ↔
        a.blind = true ∨ st.blindLimit ≤ (evaluateAir st true co no2 a).air.blindCount)) ∧
    ∀ hasHeads, co ≠ none ∨ no2 ≠ none →
      (evaluateAir st hasHeads co no2 a).air.blind = false ∧ (evaluateAir st hasHeads co no2 a).air.blindCount = 0 := by
  refine ⟨fun hc hn => ?_, fun hasHeads h => ?_⟩
  · subst hc hn
    refine ⟨rfl, ?_⟩
    cases hb : a.blind <;> simp [evaluateAir, hb]
  · have hno : (hasHeads && co.isNone && no2.isNone) = false := by
      cases co <;> cases no2 <;> simp_all
    simp [evaluateAir, hno]

theorem evaluateAir_toBlind {st : ZoneSettings} {hasHeads : Bool} {co no2 : Option Peak} {a : AirState}
    (h : (evaluateAir st hasHeads co no2 a).air.blind = true) (ho : a.blind = false) :
    (evaluateAir st hasHeads co no2 a).toBlind = true := by
  simp only [evaluateAir, ho, Bool.false_or, Bool.and_eq_true] at h ⊢
  exact h.2

/-- R67, R71: the causes after a change of the fume state. -/
theorem Zone.withFume_eq (old new : Fume) (z : Zone) : z.withFume old new = { z with
    causes := { z.causes with
      fume := if new = old then z.causes.fume else if new = .fume then true else if old = .fume then false else z.causes.fume
      air := if new = old then z.causes.air else z.airDue } } := by
  unfold Zone.withFume
  by_cases h : old = new
  · simp [h]
  · simp [h, Ne.symm h, Zone.airJudged, Zone.airDue]

/-- Settles O22: the stages are the fields of `evaluateAir`; the effects follow the fume state. -/
theorem airEvaluationRuns : Obligations.AirEvaluationRuns := by
  refine ⟨fun s => ⟨fun hdue => ?_, fun hnot => ?_⟩, fun peaks => ?_, ?_⟩
  · have hex : exec .airEvaluationExpiry s = .next s.evaluateAll := by
      show Host.Outcome.next (if reached s.seconds s.airNext then s.evaluateAll else s) = _
      rw [hdue, reached_self, if_pos rfl]
    refine ⟨s.evaluateAll, s.evaluationOrder, hex, s.evaluationOrder_perm, ?_, ?_, s.evaluateAll_keeps.mono (by decide)⟩
    · have hrun : s.evaluateAll = State.forEach State.evaluateZone s.evaluationOrder
          { s with airNext := s.airNext + BitVec.ofNat 32 s.settings.airPeriod, freeCount := s.freeCount + 1 } := rfl
      rw [hdue] at hrun
      rw [hrun, State.forEach_eq_foldl]
    · rw [← hdue]
      exact State.keepsBut.forEach (fun n u => u.evaluateZone_keeps n) _ _ .airNext (by decide)
  · show Host.Outcome.next (if reached s.seconds s.airNext then s.evaluateAll else s) = _
    rw [if_neg (by simp [hnot])]
  · have h := isSample_sampleOf peaks
    refine ⟨⟨fun hn => by rwa [hn] at h, fun hall => ?_⟩, fun r hr => by rwa [hr] at h⟩
    cases hs : sampleOf peaks with
    | none => rfl
    | some r =>
      rw [hs] at h
      obtain ⟨⟨p, hp, q, hq, -⟩, -, -⟩ := h
      simp [hall p hp] at hq
  · intro s zone z hz heads co no2 a t
    have hheads : decide (heads ≠ []) = !heads.isEmpty := by cases heads <;> simp
    have ha : (s.airStep zone z).air = a := by
      show (evaluateAir z.settings (!heads.isEmpty) co no2 z.air).air = (evaluateAir z.settings (decide (heads ≠ [])) co no2 z.air).air
      rw [hheads]
    have hget := State.evaluateZone_get hz
    have ht : t = _ := State.evaluateZone_eq hz
    have hsome : heads ≠ [] → a = (evaluateAir z.settings true co no2 z.air).air := fun h => by simp [a, h]
    have hnone : heads = [] → a = (evaluateAir z.settings false co no2 z.air).air := fun h => by simp [a, h]
    obtain ⟨hblind, hseen⟩ := evaluateAir_blind z.settings co no2 z.air
    refine ⟨?_, fun k hk => by rw [hget, if_neg hk], State.evaluateZone_nodes hz, rfl, rfl, rfl, fun h => ?_, rfl, rfl,
      fun h => ?_, fun h hc hn => ?_, fun h => hseen _ h, ?_, rfl, fun h => ?_, fun h => ?_, fun k => ?_, fun p hf ho => ?_,
      fun p hf ho => ?_, fun p hf hb ho => ?_, (s.evaluateZone_keeps zone).mono (by decide)⟩
    · rw [hget, if_pos rfl, State.airZone, Zone.withFume_eq, ha]
      simp only [Zone.airDue, decide_not]
      rfl
    · rw [hnone h]
      exact ⟨rfl, rfl, rfl, rfl, rfl⟩
    · rw [hsome h]
      exact ⟨rfl, rfl⟩
    · rw [hsome h]
      exact hblind hc hn
    · intro demand h
      have hd : ∀ g average, demand g average = gasDemandOf g a.blind z.settings.blindDemand average := fun g average => by
        cases hb : a.blind <;> cases average <;> simp [demand, gasDemandOf, hb]
      rw [hd, hd, hsome h]
      rfl
    · exact if_pos h
    · exact if_neg h
    · have hfans := State.evaluateZone_fans hz
      rw [ha] at hfans
      rw [hfans]
      have hcond : (z.air.fume ≠ a.fume ∧ (z.air.fume = .fume ∨ a.fume = .fume)) ↔
          decide (a.fume = .fume) ≠ decide (z.air.fume = .fume) := by
        cases z.air.fume <;> cases a.fume <;> decide
      by_cases hc : z.air.fume ≠ a.fume ∧ (z.air.fume = .fume ∨ a.fume = .fume)
      · rw [if_pos hc, Table.get_update]
        congr 1
        funext g
        exact if_congr (and_iff_right (hcond.1 hc)).symm rfl rfl
      · have hid : ∀ (f : Fan → Fan) (p : Fan → Prop) [DecidablePred p],
            (fun g => if decide (a.fume = .fume) ≠ decide (z.air.fume = .fume) ∧ p g then f g else g) = id := fun f p _ =>
          funext fun g => if_neg fun h => hc (hcond.2 h.1)
        rw [if_neg hc, hid, Option.map_id]
        rfl
    · rw [ht, State.fumeEffects_airItem, ha, if_neg (by rw [hf]; exact ho), if_pos hf]
    · rw [ht, State.fumeEffects_airItem, ha, if_neg (by rw [ho]; exact Ne.symm hf), if_neg hf, if_pos ho]
    · rw [ht, State.fumeEffects_airItem, ha, if_pos hf.symm, State.evaluated, if_pos ?_]
      · exact State.raise_raised _ .air zone _ p
      · exact evaluateAir_toBlind (by rw [← ha] at hb; exact hb) ho

end Sys2Proof.Machine

/-! ## Proofs: rounds and visits (R157, R158) -/

namespace Sys2Proof.Machine

/-! ### The next node of a round -/

theorem Node.inRounds_iff {n : Node} :
    n.inRounds = true ↔ n.liveness = .live ∨ n.liveness = .unseen ∨ (n.liveness = .silent ∧ n.due = true) := by
  unfold Node.inRounds
  cases n.liveness <;> simp

theorem State.nodeAt_of_get {s : State} (hp : s.placesSound) {m : Nat} {n : Node} (h : Table.get s.nodes m = some n) :
    s.nodeAt n.span n.address = some m := by
  have hmem := Table.mem_of_get h
  unfold State.nodeAt
  cases hf : Table.find (fun _ n' => decide (n'.span = n.span) && decide (n'.address = n.address)) s.nodes with
  | none =>
    have := Table.find_none hf (m, n) hmem
    simp at this
  | some k =>
    obtain ⟨a, ha, he⟩ := Table.find_some hf
    simp only [Bool.and_eq_true, decide_eq_true_eq] at he
    exact congrArg (fun e : Nat × Node => some e.1) (hp.nodesApart _ ha _ hmem (Prod.ext he.1 he.2))

theorem State.get_of_nodeAt {s : State} (hw : s.tablesSound) {i : SpanId} {a m : Nat} (h : s.nodeAt i a = some m) :
    ∃ n, Table.get s.nodes m = some n ∧ n.span = i ∧ n.address = a := by
  obtain ⟨n, hn, he⟩ := Table.find_some h
  simp only [Bool.and_eq_true, decide_eq_true_eq] at he
  exact ⟨n, Table.get_of_mem hw.nodes.1 hn, he⟩

/-- R157: the node a list of addresses gives, by the addresses whose node a round visits. -/
theorem State.firstVisited_some {s : State} (hw : s.tablesSound) {i : SpanId} {l : List Nat} (hl : l.Pairwise (· < ·)) {m : Nat}
    (h : s.firstVisited i l = some m) : ∃ n, Table.get s.nodes m = some n ∧ n.span = i ∧ n.address ∈ l ∧ n.inRounds = true ∧
      ∀ a ∈ l, ∀ m' n', s.nodeAt i a = some m' → Table.get s.nodes m' = some n' → n'.inRounds = true → n.address ≤ a := by
  induction l with
  | nil => simp [State.firstVisited] at h
  | cons a l ih =>
    obtain ⟨hlt, hl⟩ := List.pairwise_cons.1 hl
    have later : s.firstVisited i l = some m → (∀ m' n', s.nodeAt i a = some m' → Table.get s.nodes m' = some n' →
        n'.inRounds = false) → ∃ n, Table.get s.nodes m = some n ∧ n.span = i ∧ n.address ∈ a :: l ∧ n.inRounds = true ∧
        ∀ a' ∈ a :: l, ∀ m' n', s.nodeAt i a' = some m' → Table.get s.nodes m' = some n' → n'.inRounds = true →
          n.address ≤ a' := fun h hno => by
      obtain ⟨n, hget, hspan, hin, hround, hmin⟩ := ih hl h
      refine ⟨n, hget, hspan, List.mem_cons_of_mem a hin, hround, fun a' ha' m' n' hat hget' hr' => ?_⟩
      rcases List.mem_cons.1 ha' with rfl | ha'
      · simp [hno m' n' hat hget'] at hr'
      · exact hmin a' ha' m' n' hat hget' hr'
    unfold State.firstVisited at h
    cases hat : s.nodeAt i a with
    | none =>
      simp only [hat] at h
      exact later h fun m' n' hat' => by simp [hat] at hat'
    | some k =>
      obtain ⟨n, hget, hspan, haddr⟩ := State.get_of_nodeAt hw hat
      simp only [hat, hget, Option.any_some] at h
      by_cases hr : n.inRounds = true
      · rw [if_pos hr] at h
        obtain rfl := Option.some.inj h
        refine ⟨n, hget, hspan, haddr ▸ List.mem_cons_self, hr, fun a' ha' _ _ _ _ _ => ?_⟩
        rcases List.mem_cons.1 ha' with rfl | ha'
        · exact Nat.le_of_eq haddr
        · exact haddr ▸ Nat.le_of_lt (hlt a' ha')
      · rw [if_neg hr] at h
        refine later h fun m' n' hat' hget' => ?_
        obtain rfl := Option.some.inj (hat.symm.trans hat')
        obtain rfl := Option.some.inj (hget.symm.trans hget')
        simpa using hr

theorem State.firstVisited_none {s : State} {i : SpanId} {l : List Nat} (h : s.firstVisited i l = none) :
    ∀ a ∈ l, ∀ m n, s.nodeAt i a = some m → Table.get s.nodes m = some n → n.inRounds = false := by
  induction l with
  | nil => simp
  | cons a l ih =>
    intro a' ha' m n hat hget
    unfold State.firstVisited at h
    rcases List.mem_cons.1 ha' with rfl | ha'
    · simp only [hat, hget, Option.any_some] at h
      by_contra hr
      rw [if_pos (by simpa using hr)] at h
      simp at h
    · refine ih ?_ a' ha' m n hat hget
      cases hat' : s.nodeAt i a with
      | none => simpa [hat'] using h
      | some k =>
        simp only [hat'] at h
        split at h
        · simp at h
        · exact h

/-- The addresses above a position. -/
theorem mem_addressesAbove {position : Option Nat} {a : Nat} (h1 : 1 ≤ a) (h2 : a ≤ 126) :
    a ∈ (List.range 127).filter (fun a => decide (position.getD 0 < a)) ↔ ∀ x, position = some x → x < a := by
  cases position <;> simp <;> omega

theorem State.nextNode_eq (s : State) (i : SpanId) : s.nextNode i =
    s.firstVisited i ((List.range 127).filter (fun a => decide ((s.span i).position.getD 0 < a))) := by
  unfold State.nextNode
  cases (s.span i).position <;> rfl

/-- R157: the next node is the visited one with the lowest address above the position. -/
theorem State.nextNode_some {s : State} (hw : s.tablesSound) (hp : s.placesSound) {i : SpanId} {m : Nat}
    (h : s.nextNode i = some m) : ∃ n, Table.get s.nodes m = some n ∧ n.span = i ∧ n.inRounds = true ∧
      (∀ a, (s.span i).position = some a → a < n.address) ∧
      ∀ m' n', Table.get s.nodes m' = some n' → n'.span = i → n'.inRounds = true →
        (∀ a, (s.span i).position = some a → a < n'.address) → n.address ≤ n'.address := by
  rw [State.nextNode_eq] at h
  obtain ⟨n, hget, hspan, hin, hround, hmin⟩ := State.firstVisited_some hw (List.pairwise_lt_range.filter _) h
  obtain ⟨h1, h2⟩ := hp.addresses _ (Table.mem_of_get hget)
  refine ⟨n, hget, hspan, hround, (mem_addressesAbove h1 h2).1 hin, fun m' n' hget' hspan' hr' habove => ?_⟩
  obtain ⟨h1', h2'⟩ := hp.addresses _ (Table.mem_of_get hget')
  exact hmin _ ((mem_addressesAbove h1' h2').2 habove) m' n' (hspan' ▸ State.nodeAt_of_get hp hget') hget' hr'

theorem State.nextNode_none_iff {s : State} (hw : s.tablesSound) (hp : s.placesSound) {i : SpanId} :
    s.nextNode i = none ↔ ¬s.nodeLeft i (s.span i).position := by
  constructor
  · rintro h ⟨e, he, hspan, hround, habove⟩
    rw [State.nextNode_eq] at h
    have hget : Table.get s.nodes e.1 = some e.2 := Table.get_of_mem hw.nodes.1 he
    obtain ⟨h1, h2⟩ := hp.addresses e he
    have := State.firstVisited_none h _ ((mem_addressesAbove h1 h2).2 habove) e.1 e.2
      (hspan ▸ State.nodeAt_of_get hp hget) hget
    simp [Node.inRounds_iff.2 hround] at this
  · intro h
    by_contra hne
    obtain ⟨m, hm⟩ := Option.ne_none_iff_exists'.1 hne
    obtain ⟨n, hget, hspan, hround, habove, -⟩ := State.nextNode_some hw hp hm
    exact h ⟨(m, n), Table.mem_of_get hget, hspan, Node.inRounds_iff.1 hround, habove⟩

/-- R157: the one node of the round with the lowest address above the position is the next. -/
theorem State.nextNode_of_lowest {s : State} (hw : s.tablesSound) (hp : s.placesSound) {i : SpanId} {m : Nat} {n : Node}
    (hget : Table.get s.nodes m = some n) (hspan : n.span = i) (hround : n.inRounds = true)
    (habove : ∀ a, (s.span i).position = some a → a < n.address)
    (hmin : ∀ m' n', Table.get s.nodes m' = some n' → n'.span = i → n'.inRounds = true →
      (∀ a, (s.span i).position = some a → a < n'.address) → n.address ≤ n'.address) : s.nextNode i = some m := by
  cases hm : s.nextNode i with
  | none =>
    exact absurd ⟨(m, n), Table.mem_of_get hget, hspan, Node.inRounds_iff.1 hround, habove⟩
      ((State.nextNode_none_iff hw hp).1 hm)
  | some m' =>
    obtain ⟨n', hget', hspan', hround', habove', hmin'⟩ := State.nextNode_some hw hp hm
    have heq : n'.address = n.address :=
      Nat.le_antisymm (hmin' m n hget hspan hround habove) (hmin m' n' hget' hspan' hround' habove')
    have := hp.nodesApart _ (Table.mem_of_get hget') _ (Table.mem_of_get hget) (Prod.ext (hspan'.trans hspan.symm) heq)
    exact congrArg (fun e : Nat × Node => some e.1) this

/-! ### A round closed and begun -/

@[simp] theorem State.changeSpan_span (s : State) (i : SpanId) (f : Span → Span) : (s.changeSpan i f).span i = f (s.span i) :=
  s.withSpan_span i _

@[simp] theorem State.changeSpan_nodes (s : State) (i : SpanId) (f : Span → Span) : (s.changeSpan i f).nodes = s.nodes :=
  s.withSpan_nodes i _

theorem State.nodeLeft_congr {s t : State} (h : t.nodes = s.nodes) (i : SpanId) (position : Option Nat) :
    t.nodeLeft i position ↔ s.nodeLeft i position := by
  unfold State.nodeLeft
  rw [h]

theorem State.closeRound_nodes (s : State) (i : SpanId) : (s.closeRound i).nodes = s.nodes :=
  s.closeRound_keeps i .nodes (by cases i <;> simp)

/-- R157, R163: what closing a round makes of its span. -/
theorem State.closeRound_follows {s : State} (hw : s.tablesSound) (hp : s.placesSound) (i : SpanId) :
    (s.closeRound i).roundFollows i (s.span i) := by
  have hleft : (s.closeRound i).nodeLeft i (s.span i).position ↔ s.nodeLeft i (s.span i).position :=
    State.nodeLeft_congr (s.closeRound_nodes i) i _
  unfold State.roundFollows State.roundSettled
  rw [hleft]
  have hnone := State.nextNode_none_iff hw hp (i := i)
  split
  · next h =>
    obtain ⟨hstuck, hvisit, hround⟩ := h
    by_cases hn : s.nextNode i = none
    · have hspan : (s.closeRound i).span i = { s.span i with inRound := false, position := none } := by
        unfold State.closeRound
        rw [if_pos (by simp [Span.choosing, hstuck, hvisit, hround, hn]), State.changeSpan_span]
      rw [hspan]
      exact ⟨rfl, fun hl => absurd hl (hnone.1 hn), fun _ => ⟨rfl, rfl⟩⟩
    · have hsame : s.closeRound i = s := by
        unfold State.closeRound
        rw [if_neg (by simp [Option.isNone_iff_eq_none, hn])]
      rw [hsame]
      exact ⟨rfl, fun _ => ⟨hround, rfl⟩, fun hl => absurd (hnone.2 hl) hn⟩
  · next h =>
    have hsame : s.closeRound i = s := by
      unfold State.closeRound
      rw [if_neg]
      intro hc
      simp only [Span.choosing, Bool.and_eq_true, Option.isNone_iff_eq_none] at hc
      obtain ⟨⟨⟨h1, h2⟩, h3⟩, -⟩ := hc
      exact h ⟨h1, h2, h3⟩
    rw [hsame]

/-- What closing a round leaves of its span in any case. -/
theorem State.closeRound_only (s : State) (i : SpanId) :
    (s.closeRound i).span i = { s.span i with inRound := ((s.closeRound i).span i).inRound
                                              position := ((s.closeRound i).span i).position } ∧
    (((s.closeRound i).span i).inRound = (s.span i).inRound ∧ ((s.closeRound i).span i).position = (s.span i).position ∨
      ((s.closeRound i).span i).inRound = false ∧ ((s.closeRound i).span i).position = none) := by
  rcases s.closeRound_cases i with h | ⟨-, -, -, -, h⟩
  · rw [h]
    exact ⟨rfl, .inl ⟨rfl, rfl⟩⟩
  · rw [h, State.changeSpan_span]
    exact ⟨rfl, .inr ⟨rfl, rfl⟩⟩

/-- R157: the nodes as a round begins. -/
def State.revisited (s : State) (i : SpanId) : State :=
  s.withNodes (Table.update (fun _ n => if n.span = i then n.judgeRevisit s.settings.revisit else n) s.nodes)

theorem Node.judgeRevisit_at (revisit : Nat) (n : Node) : (n.judgeRevisit revisit).at = n.at := by
  unfold Node.judgeRevisit
  split
  · split <;> rfl
  · rfl

theorem State.revisited_kept (s : State) (i : SpanId) : s.Kept (s.revisited i) :=
  s.kept_updateNodes fun _ n => by
    split
    · exact n.judgeRevisit_at _
    · rfl

/-- The state of a span as its round begins, before it is closed. -/
theorem State.beginRound_eq (s : State) (i : SpanId) : s.beginRound i =
    ((s.revisited i).changeSpan i (fun p => { p with roundStart := s.ms, inRound := true, position := none })).closeRound i := rfl

theorem State.beginRound_nodes (s : State) (i : SpanId) (m : Nat) : Table.get (s.beginRound i).nodes m =
    (Table.get s.nodes m).map (fun n =>
      if n.span = i ∧ n.liveness = .silent then
        (if s.settings.revisit - 1 ≤ n.roundsPassed then { n with due := true, roundsPassed := 0 }
         else { n with due := false, roundsPassed := n.roundsPassed + 1 })
      else n) := by
  rw [State.beginRound_eq, State.closeRound_nodes, State.changeSpan_nodes]
  show Table.get (Table.update _ s.nodes) m = _
  rw [Table.get_update]
  congr 1
  funext n
  by_cases hs : n.span = i
  · simp [hs, Node.judgeRevisit]
  · simp [hs]

theorem State.beginRound_span (s : State) (i : SpanId) : ((s.beginRound i).span i) =
    { s.span i with
      roundStart := s.ms, inRound := ((s.beginRound i).span i).inRound, position := none } ∧
    ((s.span i).stuck ≠ none ∨ (s.span i).visit ≠ none → ((s.beginRound i).span i).inRound = true) := by
  have hspan : (s.revisited i).span i = s.span i := rfl
  obtain ⟨honly, hcase⟩ := ((s.revisited i).changeSpan i (fun p =>
    { p with roundStart := s.ms, inRound := true, position := none })).closeRound_only i
  rw [← State.beginRound_eq, State.changeSpan_span, hspan] at honly hcase
  have hpos : ((s.beginRound i).span i).position = none := by
    rcases hcase with ⟨-, h⟩ | ⟨-, h⟩ <;> exact h
  refine ⟨by rw [honly]; simp [hpos], fun hbusy => ?_⟩
  rw [State.beginRound_eq]
  unfold State.closeRound
  rw [if_neg]
  · simp
  · simp only [Span.choosing, State.changeSpan_span, Bool.and_eq_true, Option.isNone_iff_eq_none, not_and]
    intro h
    obtain ⟨⟨h1, h2⟩, -⟩ := h
    rcases hbusy with hb | hb
    · exact absurd h1 hb
    · exact absurd h2 hb

/-- R157: a round begun on a RUNNING span without a visit goes on while a node is left. -/
theorem State.beginRound_settled {s : State} (hw : s.tablesSound) (hp : s.placesSound) {i : SpanId}
    (hstuck : (s.span i).stuck = none) (hvisit : (s.span i).visit = none) : (s.beginRound i).roundSettled i none := by
  obtain ⟨hw1, -, -, hp1⟩ := s.revisited_kept i hw
  have hk : (s.revisited i).Kept ((s.revisited i).changeSpan i (fun p =>
      { p with roundStart := s.ms, inRound := true, position := none })) := (State.changeSpan_keeps _ _ _).kept
  obtain ⟨hw2, -, -, hp2⟩ := hk hw1
  have h := State.closeRound_follows hw2 (hp2 (hp1 hp)) i
  rw [← State.beginRound_eq] at h
  unfold State.roundFollows at h
  rw [State.changeSpan_span, if_pos ⟨hstuck, hvisit, rfl⟩] at h
  exact h.2

end Sys2Proof.Machine

/-! ## Proofs: RESTART takes effect (R185, R194) -/

namespace Sys2Proof.Machine

/-! ### The records as RESTART leaves them -/

theorem Table.update_fixed {α : Type} {f : Nat → α → α} {t : Table α} (h : ∀ e ∈ t, f e.1 e.2 = e.2) : Table.update f t = t := by
  induction t with
  | nil => rfl
  | cons e t ih =>
    obtain ⟨he, ht⟩ := List.forall_mem_cons.1 h
    rw [Table.update, he, ih ht]

theorem State.restartBlocks_bays (s : State) :
    s.restartBlocks.bays = Table.update (fun _ b => b.restarted s.seconds) s.bays := by
  have h1 : ∀ u : State, u.restartPorts.bays = u.bays := fun u => u.restartPorts_keeps .bays (by decide)
  have h2 : ∀ u : State, u.restartOutputs.bays = u.bays := fun u => u.restartOutputs_keeps .bays (by decide)
  have h3 : ∀ u : State, u.restartAir.bays = u.bays := fun u => u.restartAir_keeps .bays (by decide)
  have h4 : ∀ u : State, u.restartFans.bays = u.bays := fun u => u.restartFans_keeps .bays (by decide)
  rw [State.restartBlocks, h1, h2, h3, h4]
  rfl

theorem State.restartRecords_nodes (s : State) : s.restartRecords.nodes = Table.update (fun _ n => n.restarted) s.nodes := rfl

/-- R102, R73, R134, R153: what the later blocks read of the nodes is what the first left. -/
theorem State.restartAir_nodes (s : State) : s.restartFans.restartAir.nodes = s.nodes := by
  have h3 : s.restartFans.restartAir.nodes = s.restartFans.nodes := State.restartAir_keeps _ .nodes (by decide)
  rw [h3]
  exact s.restartFans_keeps .nodes (by decide)

theorem State.restartBlocks_nodes (s : State) : s.restartBlocks.nodes = Table.update (fun _ n => n.restarted) s.nodes := by
  have h1 : ∀ u : State, u.restartPorts.nodes = u.nodes := fun u => u.restartPorts_keeps .nodes (by decide)
  have h2 : ∀ u : State, u.restartOutputs.nodes = u.nodes := fun u => u.restartOutputs_keeps .nodes (by decide)
  rw [State.restartBlocks, h1, h2, State.restartAir_nodes, State.restartRecords_nodes]

theorem Node.restarted_liveness (n : Node) : n.restarted.liveness = .suspended ∨ n.restarted.liveness = .unseen := by
  unfold Node.restarted
  dsimp only
  split
  · exact .inl rfl
  · exact .inr rfl

/-- R172: no node is SILENT after RESTART. -/
theorem State.restartBlocks_notSilent (s : State) : ∀ e ∈ s.restartBlocks.nodes, e.2.liveness ≠ .silent := fun e he => by
  rw [State.restartBlocks_nodes] at he
  obtain ⟨n, -, hn⟩ := Table.mem_update he
  rw [hn]
  rcases n.restarted_liveness with h | h <;> simp [h]

/-- R77, R102: without a report and a SILENT node, a drive is failed while its node is SUSPENDED. -/
theorem State.driveFailed_blank {s : State} (h : ∀ e ∈ s.nodes, e.2.liveness ≠ .silent) {d : Drive} (hd : d.report = none) :
    s.driveFailed d = (Table.get s.nodes d.node).any (fun n => decide (n.liveness = .suspended)) := by
  unfold State.driveFailed
  rw [hd]
  cases hget : Table.get s.nodes d.node with
  | none => rfl
  | some n => simp [h _ (Table.mem_of_get hget)]

/-! ### A group judged by RESTART -/

/-- R102: what the judging of RESTART makes of a group whose state is ISOLATED or STOPPED. -/
theorem State.restartJudged_spec (s : State) (g : Fan) :
    ((s.restartJudged g).degraded = true ↔ (∃ d ∈ g.drives, s.driveFailed d = true) ∧ ∃ d ∈ g.drives, ¬s.driveFailed d = true) ∧
    ((∀ d ∈ g.drives, s.driveFailed d = true) ∧ g.drives ≠ [] → g.state = .stopped →
      (s.restartJudged g).state = .fault ∧ (s.restartJudged g).faultCause = some .allDrives) ∧
    (¬((∀ d ∈ g.drives, s.driveFailed d = true) ∧ g.drives ≠ []) ∨ g.state ≠ .stopped →
      (s.restartJudged g).state = g.state ∧ (s.restartJudged g).faultCause = g.faultCause) := by
  have hall : ((!g.drives.all (fun d => !s.driveFailed d)) && g.drives.all s.driveFailed) = true ↔
      (∀ d ∈ g.drives, s.driveFailed d = true) ∧ g.drives ≠ [] := by
    cases g.drives with
    | nil => simp
    | cons d ds => simp; tauto
  refine ⟨?_, fun hf hst => ?_, fun hno => ?_⟩
  · show ((!g.drives.all (fun d => !s.driveFailed d)) &&
      !((!g.drives.all (fun d => !s.driveFailed d)) && g.drives.all s.driveFailed)) = true ↔ _
    simp only [Bool.and_eq_true, Bool.not_eq_true', List.all_eq_false, Bool.not_eq_true, Bool.not_eq_false', Bool.and_eq_false_iff,
      Bool.not_eq_false, List.all_eq_true]
    constructor
    · rintro ⟨h1, h2 | h2⟩
      · obtain ⟨d, hd, hf⟩ := h1
        simp [h2 d hd] at hf
      · exact ⟨h1, h2⟩
    · exact fun ⟨h1, h2⟩ => ⟨h1, .inr h2⟩
  · have := hall.2 hf
    unfold State.restartJudged
    simp only [this, hst, decide_true, Bool.and_self, if_true, and_self]
  · have hfalse : ((!g.drives.all (fun d => !s.driveFailed d)) && g.drives.all s.driveFailed && decide (g.state = .stopped)) = false := by
      rw [Bool.eq_false_iff, Ne, Bool.and_eq_true, hall, decide_eq_true_eq]
      rintro ⟨h1, h2⟩
      exact hno.elim (· h1) (· h2)
    unfold State.restartJudged
    simp only [hfalse, Bool.false_eq_true, if_false, and_self]

/-! ### The ports and the spans -/

theorem State.restartPorts_port (s : State) (p : Port) : (s.restartPorts.port p).waiting = none ∧
    (s.restartPorts.port p).receiver = (s.port p).receiver ∧ (s.restartPorts.port p).service = (s.port p).service ∧
    (s.restartPorts.port p).att =
      { fire := if s.fire.taken then [(0, .asserted)] else [], air := [], fan := [], node := [], bay := []
        link := [], enables := (s.port p).att.enables } := by
  have hport : State.port { s with main := s.main.restarted, panel := s.panel.restarted } p = (s.port p).restarted := by
    cases p <;> rfl
  unfold State.restartPorts State.fireActive
  dsimp only
  split
  · next h =>
    rw [State.raise_port, hport]
    exact ⟨rfl, rfl, rfl, rfl⟩
  · next h =>
    rw [hport]
    exact ⟨rfl, rfl, rfl, rfl⟩

/-- R157: where no node is SILENT, a round that begins leaves every node as it is. -/
theorem State.beginRound_nodes_stand {s : State} (h : ∀ e ∈ s.nodes, e.2.liveness ≠ .silent) (i : SpanId) :
    (s.beginRound i).nodes = s.nodes := by
  rw [State.beginRound_eq, State.closeRound_nodes, State.changeSpan_nodes]
  refine Table.update_fixed fun e he => ?_
  split
  · rw [Node.judgeRevisit, if_neg (h e he)]
  · rfl

/-- R172: what RESTART makes of a span. -/
def State.SpanRestarted (s t : State) (i : SpanId) : Prop :=
  let p : Span := { s.span i with
    stuck := none, position := none, watchFrom := if (s.span i).stuck = none then (s.span i).watchFrom else s.ms }
  ((s.span i).visit = none →
    t.span i = { p with roundStart := s.ms, inRound := (t.span i).inRound } ∧
    (s.tablesSound → s.placesSound → t.roundSettled i none)) ∧
  ∀ v, (s.span i).visit = some v → t.span i = { p with visit := some v.restarted }

theorem State.SpanRestarted.before {s u t : State} {i : SpanId} (h : u.SpanRestarted t i) (hspan : u.span i = s.span i)
    (hms : u.ms = s.ms) (hk : s.Kept u) : s.SpanRestarted t i := by
  obtain ⟨h1, h2⟩ := h
  rw [hspan, hms] at h1 h2
  refine ⟨fun hv => ?_, h2⟩
  obtain ⟨hp, hr⟩ := h1 hv
  refine ⟨hp, fun hw hpl => ?_⟩
  obtain ⟨hw', -, -, hpl'⟩ := hk hw
  exact hr hw' (hpl' hpl)

theorem State.SpanRestarted.after {s u t : State} {i : SpanId} (h : s.SpanRestarted u i) (hspan : t.span i = u.span i)
    (hnodes : t.nodes = u.nodes) : s.SpanRestarted t i := by
  obtain ⟨h1, h2⟩ := h
  rw [State.SpanRestarted, hspan]
  refine ⟨fun hv => ?_, h2⟩
  obtain ⟨hp, hr⟩ := h1 hv
  refine ⟨hp, fun hw hpl => ?_⟩
  have hs := hr hw hpl
  unfold State.roundSettled at hs ⊢
  rw [State.nodeLeft_congr hnodes, hspan]
  exact hs

theorem State.restartSpan_spanRestarted (s : State) (i : SpanId) : s.SpanRestarted (s.restartSpan i) i := by
  have hwatch : (if (s.span i).stuck.isSome then s.ms else (s.span i).watchFrom) =
      if (s.span i).stuck = none then (s.span i).watchFrom else s.ms := by
    cases (s.span i).stuck <;> rfl
  obtain ⟨u, hu⟩ : ∃ u, u = s.changeSpan i (fun p =>
    { p with
      stuck := none, position := none, visit := p.visit.map Visit.restarted
      watchFrom := if p.stuck.isSome then s.ms else p.watchFrom }) := ⟨_, rfl⟩
  have hspan : u.span i = { s.span i with
      stuck := none, position := none, visit := (s.span i).visit.map Visit.restarted
      watchFrom := if (s.span i).stuck = none then (s.span i).watchFrom else s.ms } := by
    rw [hu, State.changeSpan_span, hwatch]
  have hms : u.ms = s.ms := by rw [hu]; exact s.changeSpan_keeps i _ .ms (by simp)
  have heq : s.restartSpan i = if (u.span i).visit.isNone then u.beginRound i else u := by rw [hu]; rfl
  rw [heq]
  refine ⟨fun hv => ?_, fun v hv => ?_⟩
  · have hvisit : (u.span i).visit = none := by rw [hspan, hv]; rfl
    rw [hvisit, Option.isNone_none, if_pos rfl]
    refine ⟨?_, fun hw hp => ?_⟩
    · rw [(u.beginRound_span i).1, hspan, hms, hv]
      rfl
    · have hk : s.Kept u := by rw [hu]; exact (s.changeSpan_keeps i _).kept
      obtain ⟨hw', -, -, hp'⟩ := hk hw
      exact State.beginRound_settled hw' (hp' hp) (by rw [hspan]) hvisit
  · have hvisit : (u.span i).visit = some v.restarted := by rw [hspan, hv]; rfl
    rw [hvisit, if_neg (by simp), hspan, hv]
    rfl

/-- Where no node is SILENT, a span restarted leaves the nodes. -/
theorem State.restartSpan_nodes {s : State} (h : ∀ e ∈ s.nodes, e.2.liveness ≠ .silent) (i : SpanId) :
    (s.restartSpan i).nodes = s.nodes := by
  unfold State.restartSpan
  dsimp only
  split
  · rw [State.beginRound_nodes_stand (by rw [State.changeSpan_nodes]; exact h), State.changeSpan_nodes]
  · exact s.changeSpan_nodes i _

/-- R172: the four spans restarted. -/
def State.restartSpans (s : State) : State :=
  (((s.restartSpan .span0).restartSpan .span1).restartSpan .span2).restartSpan .span3

theorem State.restartEffect_eq (s : State) : s.restartEffect = s.restartBlocks.restartSpans := rfl

theorem State.restartSpans_spec {s : State} (h : ∀ e ∈ s.nodes, e.2.liveness ≠ .silent) :
    s.keepsBut s.restartSpans [.span .span0, .span .span1, .span .span2, .span .span3] ∧
    ∀ i, s.SpanRestarted s.restartSpans i := by
  have one : ∀ (u : State) (i : SpanId), (∀ e ∈ u.nodes, e.2.liveness ≠ .silent) →
      u.keepsBut (u.restartSpan i) [.span i] ∧ (∀ e ∈ (u.restartSpan i).nodes, e.2.liveness ≠ .silent) := fun u i hu => by
    have hnodes := State.restartSpan_nodes hu i
    refine ⟨fun f hf => ?_, by rw [hnodes]; exact hu⟩
    by_cases hn : f = .nodes
    · subst hn; exact hnodes
    · exact u.restartSpan_keeps i f (by simp [hn] at hf ⊢; exact hf)
  obtain ⟨k0, h0⟩ := one s .span0 h
  obtain ⟨k1, h1⟩ := one _ .span1 h0
  obtain ⟨k2, h2⟩ := one _ .span2 h1
  obtain ⟨k3, h3⟩ := one _ .span3 h2
  have k01 := k0.seq k1 (n := [.span .span0, .span .span1]) (by decide) (by decide)
  have k02 := k01.seq k2 (n := [.span .span0, .span .span1, .span .span2]) (by decide) (by decide)
  have k03 := k02.seq k3 (n := [.span .span0, .span .span1, .span .span2, .span .span3]) (by decide) (by decide)
  have k23 := k2.seq k3 (n := [.span .span2, .span .span3]) (by decide) (by decide)
  have k13 := k1.seq k23 (n := [.span .span1, .span .span2, .span .span3]) (by decide) (by decide)
  refine ⟨k03, fun i => ?_⟩
  cases i with
  | span0 => exact (s.restartSpan_spanRestarted .span0).after (k13 (.span .span0) (by decide)) (k13 .nodes (by decide))
  | span1 =>
    exact ((State.restartSpan_spanRestarted _ .span1).before (k0 (.span .span1) (by decide)) (k0 .ms (by decide)) k0.kept).after
      (k23 (.span .span1) (by decide)) (k23 .nodes (by decide))
  | span2 =>
    exact ((State.restartSpan_spanRestarted _ .span2).before (k01 (.span .span2) (by decide)) (k01 .ms (by decide)) k01.kept).after
      (k3 (.span .span2) (by decide)) (k3 .nodes (by decide))
  | span3 => exact (State.restartSpan_spanRestarted _ .span3).before (k02 (.span .span3) (by decide)) (k02 .ms (by decide)) k02.kept

/-! ### The blocks together -/

theorem Table.countOf_update {α : Type} (f : Nat → α → α) (p : Nat → α → Bool) (t : Table α) (h : ∀ k a, p k (f k a) = p k a) :
    Table.countOf (Table.update f t) p = Table.countOf t p := by
  unfold Table.countOf
  induction t with
  | nil => rfl
  | cons e t ih => simp only [Table.update, List.filter_cons, h]; split <;> simp [ih]

/-- R46, R73: a zone as RESTART leaves it, part by part. -/
theorem State.restartBlocks_zone {s : State} {k : Nat} {z : Zone} (h : Table.get s.zones k = some z) :
    ∃ z', Table.get s.restartBlocks.zones k = some z' ∧ z'.level = z.level ∧ z'.settings = z.settings ∧
      z'.causes = { operator := z.causes.operator, fume := false, air := false, fire := s.fire.taken } ∧
      z'.free = { general := 0, family := 0, accessible := 0, charger := 0 } ∧
      z'.fill = judgeFill z.fill 0 z.settings.fullAt z.settings.hysteresis ∧
      z'.total = Table.countOf s.bays (fun _ b => decide (b.zone = k)) ∧
      z'.tallies = { unknown := z'.total, free := 0, reserved := 0, arriving := 0, occupied := 0, leaving := 0 } ∧
      z'.air = { AirState.start z.settings.minDemand with status := s.restartBlocks.airStatusOf k } := by
  have hbays : s.restartRecords.bays = Table.update (fun _ b => b.restarted s.seconds) s.bays := rfl
  refine ⟨s.restartedZone k z, by rw [State.restartBlocks_zones_get, h]; rfl, rfl, rfl, rfl, rfl, rfl, ?_, rfl, ?_⟩
  · refine Eq.trans (b := Table.countOf s.restartRecords.bays (fun _ b => decide (b.zone = k))) rfl ?_
    rw [hbays]
    exact Table.countOf_update _ _ _ fun _ _ => rfl
  · rw [State.restartBlocks_status]
    rfl

/-- R85: what RESTART leaves last of the zones gives the targets it gave the groups before. -/
theorem State.restartBlocks_targetOf (s : State) (g : Fan) : s.restartBlocks.targetOf g = s.restartRecords.targetOf g := by
  have hrecords : ∀ k, Table.get s.restartRecords.zones k = (Table.get s.zones k).map (fun z =>
      z.restarted (Table.countOf s.restartRecords.bays (fun _ b => decide (b.zone = k))) s.fire.taken) := fun k =>
    Table.get_update _ _ _
  refine State.targetOf_congr_air (fun k => ?_) g
  rw [State.restartBlocks_zones_get, hrecords, Option.map_map, Option.map_map]
  rfl

/-- R102: a group as RESTART leaves it, part by part. -/
theorem State.restartBlocks_fan {s : State} {k : Nat} {g : Fan} (h : Table.get s.fans k = some g) :
    ∃ g', Table.get s.restartBlocks.fans k = some g' ∧
      g'.served = g.served ∧ g'.settings = g.settings ∧
      g'.drives = g.drives.map (fun d => { node := d.node, report := none }) ∧
      g'.commanded = 0 ∧ g'.grantedAt = none ∧ g'.proof = none ∧
      (let failed := fun d : Drive => s.restartBlocks.driveFailed d = true
       let all := (∀ d ∈ g'.drives, failed d) ∧ g'.drives ≠ []
       (g'.degraded = true ↔ (∃ d ∈ g'.drives, failed d) ∧ ∃ d ∈ g'.drives, ¬failed d) ∧
       (g.state = .isolated → g'.state = .isolated ∧ g'.faultCause = none) ∧
       (g.state ≠ .isolated →
         (all → g'.state = .fault ∧ g'.faultCause = some .allDrives) ∧
         (¬all → g'.state = .stopped ∧ g'.faultCause = none))) ∧
      (∀ d ∈ g'.drives, s.restartBlocks.driveFailed d =
        (Table.get s.restartBlocks.nodes d.node).any (fun n => decide (n.liveness = .suspended))) ∧
      g'.target = s.restartBlocks.targetOf g' ∧
      g'.stack = if s.fire.taken
        then [{ cls := .fire, expiry := none, tag := 0
                level := if s.fire.zone.any (fun z => g.served.getLsbD z) then g.settings.fireIn else g.settings.fireOut }]
        else [] := by
  obtain ⟨f, hf⟩ : ∃ f, f = if s.fireActive then some s.fire else none := ⟨_, rfl⟩
  have hfailed : s.restartBlocks.driveFailed = s.restartRecords.driveFailed :=
    State.driveFailed_congr (by rw [State.restartBlocks_nodes]; rfl)
  have hblank : ∀ d ∈ (g.restarted f).drives, d.report = none := fun d hd => by
    obtain ⟨d', -, rfl⟩ := List.mem_map.1 hd
    rfl
  have hstate : (g.restarted f).state = if g.state = .isolated then .isolated else .stopped := rfl
  obtain ⟨hdeg, hfault, hstand⟩ := s.restartRecords.restartJudged_spec (g.restarted f)
  rw [← hfailed] at hdeg hfault hstand
  refine ⟨s.restartRecords.restartJudged (g.restarted f), ?_, rfl, rfl, rfl, rfl, rfl, rfl, ⟨hdeg, fun hiso => ?_, fun hniso =>
    ⟨fun hall => hfault hall (by rw [hstate, if_neg hniso]), fun hno => ?_⟩⟩, fun d hd => ?_, ?_, ?_⟩
  · rw [State.restartBlocks_fans, Table.get_update, Table.get_update, h, ← hf]
    rfl
  · obtain ⟨h1, h2⟩ := hstand (.inr (by rw [hstate, if_pos hiso]; simp))
    exact ⟨by rw [h1, hstate, if_pos hiso], h2⟩
  · obtain ⟨h1, h2⟩ := hstand (.inl hno)
    exact ⟨by rw [h1, hstate, if_neg hniso], h2⟩
  · exact State.driveFailed_blank s.restartBlocks_notSilent (hblank d hd)
  · rw [State.restartBlocks_targetOf]
    rfl
  · show (g.restarted f).stack = _
    rw [hf]
    unfold State.fireActive
    cases s.fire.taken <;> rfl

/-- What the outputs' blocks read of the state, and the earlier blocks leave. -/
theorem State.restartAir_keeps_outputs (s : State) : s.keepsBut s.restartRecords.restartFans.restartAir
    [.bays, .zones, .nodes, .fans, .queue, .slot, .fanNext, .airNext] :=
  ((s.restartRecords_keeps.mono (by decide)).trans ((State.restartFans_keeps _).mono (by decide))).trans
    ((State.restartAir_keeps _).mono (by decide))

/-- R153: a luminaire group as RESTART leaves it. -/
theorem State.restartBlocks_light {s : State} {k : Nat} {l : Light} (h : Table.get s.lights k = some l) :
    ∃ l', Table.get s.restartBlocks.lights k = some l' ∧ l'.zone = l.zone ∧ l'.node = l.node ∧ l'.settings = l.settings ∧
      l'.ovr = none ∧ l'.applied = none ∧ l'.failedLamps = none ∧
      l'.unseen = (Table.get s.restartBlocks.nodes l.node).any (fun n => decide (n.liveness = .suspended)) ∧
      (if s.fire.taken then l'.state = .forced ∧ l'.level = 100 ∧ l'.holdExpiry = none
       else l'.state = .active ∧ l'.level = l.settings.active ∧
        l'.holdExpiry = some (s.seconds + BitVec.ofNat 32 l.settings.hold)) := by
  obtain ⟨u, hu⟩ : ∃ u, u = s.restartRecords.restartFans.restartAir := ⟨_, rfl⟩
  have hlights : u.lights = s.lights := by rw [hu]; exact s.restartAir_keeps_outputs .lights (by decide)
  have hfire : u.fire = s.fire := by rw [hu]; exact s.restartAir_keeps_outputs .fire (by decide)
  have hsec : u.seconds = s.seconds := by rw [hu]; exact s.restartAir_keeps_outputs .seconds (by decide)
  have hnodes : s.restartBlocks.nodes = u.nodes := by
    rw [State.restartBlocks_nodes, hu, State.restartAir_nodes, State.restartRecords_nodes]
  have hblocks : s.restartBlocks.lights = u.restartOutputs.lights := by
    rw [hu]; exact State.restartPorts_keeps _ .lights (by decide)
  have hout : u.restartOutputs.lights =
      Table.update (fun _ l => ((u.withFireFlag u.fireActive).withFumeSet 0).restartedLight l) u.lights := rfl
  rw [hblocks, hout, Table.get_update, hlights, h, hnodes]
  have hrestart : ((u.withFireFlag u.fireActive).withFumeSet 0).restartedLight l =
      { l with ovr := none, applied := none, failedLamps := none, unseen := u.suspended l.node }.settled
        s.fire.taken s.seconds := by
    rw [← hfire, ← hsec]; rfl
  refine ⟨_, congrArg some hrestart, ?_⟩
  cases s.fire.taken
  · exact ⟨rfl, rfl, rfl, rfl, rfl, rfl, rfl, rfl, rfl, rfl⟩
  · exact ⟨rfl, rfl, rfl, rfl, rfl, rfl, rfl, rfl, rfl, rfl⟩

/-- R134: a sign as RESTART leaves it. -/
theorem State.restartBlocks_sign {s : State} {k : Nat} {g : Sign} (h : Table.get s.signs k = some g) :
    ∃ g', Table.get s.restartBlocks.signs k = some g' ∧ g'.config = g.config ∧
      g'.content = s.restartBlocks.contentOf g.config ∧ g'.accepted = none ∧ g'.sent = none ∧ g'.dirty = true ∧
      g'.displayFault = none ∧
      g'.unseen = (Table.get s.restartBlocks.nodes g.config.node).any (fun n => decide (n.liveness = .suspended)) := by
  obtain ⟨u, hu⟩ : ∃ u, u = s.restartRecords.restartFans.restartAir := ⟨_, rfl⟩
  obtain ⟨v, hsigns, hzones, hv⟩ := u.restartOutputs_eq
  have hvsigns : v.signs = s.signs := by rw [hsigns, hu]; exact s.restartAir_keeps_outputs .signs (by decide)
  have hports : s.restartBlocks = u.restartOutputs.restartPorts := by rw [hu]; rfl
  have hkeeps := u.restartOutputs.restartPorts_keeps
  have hblocks : s.restartBlocks.signs = Table.update (fun _ g => v.restartedSign g) v.signs := by
    rw [hports, show u.restartOutputs.restartPorts.signs = _ from hkeeps .signs (by decide), hv]
    rfl
  have hnodes : s.restartBlocks.nodes = v.nodes := by
    rw [hports, show u.restartOutputs.restartPorts.nodes = _ from hkeeps .nodes (by decide), hv]
    rfl
  have hcontent : s.restartBlocks.contentOf = v.contentOf := by
    refine State.contentOf_congr_zones ?_ ?_
    · rw [hports, show u.restartOutputs.restartPorts.zones = _ from hkeeps .zones (by decide), hv]
      rfl
    · rw [hports, show u.restartOutputs.restartPorts.fire = _ from hkeeps .fire (by decide), hv]
      rfl
  rw [hblocks, Table.get_update, hvsigns, h, hnodes, hcontent]
  exact ⟨_, rfl, rfl, rfl, rfl, rfl, rfl, rfl, rfl⟩

theorem State.restartFans_timers (s : State) : s.restartFans.slot = none ∧
    s.restartFans.fanNext = s.seconds + BitVec.ofNat 32 s.settings.fanPeriod := ⟨rfl, rfl⟩

theorem State.restartAir_timer (s : State) : s.restartAir.airNext = s.seconds + BitVec.ofNat 32 s.settings.airPeriod := rfl

theorem State.restartOutputs_fumeSet (s : State) : s.restartOutputs.fumeSet = 0 := rfl

/-- R102, R73, R139: the controllers' own fields as RESTART leaves them. -/
theorem State.restartBlocks_fields (s : State) : s.restartBlocks.slot = none ∧ s.restartBlocks.fumeSet = 0 ∧
    s.restartBlocks.airNext = s.seconds + BitVec.ofNat 32 s.settings.airPeriod ∧
    s.restartBlocks.fanNext = s.seconds + BitVec.ofNat 32 s.settings.fanPeriod := by
  obtain ⟨r, hr⟩ : ∃ r, r = s.restartRecords := ⟨_, rfl⟩
  have hsec : r.seconds = s.seconds := by rw [hr]; exact s.restartRecords_keeps .seconds (by decide)
  have hset : r.settings = s.settings := by rw [hr]; exact s.restartRecords_keeps .settings (by decide)
  obtain ⟨f, hf⟩ : ∃ f, f = r.restartFans := ⟨_, rfl⟩
  obtain ⟨hslot, hnext⟩ := r.restartFans_timers
  rw [← hf, hsec, hset] at hnext
  rw [← hf] at hslot
  have hsec' : f.seconds = s.seconds := by rw [hf, ← hsec]; exact r.restartFans_keeps .seconds (by decide)
  have hset' : f.settings = s.settings := by rw [hf, ← hset]; exact r.restartFans_keeps .settings (by decide)
  have hair := f.restartAir_keeps
  have hout := f.restartAir.restartOutputs_keeps
  have hports := f.restartAir.restartOutputs.restartPorts_keeps
  have hblocks : s.restartBlocks = f.restartAir.restartOutputs.restartPorts := by rw [hf, hr]; rfl
  rw [hblocks]
  refine ⟨?_, ?_, ?_, ?_⟩
  · exact ((hports .slot (by decide)).trans ((hout .slot (by decide)).trans (hair .slot (by decide)))).trans hslot
  · exact (hports .fumeSet (by decide)).trans (State.restartOutputs_fumeSet _)
  · rw [← hsec', ← hset']
    exact ((hports .airNext (by decide)).trans (hout .airNext (by decide))).trans f.restartAir_timer
  · exact ((hports .fanNext (by decide)).trans ((hout .fanNext (by decide)).trans (hair .fanNext (by decide)))).trans hnext

theorem State.restartRecords_port (s : State) (p : Port) : s.restartRecords.port p = s.port p := by cases p <;> rfl
theorem State.restartFans_port (s : State) (p : Port) : s.restartFans.port p = s.port p := by cases p <;> rfl
theorem State.restartAir_port (s : State) (p : Port) : s.restartAir.port p = s.port p := by cases p <;> rfl
theorem State.restartOutputs_port (s : State) (p : Port) : s.restartOutputs.port p = s.port p := by cases p <;> rfl

theorem State.restartBlocks_ports (s : State) (p : Port) : (s.restartBlocks.port p).waiting = none ∧
    (s.restartBlocks.port p).receiver = (s.port p).receiver ∧ (s.restartBlocks.port p).service = (s.port p).service ∧
    (s.restartBlocks.port p).att =
      { fire := if s.fire.taken then [(0, .asserted)] else [], air := [], fan := [], node := [], bay := []
        link := [], enables := (s.port p).att.enables } := by
  obtain ⟨u, hu⟩ : ∃ u, u = s.restartRecords.restartFans.restartAir.restartOutputs := ⟨_, rfl⟩
  have hport : u.port p = s.port p := by
    rw [hu, State.restartOutputs_port, State.restartAir_port, State.restartFans_port, State.restartRecords_port]
  have hfire : u.fire = s.fire := by
    rw [hu]
    exact (State.restartOutputs_keeps _ .fire (by decide)).trans (s.restartAir_keeps_outputs .fire (by decide))
  have hports : s.restartBlocks = u.restartPorts := by rw [hu]; rfl
  have h := u.restartPorts_port p
  rw [hport, hfire] at h
  rw [hports]
  exact h

/-- What the blocks of RESTART touch: the enables stand (R194). -/
theorem State.restartBlocks_only (s : State) : s.keepsBut s.restartBlocks [.bays, .zones, .nodes, .fans, .queue, .slot,
    .fanNext, .airNext, .fireFlag, .fumeSet, .lights, .signs, .places .main, .places .panel, .items .main, .items .panel] := by
  have h : s.keepsBut s.restartBlocks [.bays, .zones, .nodes, .fans, .queue, .slot, .fanNext, .airNext, .fireFlag, .fumeSet,
      .lights, .signs, .places .main, .places .panel, .enables .main, .enables .panel, .items .main, .items .panel] :=
    ((s.restartAir_keeps_outputs.mono (by decide)).trans ((State.restartOutputs_keeps _).mono (by decide))).trans
      ((State.restartPorts_keeps _).mono (by decide))
  have hen : ∀ q, Field.same s s.restartBlocks (.enables q) := fun q => by
    obtain ⟨-, -, -, hatt⟩ := s.restartBlocks_ports q
    show (s.restartBlocks.port q).att.enables = _
    rw [hatt]
  intro f hf
  by_cases hq : ∃ q, f = .enables q
  · obtain ⟨q, rfl⟩ := hq
    exact hen q
  · push Not at hq
    exact h f (by simp [hq]; simpa using hf)

theorem State.replySent_restart {s : State} {p : Port} {key : Bool} {cls tag : Byte} {r : Reply}
    (hv : (s.port p).service = some { item := .request cls tag .restart, reply := r }) (hr : r.result = .ok) :
    s.replySent p key = (s.withPort p { s.port p with service := none }).restartEffect := by
  have hrestart : Service.isRestart { item := .request cls tag .restart, reply := r } = true := decide_eq_true hr
  unfold State.replySent
  simp only [hv, hrestart, if_true]

theorem State.restartSpan_port (s : State) (i : SpanId) (p : Port) : (s.restartSpan i).port p = s.port p := by
  have hclose : ∀ (u : State), (u.closeRound i).port p = u.port p := fun u => by
    rcases u.closeRound_cases i with h | ⟨-, -, -, -, h⟩ <;> rw [h]
    exact State.withSpan_port _ _ _ _
  unfold State.restartSpan
  dsimp only
  split
  · rw [State.beginRound_eq, hclose]
    exact (State.withSpan_port _ _ _ _).trans (State.withSpan_port _ _ _ _)
  · exact State.withSpan_port _ _ _ _

theorem State.restartSpans_port (s : State) (p : Port) : s.restartSpans.port p = s.port p := by
  simp only [State.restartSpans, State.restartSpan_port]

/-- R176: a service place freed. -/
theorem State.freedPlace_keeps (s : State) (p : Port) : s.keepsBut (s.withPort p { s.port p with service := none }) [.places p] := by
  refine s.withPort_only p _ _ fun f hf hn => ?_
  simp only [portParts, List.mem_cons, List.not_mem_nil, or_false] at hf
  rcases hf with rfl | rfl | rfl | rfl
  · simp [Field.same, PortState.linkPart]
  · simp at hn
  · simp [Field.same]
  · simp [Field.same, PortState.itemsPart]

theorem Visit.restarted_fate (v : Visit) : v.restarted = { v with
    fate := if v.fate = .retired ∨ v.fate = .restartedRetired then .restartedRetired else .restarted } := by
  unfold Visit.restarted
  cases v.fate <;> rfl

/-- Settles O34: the tables and ports by the blocks' lemmas, the spans by `restartSpans_spec`. -/
theorem restartTakesEffect : Obligations.RestartTakesEffect := by
  refine ⟨fun h c s ha => ⟨fun hc => ?_, fun hc => ?_⟩, fun s p key cls tag r hv hr => ?_⟩
  · refine exec_refuses (cmd := .restart h) rfl ha ?_
    show serveRestart c _ = _
    unfold serveRestart
    exact need_neg (decide_eq_false hc) _ _ _
  · have ⟨hans, hkeep⟩ := State.arrive_unchanged ha .restart (show serveRestart c (s.withKey h.key) = serveOk [] _ by
      unfold serveRestart
      exact need_pos (decide_eq_true hc) _ _ _)
    exact ⟨_, exec_request (cmd := .restart h) rfl s, hans, hkeep⟩
  · obtain ⟨u, hu⟩ : ∃ u, u = s.withPort p { s.port p with service := none } := ⟨_, rfl⟩
    have hfrom : s.keepsBut u [.places p] := by rw [hu]; exact s.freedPlace_keeps p
    have hservice : ∀ q, (u.port q).service = if q = p then none else (s.port q).service := fun q => by
      rw [hu]
      by_cases hq : q = p
      · rw [if_pos hq, hq, State.withPort_port]
      · rw [if_neg hq, State.withPort_port_ne _ _ hq]
    have hbays : u.bays = s.bays := hfrom .bays (by simp)
    have hnodes : u.nodes = s.nodes := hfrom .nodes (by simp)
    have hzones : u.zones = s.zones := hfrom .zones (by simp)
    have hfans : u.fans = s.fans := hfrom .fans (by simp)
    have hlights : u.lights = s.lights := hfrom .lights (by simp)
    have hsigns : u.signs = s.signs := hfrom .signs (by simp)
    have hfire : u.fire = s.fire := hfrom .fire (by simp)
    have hsec : u.seconds = s.seconds := hfrom .seconds (by simp)
    have hset : u.settings = s.settings := hfrom .settings (by simp)
    have hblocks := u.restartBlocks_only
    obtain ⟨kspans, hspans⟩ := State.restartSpans_spec u.restartBlocks_notSilent
    obtain ⟨t, ht⟩ : ∃ t, t = u.restartBlocks.restartSpans := ⟨_, rfl⟩
    rw [← ht] at kspans hspans
    have tbays : t.bays = u.restartBlocks.bays := kspans .bays (by decide)
    have tnodes : t.nodes = u.restartBlocks.nodes := kspans .nodes (by decide)
    have tzones : t.zones = u.restartBlocks.zones := kspans .zones (by decide)
    have tfans : t.fans = u.restartBlocks.fans := kspans .fans (by decide)
    have tlights : t.lights = u.restartBlocks.lights := kspans .lights (by decide)
    have tsigns : t.signs = u.restartBlocks.signs := kspans .signs (by decide)
    have tfire : t.fire = u.restartBlocks.fire := kspans .fire (by decide)
    obtain ⟨hslot, hfume, hair, hfan⟩ := u.restartBlocks_fields
    refine ⟨t, ?_, fun n => ?_, fun n => ?_, fun k z hz => ?_, fun k g hg => ?_, fun k l hl => ?_, fun k g hg => ?_, ?_, ?_,
      ?_, ?_, ?_, ?_, fun i => ?_, fun q => ?_, ?_⟩
    · show Host.Outcome.next (s.replySent p key) = _
      rw [State.replySent_restart hv hr, ← hu, State.restartEffect_eq, ht]
    · rw [tbays, State.restartBlocks_bays, Table.get_update, hbays, hsec]
      rfl
    · rw [tnodes, State.restartBlocks_nodes, Table.get_update, hnodes]
      rfl
    · have h := State.restartBlocks_zone (hzones ▸ hz : Table.get u.zones k = some z)
      rw [hfire, hbays] at h
      rw [tzones, State.airStatusOf_congr tfans]
      exact h
    · have h := State.restartBlocks_fan (hfans ▸ hg : Table.get u.fans k = some g)
      rw [hfire] at h
      rw [tfans, tnodes, State.driveFailed_congr tnodes]
      obtain ⟨g', hget, h1, h2, h3, h4, h5, h6, h7, h8, h9, h10⟩ := h
      exact ⟨g', hget, h1, h2, h3, h4, h5, h6, h7, h8, h9.trans (State.targetOf_congr tzones g').symm, h10⟩
    · have h := State.restartBlocks_light (hlights ▸ hl : Table.get u.lights k = some l)
      rw [hfire, hsec] at h
      rw [tlights, tnodes]
      exact h
    · have h := State.restartBlocks_sign (hsigns ▸ hg : Table.get u.signs k = some g)
      rw [tsigns, tnodes, State.contentOf_congr_zones tzones tfire]
      exact h
    · exact (kspans .queue (by decide)).trans u.restartBlocks_queue
    · exact (kspans .slot (by decide)).trans hslot
    · exact (kspans .fumeSet (by decide)).trans hfume
    · rw [← hfire]
      exact (kspans .fireFlag (by decide)).trans u.restartBlocks_flag
    · rw [← hsec, ← hset]
      exact (kspans .airNext (by decide)).trans hair
    · rw [← hsec, ← hset]
      exact (kspans .fanNext (by decide)).trans hfan
    · have huspan : u.span i = s.span i := hfrom (.span i) (by simp)
      have h : s.SpanRestarted t i := (hspans i).before
        ((hblocks (.span i) (by simp)).trans huspan)
        ((hblocks .ms (by simp)).trans (hfrom .ms (by simp))) (hfrom.kept.trans u.kept_restartBlocks)
      obtain ⟨h1, h2⟩ := h
      refine ⟨h1, fun v hvisit => ?_⟩
      rw [h2 v hvisit, Visit.restarted_fate]
    · obtain ⟨h1, h2, h3, h4⟩ := u.restartBlocks_ports q
      have tport : t.port q = u.restartBlocks.port q := by
        rw [ht]
        exact State.restartSpans_port _ q
      have hlink : (u.port q).linkPart = (s.port q).linkPart := hfrom (.link q) (by simp)
      have hen : (u.port q).att.enables = (s.port q).att.enables := hfrom (.enables q) (by simp)
      rw [tport]
      refine ⟨h1, h2.trans (congrArg Prod.fst hlink), h3.trans (hservice q), ?_⟩
      rw [h4, hfire, hen]
    · exact ((hfrom.mono (by cases p <;> simp)).trans (hblocks.mono (by decide))).trans (kspans.mono (by decide))

end Sys2Proof.Machine

/-! ## Proofs: nodes placed (R168, R169) -/

namespace Sys2Proof.Machine

theorem State.spanClash_iff {s : State} {i : SpanId} {address : Nat} : s.spanClash i address = true ↔
    (∃ e ∈ s.nodes, e.2.span = i ∧ e.2.address = address) ∨ 96 ≤ (s.nodes.filter (fun e => decide (e.2.span = i))).length := by
  have hat : (s.nodeAt i address).isSome = true ↔ ∃ e ∈ s.nodes, e.2.span = i ∧ e.2.address = address := by
    unfold State.nodeAt
    constructor
    · intro h
      obtain ⟨m, hm⟩ := Option.isSome_iff_exists.1 h
      obtain ⟨n, hn, he⟩ := Table.find_some hm
      simp only [Bool.and_eq_true, decide_eq_true_eq] at he
      exact ⟨(m, n), hn, he⟩
    · rintro ⟨e, he, hspan, haddr⟩
      cases hf : Table.find (fun _ n => decide (n.span = i) && decide (n.address = address)) s.nodes with
      | some m => rfl
      | none => simpa [hspan, haddr] using Table.find_none hf e he
  unfold State.spanClash
  rw [Bool.or_eq_true, hat, decide_eq_true_eq]
  rfl

theorem State.bindsFifth_iff {s : State} {node : Nat} {k : NodeKind} {zone : Option Nat}
    (hz : zone.isSome = decide (k = .sensor ∨ k = .gas)) : s.bindsFifth node k zone = true ↔
      k = .gas ∧ 4 ≤ (s.nodes.filter (fun e =>
        decide (e.1 ≠ node) && decide (e.2.kind = .gas) && decide (e.2.zone = zone))).length := by
  unfold State.bindsFifth
  rw [Bool.and_eq_true, decide_eq_true_eq]
  refine and_congr_right fun hk => ?_
  cases zone with
  | none => simp [hk] at hz
  | some z => simp [State.headsFull, Table.countOf, Config.headsPerZone, Node.isHeadOf, Bool.and_assoc]

theorem State.nodeViewOf_of_get {s : State} {m : Nat} {n : Node} (h : Table.get s.nodes m = some n) :
    s.nodeViewOf m = nodeView m n (s.span n.span).stuck.isSome := by
  unfold State.nodeViewOf
  rw [h]

/-- R169: the span as a node of it is rebound. -/
theorem Span.rebind_eq (node : Nat) (p : Span) : p.rebind node = { p with visit := p.visit.map (fun v =>
    if v.node = node ∧ (v.fate = .counted ∨ v.fate = .restarted) then { v with rebound := true } else v) } := by
  unfold Span.rebind
  obtain ⟨stuck, position, roundStart, inRound, visit, lineAt, watchFrom⟩ := p
  cases visit with
  | none => rfl
  | some v =>
    by_cases h : v.node = node ∧ (v.fate = .counted ∨ v.fate = .restarted) <;> simp [Visit.isTo, h]

@[simp] theorem State.changeNode_span (s : State) (node : Nat) (f : Node → Node) (i : SpanId) :
    (s.changeNode node f).span i = s.span i := rfl

theorem State.changeNode_get_ne (s : State) {node m : Nat} (f : Node → Node) (h : m ≠ node) :
    Table.get (s.changeNode node f).nodes m = Table.get s.nodes m := Table.get_modify_ne _ _ h

/-- R169: a defined node bound to a zone. -/
theorem State.rezoneNode_spec {s : State} {node : Nat} {n : Node} (zone : Option Nat) (h : Table.get s.nodes node = some n) :
    let moved : Bool := decide (zone ≠ n.zone ∧ n.kind = .gas)
    let t := s.rezoneNode node n zone
    Table.get t.nodes node = some { n with zone := zone, head := if moved then GasHead.start else n.head } ∧
    (∀ m, m ≠ node → Table.get t.nodes m = Table.get s.nodes m) ∧
    t.span n.span = { s.span n.span with visit := (s.span n.span).visit.map (fun v =>
      if moved = true ∧ v.node = node ∧ (v.fate = .counted ∨ v.fate = .restarted) then { v with rebound := true } else v) } ∧
    s.keepsBut t (.nodes :: if moved then [.span n.span] else []) := by
  intro moved t
  by_cases hz : zone = n.zone
  · have hm : moved = false := by simp [moved, hz]
    have ht : t = s := if_pos hz
    rw [ht, hm]
    refine ⟨by rw [h, hz]; rfl, fun _ _ => rfl, by simp, .refl s _⟩
  · by_cases hk : n.kind = .gas
    · have hm : moved = true := by simp [moved, hz, hk]
      have ht : t = (s.changeNode node (fun n => { n with zone := zone, head := GasHead.start })).changeSpan n.span
          (Span.rebind node) := by
        show s.rezoneNode node n zone = _
        unfold State.rezoneNode
        rw [if_neg hz, if_pos hk]
      rw [ht, hm]
      refine ⟨?_, fun m hne => ?_, ?_, ?_⟩
      · rw [State.changeSpan_nodes, State.changeNode_get h]
        rfl
      · rw [State.changeSpan_nodes, State.changeNode_get_ne _ _ hne]
      · rw [State.changeSpan_span, State.changeNode_span, Span.rebind_eq]
        simp
      · exact (s.changeNode_keeps _ _).seq (State.changeSpan_keeps _ _ _) (by simp) (by simp)
    · have hm : moved = false := by simp [moved, hk]
      have ht : t = s.changeNode node (fun n => { n with zone := zone }) := by
        show s.rezoneNode node n zone = _
        unfold State.rezoneNode
        rw [if_neg hz, if_neg hk]
      rw [ht, hm]
      refine ⟨?_, fun m hne => ?_, by simp, s.changeNode_keeps _ _⟩
      · rw [State.changeNode_get h]
        rfl
      · rw [State.changeNode_get_ne _ _ hne]

/-- Settles O30: the checks in their order, the clashes by `spanClash_iff` and `bindsFifth_iff`. -/
theorem defineNodePlaces : Obligations.DefineNodePlaces := by
  intro h s node span address kind zone i k ha hnode hlo hhi hspan hkind hzone hdef cmd body heads fifth
  have hin : optWithin 0 31 zone = true := by
    cases zone with
    | none => rfl
    | some z => exact optWithin_some.2 ⟨Nat.zero_le _, (hdef z rfl).1⟩
  have hhas : zone.all (Table.has s.zones) = true := by
    cases zone with
    | none => rfl
    | some z => exact (hdef z rfl).2
  have hkz : zone.isSome = k.hasZone := by rw [hzone]; cases k <;> rfl
  have hserve : serveRequest h.port body .service (s.withKey h.key) = placeNode node i address k zone (s.withKey h.key) := by
    show serveDefineNode .service node span address kind zone (s.withKey h.key) = _
    unfold serveDefineNode
    rw [hspan, hkind]
    dsimp only
    rw [need_pos (by simp [within, hnode, hlo, hhi, hin, hkz]), need_pos serviceOnly_service]
  unfold placeNode at hserve
  rw [need_pos (by exact hhas)] at hserve
  have hclash : (s.withKey h.key).spanClash i address = true ↔ _ := State.spanClash_iff
  have hfifth : (s.withKey h.key).bindsFifth node k zone = true ↔ fifth := State.bindsFifth_iff hzone
  have hnodes : (s.withKey h.key).nodes = s.nodes := rfl
  have hspans : ∀ j, (s.withKey h.key).span j = s.span j := fun j => by cases j <;> rfl
  rw [hnodes] at hserve hclash
  refine ⟨fun hget => ?_, fun n hget => ?_⟩
  · simp only [hget] at hserve
    refine ⟨fun hbad => ?_, fun hfree hfour hroom => ?_⟩
    · rw [need_neg] at hserve
      · exact exec_refuses (cmd := cmd) rfl ha hserve
      · rw [Bool.not_eq_false', Bool.or_eq_true, hclash, hfifth]
        rcases hbad with he | hf | hfull
        · exact .inl (.inl he)
        · exact .inr hf
        · exact .inl (.inr hfull)
    · rw [need_pos, State.nodeViewOf_of_get (n := Node.fresh i address k zone) (Table.get_set _ _ _)] at hserve
      · obtain ⟨t, ht, hv, hans, hkept⟩ := exec_performs (s := s) (w := s) (cmd := cmd) rfl ha hserve
          ((s.withKey_keeps h.key).seq (State.withNodes_keeps _ _) (n := [.serviceKey, .nodes]) (by decide) (by decide))
          (by simp) rfl
        have htn : t.nodes = Table.set s.nodes node (Node.fresh i address k zone) := hv .nodes (by simp)
        exact ⟨t, ht, by rw [htn, Table.get_set]; rfl, fun m hm => by rw [htn, Table.get_set_ne _ _ hm], hans, hkept⟩
      · rw [Bool.not_eq_true', Bool.or_eq_false_iff, ← Bool.not_eq_true, ← Bool.not_eq_true, hclash, hfifth]
        refine ⟨?_, hfour⟩
        rintro (⟨e, he, hbad⟩ | hfull)
        · exact hfree e he hbad
        · exact absurd hfull (by omega)
  · simp only [hget] at hserve
    refine ⟨fun hbad => ?_, fun hs hadd hk hfour => ?_⟩
    · rw [need_neg] at hserve
      · exact exec_refuses (cmd := cmd) rfl ha hserve
      · rw [Bool.eq_false_iff, Ne, Bool.and_eq_true, Bool.and_eq_true, Bool.and_eq_true, Bool.not_eq_true',
          decide_eq_true_eq, decide_eq_true_eq, decide_eq_true_eq, ← Bool.not_eq_true, hfifth]
        tauto
    · subst hs hadd hk
      intro moved n'
      have hno : (s.withKey h.key).bindsFifth node n.kind zone = false := by rw [← Bool.not_eq_true, hfifth]; exact hfour
      obtain ⟨hself, hother, hsp, hkeep⟩ := State.rezoneNode_spec (s := s.withKey h.key) zone hget
      rw [need_pos (by simp [hno]), State.nodeViewOf_of_get hself, hsp, hspans] at hserve
      obtain ⟨t, ht, hv, hans, hkept⟩ := exec_performs (s := s) (w := s) (cmd := cmd) rfl ha hserve
        ((s.withKey_keeps h.key).seq hkeep (n := .serviceKey :: .nodes :: if moved then [.span n.span] else []) (by simp)
          (List.subset_cons_self _ _))
        (by simp) (hkeep .serviceKey (by simp))
      have htn : t.nodes = _ := hv .nodes (by simp)
      have hts : t.span n.span = _ := hv (.span n.span) (by simp)
      refine ⟨t, ht, by rw [htn]; exact hself, fun m hm => by rw [htn]; exact hother m hm, ?_, hans, hkept⟩
      rw [hts]
      exact hsp.trans (by rw [hspans])

end Sys2Proof.Machine

/-! ## Proofs: the owners of a node, and visits begun (R158, R162) -/

namespace Sys2Proof.Machine

/-! ### Who owns a node -/

theorem Table.find_unique {α : Type} {t : Table α} {p : Nat → α → Bool} {k : Nat} {a : α} (hmem : (k, a) ∈ t) (hp : p k a = true)
    (h : ∀ e ∈ t, p e.1 e.2 = true → e = (k, a)) : Table.find p t = some k := by
  cases hf : Table.find p t with
  | none => simpa [hp] using Table.find_none hf _ hmem
  | some k' =>
    obtain ⟨a', ha', hp'⟩ := Table.find_some hf
    exact congrArg (fun e : Nat × α => some e.1) (h _ ha' hp')

theorem Table.find_eq_none {α : Type} {t : Table α} {p : Nat → α → Bool} :
    Table.find p t = none ↔ ∀ e ∈ t, p e.1 e.2 = false := by
  refine ⟨Table.find_none, fun h => ?_⟩
  cases hf : Table.find p t with
  | none => rfl
  | some k =>
    obtain ⟨a, ha, hp⟩ := Table.find_some hf
    exact absurd (h _ ha) (by simp [hp])

theorem State.signOf_none {s : State} {node : Nat} : s.signOf node = none ↔ ∀ e ∈ s.signs, e.2.config.node ≠ node := by
  simp [State.signOf, Table.find_eq_none]

theorem State.lightOf_none {s : State} {node : Nat} : s.lightOf node = none ↔ ∀ e ∈ s.lights, e.2.node ≠ node := by
  simp [State.lightOf, Table.find_eq_none]

theorem State.fanOf_none {s : State} {node : Nat} :
    s.fanOf node = none ↔ ∀ e ∈ s.fans, ∀ d ∈ e.2.drives, d.node ≠ node := by
  simp [State.fanOf, Table.find_eq_none]

theorem State.bayAt_none {s : State} {node channel : Nat} :
    s.bayAt node channel = none ↔ ∀ e ∈ s.bays, ¬(e.2.node = node ∧ e.2.channel = channel) := by
  simp [State.bayAt, Table.find_eq_none]

theorem State.signOf_mem {s : State} (hp : s.placesSound) {e : Nat × Sign} (he : e ∈ s.signs) :
    s.signOf e.2.config.node = some e.1 := by
  obtain ⟨-, hsigns, -, -, -⟩ := hp
  exact Table.find_unique he (by simp) fun e' he' h => hsigns _ he' _ he (by simpa using h)

theorem State.lightOf_mem {s : State} (hp : s.placesSound) {e : Nat × Light} (he : e ∈ s.lights) :
    s.lightOf e.2.node = some e.1 := by
  obtain ⟨-, -, hlights, -, -⟩ := hp
  exact Table.find_unique he (by simp) fun e' he' h => hlights _ he' _ he (by simpa using h)

theorem State.fanOf_mem {s : State} (hp : s.placesSound) {e : Nat × Fan} (he : e ∈ s.fans) {d : Drive} (hd : d ∈ e.2.drives) :
    s.fanOf d.node = some e.1 := by
  obtain ⟨-, -, -, hfans, -⟩ := hp
  refine Table.find_unique he (List.any_eq_true.2 ⟨d, hd, by simp⟩) fun e' he' h => ?_
  obtain ⟨d', hd', hn⟩ := List.any_eq_true.1 h
  exact (hfans _ he').2 _ he d' hd' d hd (by simpa using hn)

theorem State.bayAt_mem {s : State} (hp : s.placesSound) {e : Nat × Bay} (he : e ∈ s.bays) :
    s.bayAt e.2.node e.2.channel = some e.1 := by
  obtain ⟨hbays, -, -, -, -⟩ := hp
  refine Table.find_unique he (by simp) fun e' he' h => ?_
  simp only [Bool.and_eq_true, decide_eq_true_eq] at h
  exact (hbays _ he').2 _ he h.1 h.2

/-- A change of the one record that meets a condition, read back. -/
theorem Table.get_modify_found {α : Type} {t : Table α} {p : Nat → α → Bool} {k : Nat} (hw : (Table.keys t).Pairwise (· < ·))
    (hf : Table.find p t = some k) (hone : ∀ e ∈ t, ∀ e' ∈ t, p e.1 e.2 = true → p e'.1 e'.2 = true → e = e') (f : α → α)
    (n : Nat) : Table.get (Table.modify t k f) n = (Table.get t n).map (fun a => if p n a = true then f a else a) := by
  obtain ⟨a, ha, hp⟩ := Table.find_some hf
  by_cases hn : n = k
  · subst hn
    rw [Table.get_modify, Table.get_of_mem hw ha]
    simp [hp]
  · rw [Table.get_modify_ne _ _ hn]
    cases hget : Table.get t n with
    | none => rfl
    | some b =>
      rw [Option.map_some, if_neg]
      intro hb
      exact hn (congrArg (fun e : Nat × α => e.1) (hone _ (Table.mem_of_get hget) _ ha hb hp))

/-- Where no record meets a condition, a change of those that do changes none. -/
theorem Table.get_map_unmet {α : Type} {t : Table α} {p : Nat → α → Bool} (h : ∀ e ∈ t, p e.1 e.2 = false) (f : α → α) (n : Nat) :
    (Table.get t n).map (fun a => if p n a = true then f a else a) = Table.get t n := by
  cases hget : Table.get t n with
  | none => rfl
  | some a => simp [h _ (Table.mem_of_get hget)]

theorem State.changeSignOn_get {s : State} (hw : s.tablesSound) (hp : s.placesSound) (node : Nat) (f : Sign → Sign) (n : Nat) :
    Table.get (s.changeSignOn node f).signs n =
      (Table.get s.signs n).map (fun g => if g.config.node = node then f g else g) := by
  have hread := fun p => Table.get_map_unmet (t := s.signs) (p := p) (f := f) (n := n)
  unfold State.changeSignOn
  cases hf : s.signOf node with
  | none => simpa using (hread (fun _ g => decide (g.config.node = node)) (Table.find_none hf)).symm
  | some k =>
    obtain ⟨-, hsigns, -, -, -⟩ := hp
    refine (Table.get_modify_found hw.signs.1 hf (fun e he e' he' h h' => hsigns _ he _ he' ?_) f n).trans (by simp)
    simp only [decide_eq_true_eq] at h h'
    rw [h, h']

theorem State.changeLightOn_get {s : State} (hw : s.tablesSound) (hp : s.placesSound) (node : Nat) (f : Light → Light) (n : Nat) :
    Table.get (s.changeLightOn node f).lights n = (Table.get s.lights n).map (fun l => if l.node = node then f l else l) := by
  have hread := fun p => Table.get_map_unmet (t := s.lights) (p := p) (f := f) (n := n)
  unfold State.changeLightOn
  cases hf : s.lightOf node with
  | none => simpa using (hread (fun _ l => decide (l.node = node)) (Table.find_none hf)).symm
  | some k =>
    obtain ⟨-, -, hlights, -, -⟩ := hp
    refine (Table.get_modify_found hw.lights.1 hf (fun e he e' he' h h' => hlights _ he _ he' ?_) f n).trans (by simp)
    simp only [decide_eq_true_eq] at h h'
    rw [h, h']

/-! ### What a call carries -/

/-- R147: the lamp table, row by row. -/
theorem lampOf_shown (b : Bay) (closed : Bool) : lampShown b closed (lampOf b closed) := by
  unfold lampShown lampOf
  refine ⟨fun h => by simp [h], fun h => ⟨fun hs => by simp [h, hs], fun hs => ⟨fun hh => by simp [h, hs, hh], fun hh =>
    ⟨fun hc hst => by rcases hst with hst | hst <;> simp [h, hh, hc, hst], fun hc hst => by simp [h, hh, hc, hst],
      fun hst => by rcases hst with hst | hst | hst <;> simp [h, hh, hst], fun hc hst => ?_⟩⟩⟩⟩
  simp only [h, hh, hc, hst]
  refine ⟨fun hk => by simp [hk], fun hk => by simp [hk], fun hk => by rcases hk with hk | hk <;> simp [hk]⟩

theorem byteAt_map_range {n : Nat} (f : Nat → Byte) {c : Nat} (h : c < n) : byteAt ((List.range n).map f) c = f c := by
  unfold byteAt
  simp [List.getD, h]

/-- R158: a call's content is the owner's, as its record stands. -/
theorem State.callContent_carries {s : State} (hw : s.tablesSound) (hp : s.placesSound) (node : Nat) (kind : NodeKind) :
    s.carries node kind (s.callContent node kind) := by
  cases kind with
  | sensor =>
    refine ⟨by simp [State.callContent, State.lamps], fun ch hch => ⟨s.lampAt node ch, byteAt_map_range _ hch, fun hno => ?_,
      fun e he hn hc => ?_⟩⟩
    · rw [State.lampAt, State.bayAt_none.2 hno]
      rfl
    · subst hn hc
      rw [State.lampAt, State.bayAt_mem hp he]
      simp only [Option.bind_some, Table.get_of_mem hw.bays.1 he]
      exact lampOf_shown e.2 (s.zoneClosed e.2.zone)
  | gas => rfl
  | dimmer =>
    refine ⟨fun hno => ?_, fun e he hn => ?_⟩
    · simp [State.callContent, State.lightOf_none.2 hno]
    · subst hn
      simp [State.callContent, State.lightOf_mem hp he, Table.get_of_mem hw.lights.1 he]
  | fan =>
    refine ⟨fun hno => ?_, fun e he d hd hn => ?_⟩
    · simp [State.callContent, State.driveCall, State.fanOf_none.2 hno]
    · subst hn
      simp [State.callContent, State.driveCall, State.fanOf_mem hp he hd, Table.get_of_mem hw.fans.1 he]
  | sign =>
    refine ⟨fun hno => ?_, fun e he hn => ?_⟩
    · simp only [State.callContent, State.signOf_none.2 hno]
      rfl
    · subst hn
      simp only [State.callContent, State.signOf_mem hp he, Option.bind_some, Table.get_of_mem hw.signs.1 he]
      rfl

/-! ### Rounds and visits begin -/

theorem State.atMs_kept (s : State) (m : Millis) : s.Kept (s.atMs m) := (s.atMs_keeps m).kept

theorem State.atMs_callContent (s : State) (m : Millis) (node : Nat) (kind : NodeKind) :
    (s.atMs m).callContent node kind = s.callContent node kind := rfl

theorem State.recordSent_get {s : State} (hw : s.tablesSound) (hp : s.placesSound) (node : Nat) (kind : NodeKind) (k : Nat) :
    Table.get (s.recordSent node kind).signs k = (Table.get s.signs k).map (fun g =>
      if kind = .sign ∧ g.config.node = node then { g with sent := some g.content } else g) := by
  cases kind with
  | sign =>
    have h := State.changeSignOn_get hw hp node (fun g => { g with sent := some g.content }) k
    simpa [State.recordSent] using h
  | _ => simp [State.recordSent]

theorem State.recordSent_only (s : State) (node : Nat) (kind : NodeKind) :
    s.keepsBut (s.recordSent node kind) (if kind = .sign then [.signs] else []) := by
  cases kind with
  | sign => exact s.changeSignOn_keeps _ _
  | _ => exact .refl _ _

theorem Span.roundOver_iff {p : Span} : p.roundOver = true ↔ p.stuck = none ∧ p.visit = none ∧ p.inRound = false := by
  simp [Span.roundOver, and_assoc]

theorem Span.choosing_iff {p : Span} : p.choosing = true ↔ p.stuck = none ∧ p.visit = none ∧ p.inRound = true := by
  simp [Span.choosing, and_assoc]

theorem State.beginVisit_eq {s : State} {i : SpanId} {m : Nat} {n : Node} (h : Table.get s.nodes m = some n) :
    s.beginVisit i m = (s.recordSent m n.kind).changeSpan i (fun p =>
      { p with
        visit := some { node := m, address := n.address, kind := n.kind
                        call := callFrame n.address n.kind (s.callContent m n.kind), answer := []
                        waitFrom := s.ms, limit := s.settings.limit i, lastByte := s.ms, fate := .counted
                        rebound := false }
        lineAt := s.ms, watchFrom := s.ms }) := by
  unfold State.beginVisit
  rw [h]

/-- Settles O38: a round by `beginRound`'s lemmas, the next node by `nextNode_of_lowest`, its call by
`callContent_carries`. -/
theorem roundsAndVisitsBegin : Obligations.RoundsAndVisitsBegin := by
  intro s i p visitable
  have hround : exec (.roundStart i) s = .next (s.startRound i) := rfl
  have hvisit : exec (.visitStart i) s = .next (s.startVisit i) := rfl
  refine ⟨fun h1 h2 h3 => ?_, fun h1 h2 h3 hw hp => ?_, fun hno => ?_, fun hno => ?_⟩
  · obtain ⟨u, hu⟩ : ∃ u, u = s.atMs (p.roundStart + 100) := ⟨_, rfl⟩
    have hkeep : s.keepsBut u clockParts := by rw [hu]; exact s.atMs_keeps _
    have hk : s.Kept u := by rw [hu]; exact s.atMs_kept _
    have hmoved : s.movedTo u (p.roundStart + 100) := by rw [hu]; exact s.atMs_movedTo _
    have hspan : u.span i = p := hkeep (.span i) (by simp)
    have hset : u.settings = s.settings := hkeep .settings (by decide)
    have hnodes : u.nodes = s.nodes := hkeep .nodes (by decide)
    have hstart : s.startRound i = u.beginRound i := by
      unfold State.startRound
      rw [if_pos (Span.roundOver_iff.2 ⟨h1, h2, h3⟩), hu]
      rfl
    have hbegin := u.beginRound_keeps i
    obtain ⟨hnew, -⟩ := u.beginRound_span i
    have hms : (u.beginRound i).ms = u.ms := hbegin .ms (by simp)
    rw [hspan] at hnew
    refine ⟨u.beginRound i, by rw [hround, hstart], hmoved.kept hbegin.sameClock, fun m => ?_, ?_, ?_, ?_, ?_, fun hw hp => ?_, ?_⟩
    · rw [u.beginRound_nodes i m, hset, hnodes]
    · rw [hnew, hms]
    · rw [hnew]
    · rw [hnew]; exact h2
    · rw [hnew]; exact h1
    · obtain ⟨hw', -, -, hp'⟩ := hk hw
      exact State.beginRound_settled hw' (hp' hp) (by rw [hspan]; exact h1) (by rw [hspan]; exact h2)
    · exact (hkeep.mono (by simp)).trans (hbegin.mono (by simp))
  · obtain ⟨u, hu⟩ : ∃ u, u = s.atMs (p.lineAt + 1) := ⟨_, rfl⟩
    have hkeep : s.keepsBut u clockParts := by rw [hu]; exact s.atMs_keeps _
    have hmoved : s.movedTo u (p.lineAt + 1) := by rw [hu]; exact s.atMs_movedTo _
    have hspan : u.span i = p := hkeep (.span i) (by simp)
    have hset : u.settings = s.settings := hkeep .settings (by decide)
    have hnodes : u.nodes = s.nodes := hkeep .nodes (by decide)
    have hsigns : u.signs = s.signs := hkeep .signs (by decide)
    have hcall : ∀ m k, u.callContent m k = s.callContent m k := fun m k => by rw [hu]; exact s.atMs_callContent _ m k
    have hk : s.Kept u := by rw [hu]; exact s.atMs_kept _
    obtain ⟨hw', -, -, hp'⟩ := hk hw
    have hpu := hp' hp
    have hchoose : (s.span i).choosing = true := Span.choosing_iff.2 ⟨h1, h2, h3⟩
    refine ⟨fun hnone => ?_, fun m n hget hn hv habove hmin => ?_⟩
    · have hnext : u.nextNode i = none :=
        (State.nextNode_none_iff hw' hpu).2 (by rw [hspan, State.nodeLeft_congr hnodes]; exact hnone)
      have hstart : s.startVisit i = u.changeSpan i (fun p => { p with inRound := false, position := none }) := by
        unfold State.startVisit
        rw [if_pos hchoose]
        simp only [hnext, show (s.atMs ((s.span i).lineAt + Config.idleLineMs)) = u from hu.symm]
        unfold State.closeRound
        rw [if_pos (by simp [hspan, hchoose, hnext, p])]
      have hc := u.changeSpan_keeps i (fun p => { p with inRound := false, position := none })
      refine ⟨_, by rw [hvisit, hstart], hmoved.kept hc.sameClock, by rw [State.changeSpan_span, hspan],
        (hkeep.mono (by simp)).trans (hc.mono (by simp))⟩
    · have hgetu : Table.get u.nodes m = some n := by rw [hnodes]; exact hget
      have hnext : u.nextNode i = some m := by
        refine State.nextNode_of_lowest hw' hpu hgetu hn (Node.inRounds_iff.2 hv) (by rw [hspan]; exact habove)
          fun m' n' hget' hn' hv' habove' => ?_
        rw [hnodes] at hget'
        rw [hspan] at habove'
        by_contra hlt
        obtain ⟨a, hpos, hle⟩ := hmin _ (Table.mem_of_get hget') hn' (Node.inRounds_iff.1 hv') (Nat.lt_of_not_le hlt)
        exact absurd (habove' a hpos) (Nat.not_lt.2 hle)
      have hstart : s.startVisit i = u.beginVisit i m := by
        unfold State.startVisit
        rw [if_pos hchoose]
        simp only [show (s.atMs ((s.span i).lineAt + Config.idleLineMs)) = u from hu.symm, hnext]
      have hsent := u.recordSent_only m n.kind
      have hcs := fun f => (u.recordSent m n.kind).changeSpan_keeps i f
      have hrspan : (u.recordSent m n.kind).span i = p := by
        rw [← hspan]
        exact u.recordSent_keeps m n.kind (.span i) (by simp)
      rw [hvisit, hstart, State.beginVisit_eq hgetu]
      refine ⟨_, { node := m, address := n.address, kind := n.kind
                   call := callFrame n.address n.kind (u.callContent m n.kind), answer := []
                   waitFrom := u.ms, limit := u.settings.limit i, lastByte := u.ms, fate := .counted
                   rebound := false }, s.callContent m n.kind, rfl,
        (hmoved.kept (u.recordSent_keeps m n.kind).sameClock).kept (hcs _).sameClock, ?_, rfl, rfl, rfl, ?_,
        State.callContent_carries hw hp m n.kind, rfl, rfl, rfl, ?_, ?_, ?_, fun k => ?_, ?_⟩
      · rw [State.changeSpan_span]
      · rw [hcall]
      · rw [hset]
      · exact ((hcs _ .ms (by simp)).trans (u.recordSent_keeps m n.kind .ms (by simp))).symm
      · rw [State.changeSpan_span, hrspan]
      · rw [hcs _ .signs (by simp), State.recordSent_get hw' hpu, hsigns]
      · refine (((hkeep.mono ?_).trans (hsent.mono ?_)).trans ((hcs _).mono ?_)) <;> cases n.kind <;> simp
  · rw [hround, State.startRound, if_neg]
    rw [Span.roundOver_iff]
    rintro ⟨h1, h2, h3⟩
    rcases hno with h | h | h
    · exact h h1
    · exact h h2
    · rw [h3] at h; simp at h
  · rw [hvisit, State.startVisit, if_neg]
    rw [Span.choosing_iff]
    rintro ⟨h1, h2, h3⟩
    rcases hno with h | h | h
    · exact h h1
    · exact h h2
    · rw [h3] at h; simp at h

end Sys2Proof.Machine

/-! ## Proofs: what news of a node makes of the zones, signs and fan groups (R69 to R71, R77, R78, R122) -/

namespace Sys2Proof.Machine

/-! ### The signs follow the zones (R122, R123) -/

namespace State.signsFollow

theorem of_eq {s t : State} {f : Sign → Sign} (hsigns : t.signs = s.signs) (hzones : t.zones = s.zones) (hfire : t.fire = s.fire)
    (hf : ∀ n g, Table.get s.signs n = some g → f g = g) : s.signsFollow t f := fun n => by
  rw [hsigns]
  exact ⟨id, fun g hg => ⟨g, hg, by rw [hf n g hg], fun h => h.congr hfire fun k _ => by rw [hzones]⟩⟩

theorem trans {s t u : State} {f f' f'' : Sign → Sign} (h : s.signsFollow t f) (h' : t.signsFollow u f')
    (hf : ∀ n g c d, Table.get s.signs n = some g → ∀ c' d',
      ({ f' { f g with content := c, dirty := d } with content := c', dirty := d' } : Sign) =
        { f'' g with content := c', dirty := d' }) : s.signsFollow u f'' := fun n => by
  obtain ⟨hnone, hsome⟩ := h n
  obtain ⟨hnone', hsome'⟩ := h' n
  refine ⟨fun hg => hnone' (hnone hg), fun g hg => ?_⟩
  obtain ⟨g1, hg1, e1, hs1⟩ := hsome g hg
  obtain ⟨g2, hg2, e2, hs2⟩ := hsome' g1 hg1
  refine ⟨g2, hg2, ?_, fun hs => hs2 (hs1 hs)⟩
  rw [← hf n g g1.content g1.dirty hg g2.content g2.dirty, ← e1]
  exact e2

/-- Two changes of the zones alone. -/
theorem trans_id {s t u : State} (h : s.signsFollow t (fun g => g)) (h' : t.signsFollow u (fun g => g)) :
    s.signsFollow u (fun g => g) := h.trans h' fun _ _ _ _ _ _ _ => rfl

/-- What the signs follow is what zones, signs and the fire monitor are. -/
theorem congr {s s' t t' : State} {f : Sign → Sign} (h : s.signsFollow t f) (hsigns : s'.signs = s.signs)
    (hzones : s'.zones = s.zones) (hfire : s'.fire = s.fire) (hsigns' : t'.signs = t.signs) (hzones' : t'.zones = t.zones)
    (hfire' : t'.fire = t.fire) : s'.signsFollow t' f := fun n => by
  rw [hsigns, hsigns']
  obtain ⟨hnone, hsome⟩ := h n
  refine ⟨hnone, fun g hg => ?_⟩
  obtain ⟨g', hg', e, hs⟩ := hsome g hg
  exact ⟨g', hg', e, fun h0 => (hs (h0.congr hfire.symm fun k _ => by rw [hzones])).congr hfire' fun k _ => by rw [hzones']⟩

/-- A change of neither the zones nor the signs goes before. -/
theorem behind {s u t : State} {f : Sign → Sign} (h : u.signsFollow t f) (hsigns : u.signs = s.signs)
    (hzones : u.zones = s.zones) (hfire : u.fire = s.fire) : s.signsFollow t f :=
  h.congr hsigns.symm hzones.symm hfire.symm rfl rfl rfl

end State.signsFollow

/-- R39, R122: signs marked after one zone has changed have followed it. -/
theorem State.signsMarked.follow {s t : State} {zone : Nat} {b : Bool} (h : s.signsMarked t zone b) (hfire : t.fire = s.fire)
    (hother : ∀ k, k ≠ zone → (Table.get t.zones k).map Zone.shown = (Table.get s.zones k).map Zone.shown)
    (hsame : b = false → (Table.get t.zones zone).map Zone.shown = (Table.get s.zones zone).map Zone.shown) :
    s.signsFollow t (fun g => g) := fun n => by
  obtain ⟨hnone, hsome⟩ := h.only
  refine ⟨hnone n, fun g hg => ?_⟩
  obtain ⟨g', hg', e⟩ := hsome n g hg
  refine ⟨g', hg', e, fun hs => ?_⟩
  rw [h n, hg, Option.map_some, Option.some.injEq] at hg'
  subst hg'
  split
  · exact State.recomputed_soundIn t hs
  · next hm =>
    refine hs.congr hfire fun k hk => ?_
    by_cases hkz : k = zone
    · subst hkz
      exact hsame (by simpa [hk] using hm)
    · exact hother k hkz

theorem State.changeCauses_follow (s : State) (zone : Nat) (f : Causes → Causes) :
    s.signsFollow (s.changeCauses zone f) (fun g => g) := by
  cases hz : Table.get s.zones zone with
  | none =>
    have hsame : s.changeCauses zone f = s := by unfold State.changeCauses; rw [hz]
    rw [hsame]
    exact .of_eq rfl rfl rfl fun _ _ _ => rfl
  | some z =>
    refine (State.changeCauses_marked hz f).follow (s.changeCauses_keeps zone f .fire (by decide)) (fun k hk => ?_) fun hsame => ?_
    · rw [State.changeCauses_get]
      simp [hk]
    · have hf : f z.causes = z.causes := by simpa using hsame
      rw [State.changeCauses_get, hz]
      simp [hf]

theorem State.judgeAirCause_follow (s : State) (zone : Nat) : s.signsFollow (s.judgeAirCause zone) (fun g => g) := by
  unfold State.judgeAirCause
  split
  · exact .of_eq rfl rfl rfl fun _ _ _ => rfl
  · exact s.changeCauses_follow zone _

/-- A zone's record written over that shows what it showed. -/
theorem State.setZone_follow {s : State} {zone : Nat} {z z' : Zone} (hz : Table.get s.zones zone = some z)
    (hshown : z'.shown = z.shown) : s.signsFollow (s.withZones (Table.set s.zones zone z')) (fun g => g) := fun n =>
  ⟨id, fun g hg => ⟨g, hg, rfl, fun hs => hs.congr rfl fun k _ => by
    by_cases hk : k = zone
    · subst hk; simp [hz, hshown]
    · simp [Table.get_set_ne _ _ hk]⟩⟩

theorem State.judgeStatus_follow (s : State) (zone : Nat) : s.signsFollow (s.judgeStatus zone) (fun g => g) := by
  unfold State.judgeStatus
  split
  · exact .of_eq rfl rfl rfl fun _ _ _ => rfl
  · next z hz =>
    dsimp only
    split
    · exact .of_eq rfl rfl rfl fun _ _ _ => rfl
    · have h := (State.setZone_follow hz (z' := { z with air := { z.air with status := s.airStatusOf zone } }) rfl)
      exact h.trans_id ((State.judgeAirCause_follow _ zone).behind rfl rfl rfl)

theorem State.availabilityNotice_follow (s : State) (m : ZoneSet) : s.signsFollow (s.availabilityNotice m) (fun g => g) := by
  unfold State.availabilityNotice
  induction zonesIn m generalizing s with
  | nil => exact .of_eq rfl rfl rfl fun _ _ _ => rfl
  | cons n ns ih => exact (s.judgeStatus_follow n).trans_id (ih _)

theorem State.enterFault_follow (s : State) (group : Nat) (c : FaultCause) : s.signsFollow (s.enterFault group c) (fun g => g) := by
  unfold State.enterFault
  split
  · exact .of_eq rfl rfl rfl fun _ _ _ => rfl
  · exact (State.availabilityNotice_follow _ _).behind rfl rfl rfl

theorem State.judgeDrives_follow (s : State) (group : Nat) : s.signsFollow (s.judgeDrives group) (fun g => g) := by
  cases h : Table.get s.fans group with
  | none =>
    have hsame : s.judgeDrives group = s := by simp [State.judgeDrives, h]
    rw [hsame]
    exact .of_eq rfl rfl rfl fun _ _ _ => rfl
  | some g =>
    rw [State.judgeDrives_eq h]
    split
    · exact (State.enterFault_follow _ group .allDrives).behind rfl rfl rfl
    · split <;> exact .of_eq rfl rfl rfl fun _ _ _ => rfl

theorem State.adjustZone_follow (s : State) (zone : Nat) {f : Zone → Zone} (hf : countsOnly f) :
    s.signsFollow (s.adjustZone zone f) (fun g => g) := by
  cases hz : Table.get s.zones zone with
  | none =>
    rw [State.adjustZone_undefined hz]
    exact .of_eq rfl rfl rfl fun _ _ _ => rfl
  | some z =>
    have hget : ∀ k, Table.get (s.adjustZone zone f).zones k = (Table.get s.zones k).map (fun z =>
        if k = zone then z.adjusted f else z) := fun k => by rw [State.adjustZone_zones, Table.get_modify_eq]
    refine (State.adjustZone_signs hz f).follow (s.adjustZone_keeps zone f .fire (by decide)) (fun k hk => ?_) fun hsame => ?_
    · rw [hget]; simp [hk]
    · have hshown : (z.adjusted f).free = z.free ∧ (z.adjusted f).fill = z.fill := by simpa using hsame
      rw [hget, hz]
      simp [Zone.shown, hshown, Zone.adjusted_causes hf]

theorem State.recount_follow (s : State) (old new : Option Bay) : s.signsFollow (s.recount old new) (fun g => g) := by
  unfold State.recount
  split
  · split
    · exact s.adjustZone_follow _ fun _ => rfl
    · exact (s.adjustZone_follow _ fun _ => rfl).trans_id (State.adjustZone_follow _ _ fun _ => rfl)
  · exact s.adjustZone_follow _ fun _ => rfl
  · exact s.adjustZone_follow _ fun _ => rfl
  · exact .of_eq rfl rfl rfl fun _ _ _ => rfl

theorem State.putBay_follow (s : State) (bay : Nat) (b : Bay) : s.signsFollow (s.putBay bay b) (fun g => g) := by
  have hcount : ∀ (t : Table Bay) (old new : Option Bay), s.signsFollow ((s.withBays t).recount old new) (fun g => g) :=
    fun t old new => (State.recount_follow (s.withBays t) old new).behind rfl rfl rfl
  unfold State.putBay
  split
  · exact .of_eq rfl rfl rfl fun _ _ _ => rfl
  · dsimp only
    split
    · exact .of_eq rfl rfl rfl fun _ _ _ => rfl
    · split
      · exact (hcount _ _ _).congr rfl rfl rfl rfl rfl rfl
      · exact hcount _ _ _

/-! ### The AIR items of a notice (R70) -/

/-- R70: the item that a new air status raises. -/
def AirStatus.reason (st : AirStatus) : Reason := if st = .lost then .airLost else .airRestored

/-- The AIR items before and after a change of one zone's status at most. -/
theorem State.judgeStatus_airItems (s : State) (zone k : Nat) (p : Port) :
    Table.get ((s.judgeStatus zone).port p).att.air k =
      if k = zone ∧ (Table.get s.zones zone).any (fun z => decide (s.airStatusOf zone ≠ z.air.status)) = true
      then some (s.airStatusOf zone).reason else Table.get (s.port p).att.air k := by
  cases hz : Table.get s.zones zone with
  | none =>
    have hsame : s.judgeStatus zone = s := by unfold State.judgeStatus; rw [hz]
    simp [hsame]
  | some z =>
    by_cases hst : s.airStatusOf zone = z.air.status
    · have hsame : s.judgeStatus zone = s := by unfold State.judgeStatus; rw [hz]; simp [hst]
      simp [hsame, hst]
    · obtain ⟨u, hu, hair⟩ : ∃ u : State, s.judgeStatus zone = u.judgeAirCause zone ∧
          (u.port p).att.air = Table.set (s.port p).att.air zone (s.airStatusOf zone).reason := by
        unfold State.judgeStatus
        rw [hz]
        dsimp only
        rw [if_neg hst]
        refine ⟨_, rfl, ?_⟩
        have h := State.raise_items (s.withZones (Table.set s.zones zone
          { z with air := { z.air with status := s.airStatusOf zone } })) .air zone (s.airStatusOf zone).reason p .air
        rw [if_pos rfl] at h
        refine Eq.trans ?_ h
        cases s.airStatusOf zone <;> rfl
      have hport : (u.judgeAirCause zone).port p = u.port p := (u.judgeAirCause_keeps zone).port (by simp)
      rw [hu, hport, hair]
      by_cases hk : k = zone
      · subst hk; simp [hst]
      · simp [hk, Table.get_set_ne _ _ hk]

/-- The AIR items after a notice. -/
theorem State.forEach_judgeStatus_airItems (ns : List Nat) (s : State) (k : Nat) (p : Port) :
    Table.get ((State.forEach State.judgeStatus ns s).port p).att.air k =
      if k ∈ ns ∧ (Table.get s.zones k).any (fun z => decide (s.airStatusOf k ≠ z.air.status)) = true
      then some (s.airStatusOf k).reason else Table.get (s.port p).att.air k := by
  induction ns generalizing s with
  | nil => simp [State.forEach]
  | cons n ns ih =>
    have hfans : (s.judgeStatus n).fans = s.fans := s.judgeStatus_keeps n .fans (by decide)
    rw [State.forEach, ih, State.judgeStatus_airItems, State.judgeStatus_get, State.airStatusOf_congr hfans]
    by_cases hk : k = n
    · subst hk
      cases hz : Table.get s.zones k <;> simp
    · simp [hk]

theorem State.availabilityNotice_airItems (s : State) (m : ZoneSet) (k : Nat) (p : Port) :
    Table.get ((s.availabilityNotice m).port p).att.air k =
      if m.getLsbD k = true ∧ (Table.get s.zones k).any (fun z => decide (s.airStatusOf k ≠ z.air.status)) = true
      then some (s.airStatusOf k).reason else Table.get (s.port p).att.air k := by
  unfold State.availabilityNotice
  rw [State.forEach_judgeStatus_airItems]
  simp only [mem_zonesIn]

end Sys2Proof.Machine

/-! ## Proofs: a group's drives judged after news of one of them (R77, R78, R80) -/

namespace Sys2Proof.Machine

/-! ### What a group's state becomes -/

theorem State.drivesJudged_state (s : State) (g : Fan) : (s.drivesJudged g).state = if s.faults g then .fault else g.state := by
  rw [State.drivesJudged_eq]
  split <;> rfl

theorem State.drivesJudged_degraded (s : State) (g : Fan) :
    (s.drivesJudged g).degraded = (!s.faults g && s.degrades g) := by
  rw [State.drivesJudged_eq]
  cases s.faults g <;> rfl

theorem State.faults_available {s : State} {g : Fan} (h : s.faults g = true) : g.state.available = true := by
  unfold State.faults at h
  simp only [Bool.and_eq_true] at h
  exact h.2

/-- R80: a group enters FAULT exactly where its drives, judged, put it there. -/
theorem State.faults_iff_fell (s : State) (g : Fan) :
    s.faults g = (decide (g.state ≠ .fault) && decide ((s.drivesJudged g).state = .fault)) := by
  rw [State.drivesJudged_state]
  cases h : s.faults g with
  | true =>
    have := State.faults_available h
    cases hst : g.state <;> simp_all [FanState.available]
  | false => cases hst : g.state <;> simp

/-! ### Items and zones -/

/-- R80: what a group entering FAULT makes of the items. -/
theorem State.enterFault_items {s : State} {group : Nat} {g : Fan} (h : Table.get s.fans group = some g) (c : FaultCause)
    (p : Port) :
    (∀ n, Table.get ((s.enterFault group c).port p).att.fan n =
      if n = group then some .fault else Table.get (s.port p).att.fan n) ∧
    ∀ k, Table.get ((s.enterFault group c).port p).att.air k =
      if g.served.getLsbD k = true ∧
        (Table.get s.zones k).any (fun z => decide ((s.enterFault group c).airStatusOf k ≠ z.air.status)) = true
      then some ((s.enterFault group c).airStatusOf k).reason else Table.get (s.port p).att.air k := by
  obtain ⟨u, hu, hfan, hair, hzones⟩ : ∃ u : State, s.enterFault group c = u.availabilityNotice g.served ∧
      (u.port p).att.fan = Table.set (s.port p).att.fan group .fault ∧ (u.port p).att.air = (s.port p).att.air ∧
      u.zones = s.zones := by
    unfold State.enterFault
    rw [h]
    dsimp only
    exact ⟨_, rfl, by rw [State.raise_port]; cases p <;> rfl, by rw [State.raise_port]; cases p <;> rfl, rfl⟩
  have hstand : ((u.availabilityNotice g.served).port p).att.fan = (u.port p).att.fan :=
    u.availabilityNotice_itemsStand g.served (l := [.fan]) (by decide) p .fan (by decide)
  have hstatus : ∀ k, (u.availabilityNotice g.served).airStatusOf k = u.airStatusOf k :=
    State.airStatusOf_congr (State.availabilityNotice_fans _ _)
  rw [hu]
  refine ⟨fun n => ?_, fun k => ?_⟩
  · rw [hstand, hfan]
    by_cases hn : n = group
    · subst hn; simp
    · simp [hn, Table.get_set_ne _ _ hn]
  · rw [State.availabilityNotice_airItems, hair, hzones, hstatus]

/-- R78: what judging a group's drives makes of the items. -/
theorem State.judgeDrives_items {s : State} {group : Nat} {g : Fan} (h : Table.get s.fans group = some g) (p : Port) :
    (∀ n, Table.get ((s.judgeDrives group).port p).att.fan n =
      if n = group ∧ s.faults g = true then some .fault
      else if n = group ∧ g.degraded = false ∧ (s.drivesJudged g).degraded = true then some .degraded
      else Table.get (s.port p).att.fan n) ∧
    ∀ k, Table.get ((s.judgeDrives group).port p).att.air k =
      if (s.faultZones group).getLsbD k = true ∧
        (Table.get s.zones k).any (fun z => decide ((s.judgeDrives group).airStatusOf k ≠ z.air.status)) = true
      then some ((s.judgeDrives group).airStatusOf k).reason else Table.get (s.port p).att.air k := by
  have hzones : s.faultZones group = if s.faults g then g.served else 0 := by
    unfold State.faultZones
    rw [h]
  rw [State.drivesJudged_degraded, hzones, State.judgeDrives_eq h]
  cases hf : s.faults g with
  | true =>
    have hg : Table.get (s.changeFan group (fun g => { g with degraded := false })).fans group =
      some { g with degraded := false } := by rw [State.changeFan_read, h]; simp
    obtain ⟨h1, h2⟩ := State.enterFault_items hg .allDrives p
    refine ⟨fun n => ?_, h2⟩
    have h1' := h1 n
    simp only [if_true, and_true, Bool.not_true, Bool.false_and, Bool.false_eq_true, and_false, if_false]
    exact h1'
  | false =>
    simp only [Bool.false_eq_true, if_false, and_false, Bool.not_false, Bool.true_and]
    by_cases hd : (s.degrades g && !g.degraded) = true
    · rw [if_pos hd]
      simp only [Bool.and_eq_true, Bool.not_eq_true'] at hd
      refine ⟨fun n => ?_, fun k => ?_⟩
      · rw [State.raise_port]
        show Table.get (Table.set (s.port p).att.fan group .degraded) n = _
        by_cases hn : n = group
        · subst hn; simp [hd]
        · simp [hn, Table.get_set_ne _ _ hn]
      · rw [State.raise_port]
        simp
        rfl
    · rw [if_neg hd]
      refine ⟨fun n => ?_, fun k => ?_⟩
      · rw [if_neg]
        · rfl
        · rintro ⟨-, h1, h2⟩
          simp [h1, h2] at hd
      · simp
        rfl

theorem Zone.withStatus_causesSound {fire : Bool} {st : AirStatus} {z : Zone} (h : z.causesSound fire) :
    (z.withStatus st).causesSound fire := by
  obtain ⟨h1, h2, h3⟩ := h
  unfold Zone.withStatus
  split
  · exact ⟨h1, h2, h3⟩
  · exact ⟨h1, h2, rfl⟩

/-- R78: a zone that a fall does not announce is served as it was. -/
theorem State.judgeDrives_serving (s : State) (group : Nat) {k : Nat} (hk : (s.faultZones group).getLsbD k = false) (n : Nat) :
    (s.judgeDrives group).serving k n = s.serving k n := by
  unfold State.serving
  rw [State.judgeDrives_fans, Table.get_modify_eq, Option.map_map]
  by_cases hn : n = group
  · subst hn
    cases hg : Table.get s.fans n with
    | none => rfl
    | some g =>
      by_cases hserved : g.served.getLsbD k = true
      · have hfree : s.faults g = false := by
          by_contra hfault
          simp only [Bool.not_eq_false] at hfault
          simp [State.faultZones, hg, hfault, hserved] at hk
        simp [Fan.duty, State.drivesJudged_available hfree]
      · simp [Fan.duty, Option.filter_some, hserved]
  · congr 2
    simp [hn, Function.comp_def]

theorem State.judgeDrives_itemsStand (s : State) (group : Nat) :
    s.itemsStand (s.judgeDrives group) [.fire, .node, .bay, .link] := by
  have hfault : ∀ (u : State) (c : FaultCause), u.itemsStand (u.enterFault group c) [.fire, .node, .bay, .link] := fun u c => by
    unfold State.enterFault
    split
    · exact .refl _ _
    · exact ((State.itemsStand.of_keeps ((u.changeFan_keeps _ _).seq (State.leaveQueue_keeps _ _) (n := [.fans, .queue])
        (by decide) (by decide)) _).trans (.raise _ (by decide) _ _)).trans (State.availabilityNotice_itemsStand _ _ (by decide))
  have hchange : ∀ f, s.itemsStand (s.changeFan group f) [.fire, .node, .bay, .link] := fun f =>
    .of_keeps (s.changeFan_keeps group f) _
  cases h : Table.get s.fans group with
  | none =>
    have hsame : s.judgeDrives group = s := by simp [State.judgeDrives, h]
    rw [hsame]
    exact .refl _ _
  | some g =>
    rw [State.judgeDrives_eq h]
    split
    · exact (hchange _).trans (hfault _ _)
    · split
      · exact (hchange _).trans (.raise _ (by decide) _ _)
      · exact hchange _

/-! ### News of a drive -/

/-- `groupsJudged`, with every item of a group that neither falls nor is newly DEGRADED as it was. -/
def State.groupsTold (s t : State) (hit : Fan → Bool) (f : Fan → Fan) : Prop :=
  s.groupsJudged t hit f ∧
  ∀ n g g', Table.get s.fans n = some g → Table.get t.fans n = some g' → g.state = .fault ∨ g'.state ≠ .fault →
    g.degraded = true ∨ g'.degraded = false → ∀ p : Port, Table.get (t.port p).att.fan n = Table.get (s.port p).att.fan n

/-- What is asked of a change of one drive's report. -/
structure Fan.Report (f : Fan → Fan) : Prop where
  state : ∀ g, (f g).state = g.state
  degraded : ∀ g, (f g).degraded = g.degraded
  served : ∀ g, (f g).served = g.served
  nodes : ∀ g, (f g).nodes = g.nodes

/-- R77, R78, R80: one group's report changed and its drives judged. -/
theorem State.judgeDrives_told {s : State} {group : Nat} {g0 : Fan} (hget : Table.get s.fans group = some g0)
    {hit : Fan → Bool} {f : Fan → Fan} (hf : Fan.Report f)
    (hhit : ∀ n g, Table.get s.fans n = some g → hit g = decide (n = group)) :
    s.groupsTold ((s.changeFan group f).judgeDrives group) hit f := by
  obtain ⟨v, hv⟩ : ∃ v, v = s.changeFan group f := ⟨_, rfl⟩
  have hvget : Table.get v.fans group = some (f g0) := by rw [hv, State.changeFan_read, hget]; simp
  have hkeep : s.keepsBut v [.fans] := by rw [hv]; exact s.changeFan_keeps group f
  obtain ⟨t, ht⟩ : ∃ t, t = v.judgeDrives group := ⟨_, rfl⟩
  have htjudge : t.drivesJudged = v.drivesJudged :=
    State.drivesJudged_congr (by rw [ht]; exact v.judgeDrives_keeps group .nodes (by decide))
  have hread : ∀ n, Table.get t.fans n = (Table.get s.fans n).map (fun g => if n = group then v.drivesJudged (f g) else g) := fun n => by
    rw [ht, State.judgeDrives_fans, Table.get_modify_eq, hv, State.changeFan_read, Option.map_map]
    congr 1
    funext g
    by_cases hn : n = group <;> simp [hn]
  have hitems := fun p => (State.judgeDrives_items hvget p).1
  have hport : ∀ p, v.port p = s.port p := fun p => hkeep.port (by simp)
  have hfell := v.faults_iff_fell (f g0)
  rw [hf.state] at hfell
  rw [← hv, ← ht]
  have hjudged : ∀ n g, Table.get s.fans n = some g →
      (if hit g = true then t.drivesJudged (f g) else g) = if n = group then v.drivesJudged (f g) else g := fun n g hg => by
    rw [hhit n g hg, htjudge]
    by_cases hn : n = group <;> simp [hn]
  refine ⟨⟨fun n => ?_, ?_, fun n g hg p => ⟨fun hfall => ?_, fun hnew hdeg => ?_, fun hno => ?_⟩⟩, fun n g g' hg hg' h1 h2 p => ?_⟩
  · rw [hread]
    cases hg : Table.get s.fans n with
    | none => rfl
    | some g => exact congrArg some (hjudged n g hg).symm
  · rw [ht, State.judgeDrives_queue v hvget, hfell, show v.queue = s.queue from hkeep .queue (by decide)]
    have hmem : ∀ n, (Table.get s.fans n).any (fun g => decide (g.state ≠ .fault) &&
        decide ((if hit g = true then t.drivesJudged (f g) else g).state = .fault)) =
        (decide (n = group) && v.faults (f g0)) := fun n => by
      cases hg : Table.get s.fans n with
      | none =>
        have hne : n ≠ group := fun e => by simp [e, hget] at hg
        simp [hne]
      | some g =>
        rw [Option.any_some, hjudged n g hg]
        by_cases hn : n = group
        · subst hn
          obtain rfl : g0 = g := Option.some.inj (hget.symm.trans hg)
          simp [hfell]
        · cases hst : g.state <;> simp [hn, hst]
    rw [← ht]
    simp only [hmem, ← hfell]
    cases hc : v.faults (f g0) with
    | true =>
      rw [if_pos rfl]
      refine List.filter_congr fun n _ => ?_
      by_cases hn : n = group <;> simp [hn]
    | false => simp
  · beta_reduce at hfall
    have hn : n = group := by
      by_contra hne
      rw [hjudged n g hg, if_neg hne] at hfall
      cases hst : g.state <;> simp [hst] at hfall
    subst hn
    obtain rfl : g0 = g := Option.some.inj (hget.symm.trans hg)
    rw [hjudged n g0 hg, if_pos rfl, ← hfell] at hfall
    rw [ht, hitems, if_pos ⟨rfl, hfall⟩]
  · beta_reduce at hdeg
    rw [hjudged n g hg] at hdeg
    have hn : n = group := by
      by_contra hne
      rw [if_neg hne, hnew] at hdeg
      simp at hdeg
    subst hn
    obtain rfl : g0 = g := Option.some.inj (hget.symm.trans hg)
    rw [if_pos rfl] at hdeg
    have hnofault : ¬v.faults (f g0) = true := fun h => by simp [State.drivesJudged_degraded, h] at hdeg
    rw [ht, hitems, if_neg (fun h => hnofault h.2), if_pos ⟨rfl, by rw [hf.degraded, hnew], hdeg⟩]
  · have hn : n ≠ group := by rw [hhit n g hg] at hno; simpa using hno
    rw [ht, hitems, if_neg (fun h => hn h.1), if_neg (fun h => hn h.1), hport]
  · rw [hread, hg, Option.map_some, Option.some.injEq] at hg'
    by_cases hn : n = group
    · subst hn
      obtain rfl : g0 = g := Option.some.inj (hget.symm.trans hg)
      rw [if_pos rfl] at hg'
      subst hg'
      rw [ht, hitems, if_neg, if_neg, hport]
      · rw [hf.degraded]
        rintro ⟨-, h3, h4⟩
        rcases h2 with h2 | h2
        · simp [h3] at h2
        · simp [h4] at h2
      · rintro ⟨-, hfault⟩
        rw [hfault] at hfell
        simp only [Bool.true_eq, Bool.and_eq_true, decide_eq_true_eq] at hfell
        rcases h1 with h1 | h1
        · exact hfell.1 h1
        · exact h1 hfell.2
    · rw [ht, hitems, if_neg (fun h => hn h.1), if_neg (fun h => hn h.1), hport]

/-- R69 to R71: what a group's drives, judged, make of the zones. -/
theorem State.judgeDrives_zonesFollow {s : State} (hw : s.tablesSound) {group : Nat} {g0 : Fan}
    (hget : Table.get s.fans group = some g0) {f : Fan → Fan} (hf : Fan.Report f) :
    s.zonesFollow ((s.changeFan group f).judgeDrives group) := by
  obtain ⟨v, hv⟩ : ∃ v, v = s.changeFan group f := ⟨_, rfl⟩
  have hvget : Table.get v.fans group = some (f g0) := by rw [hv, State.changeFan_read, hget]; simp
  have hkeep : s.keepsBut v [.fans] := by rw [hv]; exact s.changeFan_keeps group f
  have hwv : v.tablesSound := by rw [hv]; exact (s.kept_changeFan group hf.nodes hw).1
  have hduties : s.SameDuties v := by
    rw [hv]
    exact .modify (s.changeFan_fans group f) fun g _ => by simp [Fan.duty, hf.state, hf.served]
  have hstatus : ∀ k, v.airStatusOf k = s.airStatusOf k := fun k => State.airStatusOf_of_serving hw hwv (hduties.serving k)
  obtain ⟨t, ht⟩ : ∃ t, t = v.judgeDrives group := ⟨_, rfl⟩
  have hwt : t.tablesSound := by rw [ht]; exact (v.kept_judgeDrives group hwv).1
  rw [← hv, ← ht]
  have hzones : v.zones = s.zones := hkeep .zones (by decide)
  have hbays : t.bays = s.bays := by rw [ht]; exact (v.judgeDrives_keeps group .bays (by decide)).trans (hkeep .bays (by decide))
  have hport : ∀ p, v.port p = s.port p := fun p => hkeep.port (by simp)
  obtain ⟨hnone, honly, -, -⟩ := v.judgeDrives_airOnly group
  have hread := (v.judgeDrives_noticed group).read
  have hitems := fun p k => (State.judgeDrives_items hvget p).2 k
  rw [← ht] at hnone honly hread
  rw [← ht] at hitems
  have hserving : ∀ k, (v.faultZones group).getLsbD k = false → t.airStatusOf k = s.airStatusOf k := fun k hk => by
    rw [← hstatus k]
    refine State.airStatusOf_of_serving hwv hwt fun n => ?_
    rw [ht]
    exact State.judgeDrives_serving v group hk n
  rw [hzones] at hnone honly hread
  refine fun k => ⟨hnone k, fun z hz => ?_⟩
  obtain ⟨z', hz', honly'⟩ := honly k z hz
  have hz'' := hread k
  rw [hz, hz', Option.map_some, Option.some.injEq] at hz''
  refine ⟨z', hz', ?_, fun hc => ?_, fun hst => ⟨?_, fun hcs => ?_, fun p => ?_⟩⟩
  · rw [honly']
  · rw [hbays]
    rw [honly']
    exact hc
  · rw [hz'']
    split
    · exact Zone.withStatus_status _ z
    · next hm => rw [hst, hserving k (by simpa using hm)]
  · rw [hz'']
    split
    · exact Zone.withStatus_causesSound hcs
    · exact hcs
  · rw [hitems p k, hport, hzones, hz, Option.any_some]
    by_cases hm : (v.faultZones group).getLsbD k = true
    · have hst' : z'.air.status = t.airStatusOf k := by rw [hz'', if_pos hm]; exact Zone.withStatus_status _ z
      by_cases hsame : z'.air.status = z.air.status
      · rw [if_neg (by simp [← hst', hsame]), if_pos hsame]
      · rw [if_pos ⟨hm, by simpa [← hst'] using hsame⟩, if_neg hsame, ← hst']
        unfold AirStatus.reason
        split <;> rfl
    · rw [if_neg (fun h => hm h.1), if_pos (by rw [hz'', if_neg hm])]

end Sys2Proof.Machine

/-! ## Proofs: the owners of a node lost or restored (R8, R49, R77, R127, R146, R162) -/

namespace Sys2Proof.Machine

/-! ### What the zones follow -/

/-- A change of the bays and of their zones' counts alone. -/
theorem State.zonesFollow.of_recounted {s t : State} (hm : Table.Moves (fun _ => Zone.Recounted) s.zones t.zones)
    (hc : s.countsFollow t) (hfans : t.fans = s.fans)
    (hitems : s.itemsStand t [.air]) : s.zonesFollow t := fun k => by
  have hstatus : t.airStatusOf k = s.airStatusOf k := State.airStatusOf_congr hfans k
  refine ⟨hm.undefined k, fun z hz => ?_⟩
  obtain ⟨z', hz', he⟩ := hm.defined k z hz
  obtain ⟨z1, hz1, hcount⟩ := hc k z' hz'
  obtain rfl : z = z1 := Option.some.inj (hz.symm.trans hz1)
  refine ⟨z', hz', ?_, hcount, fun hst => ⟨?_, fun hcs => ?_, fun p => ?_⟩⟩
  · rw [he]
  · rw [hstatus, ← hst, he]
  · rw [he]
    exact hcs
  · rw [if_pos (by rw [he])]
    exact congrArg (fun l => Table.get l k) (hitems p .air (by decide))

/-! ### A sensor head lost (R8) -/

/-- R8: what a lost head's channels make of the state. -/
structure State.ChannelsLost (s t : State) (node : Nat) (channels : List Nat) : Prop where
  bays : ∀ n, Table.get t.bays n = (Table.get s.bays n).map (fun b =>
    if b.node = node ∧ b.channel ∈ channels then
      { b with state := .unknown, confirm := 0, since := if b.state = .unknown then b.since else s.seconds }
    else b)
  watch : ∀ n b, Table.get s.bays n = some b → ∀ p : Port, Table.get (t.port p).att.bay n =
    if (b.node = node ∧ b.channel ∈ channels) ∧ b.state ≠ .unknown ∧ b.marks.watch = true then some .watchChange
    else Table.get (s.port p).att.bay n
  recounted : Table.Moves (fun _ => Zone.Recounted) s.zones t.zones
  counts : s.countsFollow t
  signs : s.signsFollow t (fun g => g)
  items : s.itemsStand t [.fire, .air, .fan, .node, .link]
  keeps : s.keepsBut t bayParts
  kept : s.Kept t

theorem State.Runs.kept {s t : State} (h : s.Runs t) : s.Kept t :=
  h.keeps (P := s.Kept) (fun _ _ _ m hk => hk.trans m.kept) (.refl s)

theorem State.countsFollow.trans {s t u : State} (h : s.countsFollow t) (h' : t.countsFollow u) : s.countsFollow u :=
  fun k z'' hz'' => by
    obtain ⟨z', hz', hc'⟩ := h' k z'' hz''
    obtain ⟨z, hz, hc⟩ := h k z' hz'
    exact ⟨z, hz, fun hs => hc' (hc hs)⟩

/-- R8: a bay lost. -/
theorem Bay.stamped_lost (now : Seconds) (b : Bay) : Bay.stamped now b b.lost =
    { b with state := .unknown, confirm := 0, since := if b.state = .unknown then b.since else now } := by
  unfold Bay.stamped Bay.lost
  by_cases h : b.state = .unknown
  · simp [h]
  · simp [h, Ne.symm h]

theorem State.ChannelsLost.refl (s : State) (node : Nat) : s.ChannelsLost s node [] where
  bays n := by simp
  watch n b _ p := by simp
  recounted := .refl (fun _ => Zone.Recounted.refl) _
  counts := .refl s
  signs := .of_eq rfl rfl rfl fun _ _ _ => rfl
  items := .refl s _
  keeps := .refl s _
  kept := .refl s

/-- R8: the bay of one more channel goes to UNKNOWN. -/
theorem State.ChannelsLost.loseBay {s t : State} {node : Nat} {channels : List Nat} (h : s.ChannelsLost t node channels)
    (hw : s.tablesSound) (hp : s.placesSound) {c : Nat} (hnew : c ∉ channels) :
    s.ChannelsLost (t.loseBay node c) node (channels ++ [c]) := by
  obtain ⟨hwt, -, -, hpt⟩ := h.kept hw
  have hpt := hpt hp
  have hseconds : t.seconds = s.seconds := h.keeps .seconds (by decide)
  -- A bay of another channel is the same before and after, a bay of this one is as it was.
  have hsame : ∀ n b, Table.get s.bays n = some b → ¬(b.node = node ∧ b.channel = c) →
      ((b.node = node ∧ b.channel ∈ channels ++ [c]) ↔ (b.node = node ∧ b.channel ∈ channels)) := fun n b _ hno => by
    simp only [List.mem_append, List.mem_singleton]
    tauto
  cases hat : t.bayAt node c with
  | none =>
    have hstay : t.loseBay node c = t := by unfold State.loseBay; rw [hat]
    have hno : ∀ n b, Table.get s.bays n = some b → ¬(b.node = node ∧ b.channel = c) := fun n b hb hbad => by
      have hb' := h.bays n
      rw [hb, Option.map_some] at hb'
      refine State.bayAt_none.1 hat _ (Table.mem_of_get hb') ?_
      split <;> exact hbad
    rw [hstay]
    refine { h with bays := fun n => ?_, watch := fun n b hb p => ?_ }
    · rw [h.bays]
      cases hb : Table.get s.bays n with
      | none => rfl
      | some b => simp only [Option.map_some, hsame n b hb (hno n b hb)]
    · rw [h.watch n b hb p]
      simp only [hsame n b hb (hno n b hb)]
  | some bay =>
    obtain ⟨b', hb', hplace⟩ := Table.find_some hat
    simp only [Bool.and_eq_true, decide_eq_true_eq] at hplace
    have hgett : Table.get t.bays bay = some b' := Table.get_of_mem hwt.bays.1 hb'
    obtain ⟨b, hget, hbb⟩ : ∃ b, Table.get s.bays bay = some b ∧ b' = b := by
      have hb := h.bays bay
      rw [hgett] at hb
      obtain ⟨b, hget, hb⟩ := Option.map_eq_some_iff.1 hb.symm
      refine ⟨b, hget, ?_⟩
      rw [← hb, if_neg]
      rintro ⟨-, hin⟩
      rw [← hb] at hplace
      have hch : b.channel = c := by
        obtain ⟨-, hch⟩ := hplace
        split at hch <;> exact hch
      exact hnew (hch ▸ hin)
    subst hbb
    have hother : ∀ n b, Table.get s.bays n = some b → n ≠ bay → ¬(b.node = node ∧ b.channel = c) := fun n b2 hb2 hn hbad => by
      obtain ⟨hbays, -, -, -, -⟩ := hp
      exact hn (congrArg Prod.fst ((hbays _ (Table.mem_of_get hb2)).2 _ (Table.mem_of_get hget)
        (hbad.1.trans hplace.1.symm) (hbad.2.trans hplace.2.symm)))
    have hlose : t.loseBay node c = t.putBay bay b'.lost := by
      unfold State.loseBay
      rw [hat]
      dsimp only
      rw [hgett]
    obtain ⟨hnewbay, hrest, -, hwatched⟩ := State.putBay_spec hgett b'.lost
    rw [Bay.stamped_lost, hseconds] at hnewbay
    have hport : ∀ p, (t.putBay bay b'.lost).port p = (t.watched bay b' b'.lost).port p := fun p => hwatched.port (by simp)
    have hmem : b'.channel ∈ channels ++ [c] := by simp [hplace.2]
    have hnot : b'.channel ∉ channels := by rw [hplace.2]; exact hnew
    refine ⟨fun n => ?_, fun n b hb p => ?_, ?_, ?_, ?_, ?_, ?_, h.kept.trans (t.loseBay_runs node c).kept⟩
    · rw [hlose]
      by_cases hn : n = bay
      · subst hn
        have hthis : b'.node = node ∧ b'.channel ∈ channels ++ [c] := ⟨hplace.1, hmem⟩
        rw [hnewbay, hget, Option.map_some, if_pos hthis]
      · rw [hrest n hn, h.bays]
        cases hb : Table.get s.bays n with
        | none => rfl
        | some b => simp only [Option.map_some, hsame n b hb (hother n b hb hn)]
    · rw [hlose, hport]
      by_cases hn : n = bay
      · subst hn
        obtain rfl : b' = b := Option.some.inj (hget.symm.trans hb)
        have hold := h.watch n b' hget p
        rw [if_neg (fun h => hnot h.1.2)] at hold
        unfold State.watched
        by_cases hraise : b'.state ≠ .unknown ∧ b'.marks.watch = true
        · rw [if_pos ⟨Ne.symm hraise.1, hraise.2⟩, State.raise_bayItems, Table.get_set,
            if_pos ⟨⟨hplace.1, hmem⟩, hraise⟩]
        · rw [if_neg (fun h => hraise ⟨Ne.symm h.1, h.2⟩), hold, if_neg (fun h => hraise h.2)]
      · rw [State.watched_bayItems_ne _ _ _ _ hn, h.watch n b hb p]
        simp only [hsame n b hb (hother n b hb hn)]
    · rw [hlose]
      exact h.recounted.trans (fun _ _ _ _ => Zone.Recounted.trans) (t.putBay_moves bay _)
    · rw [hlose]
      exact h.counts.trans (State.putBay_follows hwt.bays.1 hgett _)
    · rw [hlose]
      exact h.signs.trans_id (t.putBay_follow bay _)
    · rw [hlose]
      refine h.items.trans (State.itemsStand.trans ?_ (.of_keeps hwatched _))
      unfold State.watched
      split
      · exact .raise _ (by decide) _ _
      · exact .refl _ _
    · exact h.keeps.trans (t.loseBay_keeps node c)

/-- R8: the bays of a lost head are UNKNOWN, all sixteen channels. -/
theorem State.loseHead_lost {s : State} (hw : s.tablesSound) (hp : s.placesSound) (node : Nat) :
    s.ChannelsLost (s.loseHead node) node (List.range 16) := by
  have key : ∀ (todo done : List Nat) (t : State), s.ChannelsLost t node done → (done ++ todo).Nodup →
      s.ChannelsLost (State.forEach (fun c s => s.loseBay node c) todo t) node (done ++ todo) := by
    intro todo
    induction todo with
    | nil => intro done t h _; rw [List.append_nil]; exact h
    | cons c cs ih =>
      intro done t h hnd
      have hnew : c ∉ done := fun hin => (List.nodup_append.1 hnd).2.2 c hin c List.mem_cons_self rfl
      have h' := ih (done ++ [c]) _ (h.loseBay hw hp hnew) (by rw [List.append_assoc]; exact hnd)
      rw [List.append_assoc] at h'
      exact h'
  exact key (List.range 16) [] s (.refl s node) List.nodup_range

end Sys2Proof.Machine

/-! ## Proofs: the owners told of a lost node and of a restored one (R162) -/

namespace Sys2Proof.Machine

/-! ### What stands -/

theorem Table.get_map_unhit {α : Type} {t : Table α} {c : α → Bool} {f : α → α} (h : ∀ n a, Table.get t n = some a → c a = false)
    (n : Nat) : (Table.get t n).map (fun a => if c a = true then f a else a) = Table.get t n := by
  cases hget : Table.get t n with
  | none => rfl
  | some a => simp [h n a hget]

/-- Zones, bays and groups as they were, and the AIR items. -/
theorem State.zonesFollow.of_eq {s t : State} (hzones : t.zones = s.zones) (hbays : t.bays = s.bays) (hfans : t.fans = s.fans)
    (hitems : s.itemsStand t [.air]) : s.zonesFollow t := by
  refine State.zonesFollow.of_recounted ?_ (fun k z' hz' => ⟨z', hzones ▸ hz', by rw [hbays]; exact id⟩) hfans hitems
  rw [hzones]
  exact .refl (fun _ => Zone.Recounted.refl) _

/-- No group hit, the groups, the queue and the FAN items as they were. -/
theorem State.groupsTold.of_eq {s t : State} {hit : Fan → Bool} {f : Fan → Fan}
    (hhit : ∀ n g, Table.get s.fans n = some g → hit g = false) (hfans : t.fans = s.fans) (hqueue : t.queue = s.queue)
    (hitems : s.itemsStand t [.fan]) : s.groupsTold t hit f := by
  have hitem : ∀ (n : Nat) (p : Port), Table.get (t.port p).att.fan n = Table.get (s.port p).att.fan n := fun n p =>
    congrArg (fun l => Table.get l n) (hitems p .fan (by decide))
  have hsame : ∀ n g, Table.get s.fans n = some g → (if hit g = true then t.drivesJudged (f g) else g) = g := fun n g hg => by
    simp [hhit n g hg]
  have hstate : ∀ g : Fan, (decide (g.state ≠ .fault) && decide (g.state = .fault)) = false := fun g => by
    cases g.state <;> rfl
  refine ⟨⟨fun n => ?_, ?_, fun n g hg p => ⟨fun hfell => ?_, fun h1 h2 => ?_, fun _ => hitem n p⟩⟩, fun n _ _ _ _ _ _ p => hitem n p⟩
  · rw [hfans]
    exact (Table.get_map_unhit hhit n).symm
  · rw [hqueue]
    refine (List.filter_eq_self.2 fun n _ => ?_).symm
    cases hg : Table.get s.fans n with
    | none => rfl
    | some g =>
      rw [Option.any_some]
      beta_reduce
      rw [hsame n g hg, hstate]
      rfl
  · beta_reduce at hfell
    rw [hsame n g hg, hstate] at hfell
    simp at hfell
  · beta_reduce at h2
    rw [hsame n g hg, h1] at h2
    simp at h2

/-! ### A drive's node lost, or judged again -/

theorem Fan.Report.id : Fan.Report (fun g => g) := ⟨fun _ => rfl, fun _ => rfl, fun _ => rfl, fun _ => rfl⟩

theorem Fan.withReport_report (node : Nat) (r : Option DriveReport) : Fan.Report (Fan.withReport node r) where
  state _ := rfl
  degraded _ := rfl
  served _ := rfl
  nodes g := by
    simp only [Fan.nodes, Fan.withReport, List.map_map]
    refine List.map_congr_left fun d _ => ?_
    simp only [Function.comp]
    split <;> rfl

/-- R77: of the groups, the one that lists a node. -/
theorem State.lists_iff {s : State} (hw : s.tablesSound) (hp : s.placesSound) {node group : Nat} (h : s.fanOf node = some group) :
    ∀ n g, Table.get s.fans n = some g → g.drives.any (fun d => decide (d.node = node)) = decide (n = group) := by
  intro n g hg
  obtain ⟨g0, hmem, hany⟩ := Table.find_some h
  by_cases hn : n = group
  · subst hn
    obtain rfl : g0 = g := Option.some.inj ((Table.get_of_mem hw.fans.1 hmem).symm.trans hg)
    rw [hany]
    simp
  · rw [decide_eq_false hn, Bool.eq_false_iff]
    intro hlist
    obtain ⟨d, hd, he⟩ := List.any_eq_true.1 hlist
    have hof := State.fanOf_mem hp (Table.mem_of_get hg) hd
    rw [of_decide_eq_true he, h] at hof
    exact hn (Option.some.inj hof).symm

/-- R77, R78: what news of a FAN node makes of the groups, zones and signs; `op` changes its group's report. -/
theorem State.driveNews {s : State} (hw : s.tablesSound) (hp : s.placesSound) (node : Nat) {t : State} {f : Fan → Fan}
    (hf : Fan.Report f) (hnone : s.fanOf node = none → t = s)
    (hsome : ∀ group, s.fanOf node = some group → t = (s.changeFan group f).judgeDrives group) :
    s.groupsTold t (fun g => g.drives.any (fun d => decide (d.node = node))) f ∧ s.zonesFollow t ∧
      s.signsFollow t (fun g => g) ∧ s.itemsStand t [.fire, .node, .bay, .link] ∧ t.nodes = s.nodes ∧ t.bays = s.bays ∧
      t.lights = s.lights := by
  cases h : s.fanOf node with
  | none =>
    rw [hnone h]
    refine ⟨.of_eq (fun n g hg => ?_) rfl rfl (.refl _ _), .of_eq rfl rfl rfl (.refl _ _), .of_eq rfl rfl rfl fun _ _ _ => rfl,
      .refl _ _, rfl, rfl, rfl⟩
    rw [Bool.eq_false_iff]
    intro hlist
    obtain ⟨d, hd, he⟩ := List.any_eq_true.1 hlist
    exact State.fanOf_none.1 h _ (Table.mem_of_get hg) d hd (of_decide_eq_true he)
  | some group =>
    obtain ⟨g0, hmem, -⟩ := Table.find_some h
    have hget : Table.get s.fans group = some g0 := Table.get_of_mem hw.fans.1 hmem
    have hkeep := State.judgeDrives_keeps (s.changeFan group f) group
    have hchange := s.changeFan_keeps group f
    rw [hsome group h]
    refine ⟨State.judgeDrives_told hget hf (State.lists_iff hw hp h), State.judgeDrives_zonesFollow hw hget hf,
      (State.judgeDrives_follow _ group).behind rfl rfl rfl, ?_, hkeep .nodes (by decide), hkeep .bays (by decide),
      hkeep .lights (by decide)⟩
    exact (State.itemsStand.of_keeps hchange _).trans (State.judgeDrives_itemsStand _ group)

/-! ### A node lost -/

/-- `ownersLost`, with every item of a group that neither falls nor is newly DEGRADED as it was. -/
structure State.Tells (s t : State) (lost : Nat → Bool) : Prop where
  lost : s.ownersLost t lost
  stand : ∀ n g g', Table.get s.fans n = some g → Table.get t.fans n = some g' → g.state = .fault ∨ g'.state ≠ .fault →
    g.degraded = true ∨ g'.degraded = false → ∀ p : Port, Table.get (t.port p).att.fan n = Table.get (s.port p).att.fan n

theorem State.kindOf_of_get {s : State} {node : Nat} {n : Node} (h : Table.get s.nodes node = some n) :
    s.kindOf node = some n.kind := by
  unfold State.kindOf
  rw [h]
  rfl

/-- R162: the owners of a lost node are told, by its kind. -/
theorem State.noticeLost_tells {s : State} (hw : s.tablesSound) (hp : s.placesSound) {node : Nat} {n : Node}
    (hget : Table.get s.nodes node = some n) : s.Tells (s.noticeLost node n.kind) (fun m => decide (m = node)) := by
  have hdown : ∀ (k : NodeKind) (m : Nat), (decide (m = node) && decide (s.kindOf m = some k)) =
      (decide (m = node) && decide (n.kind = k)) := fun k m => by
    by_cases hm : m = node
    · subst hm; simp [State.kindOf_of_get hget]
    · simp [hm]
  obtain ⟨t, ht⟩ : ∃ t, t = s.noticeLost node n.kind := ⟨_, rfl⟩
  have hsec : t.seconds = s.seconds := by rw [ht]; exact s.noticeLost_keeps node n.kind .seconds (by decide)
  -- What no notice of another kind moves.
  have hbays : t.bays = s.bays → s.itemsStand t [.bay] → n.kind ≠ .sensor →
      (∀ m, Table.get t.bays m = (Table.get s.bays m).map (fun b =>
        if (decide (b.node = node) && decide (s.kindOf b.node = some .sensor)) = true then
          { b with state := .unknown, confirm := 0, since := if b.state = .unknown then b.since else t.seconds }
        else b)) ∧
      ∀ m b, Table.get s.bays m = some b → ∀ p : Port, Table.get (t.port p).att.bay m =
        if (decide (b.node = node) && decide (s.kindOf b.node = some .sensor)) = true ∧ b.state ≠ .unknown ∧
          b.marks.watch = true then some .watchChange else Table.get (s.port p).att.bay m := fun h1 h2 hk => by
    refine ⟨fun m => ?_, fun m b _ p => ?_⟩
    · rw [h1]; simp [hdown, hk]
    · rw [if_neg (by simp [hdown, hk])]
      exact congrArg (fun l => Table.get l m) (h2 p .bay (by decide))
  have hlights : t.lights = s.lights → n.kind ≠ .dimmer → ∀ m, Table.get t.lights m = (Table.get s.lights m).map (fun l =>
      if (decide (l.node = node) && decide (s.kindOf l.node = some .dimmer)) = true then { l with unseen := true } else l) :=
    fun h1 hk m => by rw [h1]; simp [hdown, hk]
  have hsigns : s.signsFollow t (fun g => g) → n.kind ≠ .sign → s.signsFollow t (fun g =>
      if (decide (g.config.node = node) && decide (s.kindOf g.config.node = some .sign)) = true
      then { g with unseen := true, sent := none } else g) := fun h1 hk => by simpa [hdown, hk] using h1
  have hgroups : t.fans = s.fans → t.queue = s.queue → s.itemsStand t [.fan] → n.kind ≠ .fan → s.groupsTold t
      (fun g => g.drives.any (fun d => decide (d.node = node) && decide (s.kindOf d.node = some .fan))) (fun g =>
        { g with drives := g.drives.map (fun d => if (decide (d.node = node) && decide (s.kindOf d.node = some .fan)) = true
            then { d with report := none } else d) }) := fun h1 h2 h3 hk =>
    .of_eq (fun m g _ => by simp [hdown, hk]) h1 h2 h3
  rw [← ht]
  cases hkind : n.kind with
  | sensor =>
    have h : s.ChannelsLost t node (List.range 16) := by rw [ht, hkind]; exact State.loseHead_lost hw hp node
    have hch : ∀ m b, Table.get s.bays m = some b → ((decide (b.node = node) && decide (s.kindOf b.node = some .sensor)) = true ↔
        b.node = node ∧ b.channel ∈ List.range 16) := fun m b hb => by
      obtain ⟨hchan, -, -, -, -⟩ := hp
      have hb15 : b.channel ≤ 15 := (hchan _ (Table.mem_of_get hb)).1
      rw [hdown, hkind]
      simp only [decide_true, Bool.and_true, decide_eq_true_eq, List.mem_range]
      exact ⟨fun h => ⟨h, by omega⟩, fun h => h.1⟩
    obtain ⟨hg, hst⟩ := hgroups (h.keeps .fans (by decide)) (h.keeps .queue (by decide)) (h.items.mono (by decide)) (by simp [hkind])
    refine ⟨⟨fun m => ?_, fun m b hb p => ?_, hlights (h.keeps .lights (by decide)) (by simp [hkind]), hsigns h.signs (by simp [hkind]),
      hg, .of_recounted h.recounted h.counts (h.keeps .fans (by decide)) (h.items.mono (by decide)), h.items.mono (by decide)⟩, hst⟩
    · rw [h.bays]
      cases hb : Table.get s.bays m with
      | none => rfl
      | some b => simp only [Option.map_some, hch m b hb, hsec]
    · rw [h.watch m b hb p]
      simp only [hch m b hb]
  | gas =>
    have h : s.keepsBut t [.nodes] := by rw [ht, hkind]; exact s.loseGasHead_keeps node
    obtain ⟨hb, hwatch⟩ := hbays (h .bays (by decide)) (.of_keeps h _) (by simp [hkind])
    obtain ⟨hg, hst⟩ := hgroups (h .fans (by decide)) (h .queue (by decide)) (.of_keeps h _) (by simp [hkind])
    exact ⟨⟨hb, hwatch, hlights (h .lights (by decide)) (by simp [hkind]),
      hsigns (.of_eq (h .signs (by decide)) (h .zones (by decide)) (h .fire (by decide)) fun _ _ _ => rfl) (by simp [hkind]), hg,
      .of_eq (h .zones (by decide)) (h .bays (by decide)) (h .fans (by decide)) (.of_keeps h _), .of_keeps h _⟩, hst⟩
  | dimmer =>
    have ht' : t = s.changeLightOn node (fun l => { l with unseen := true }) := by rw [ht, hkind]; rfl
    have h : s.keepsBut t [.lights] := by rw [ht']; exact s.changeLightOn_keeps node _
    obtain ⟨hb, hwatch⟩ := hbays (h .bays (by decide)) (.of_keeps h _) (by simp [hkind])
    obtain ⟨hg, hst⟩ := hgroups (h .fans (by decide)) (h .queue (by decide)) (.of_keeps h _) (by simp [hkind])
    refine ⟨⟨hb, hwatch, fun m => ?_,
      hsigns (.of_eq (h .signs (by decide)) (h .zones (by decide)) (h .fire (by decide)) fun _ _ _ => rfl) (by simp [hkind]), hg,
      .of_eq (h .zones (by decide)) (h .bays (by decide)) (h .fans (by decide)) (.of_keeps h _), .of_keeps h _⟩, hst⟩
    rw [ht', State.changeLightOn_get hw hp]
    simp [hdown, hkind]
  | fan =>
    have hnews := State.driveNews hw hp node (t := t) (Fan.withReport_report node none)
      (fun hno => by
        rw [ht, hkind]
        show s.driveLost node = s
        unfold State.driveLost
        rw [hno])
      (fun group hof => by
        rw [ht, hkind]
        show s.driveLost node = _
        unfold State.driveLost
        rw [hof])
    obtain ⟨hgroup, hzones, hsign, hitems, hnodes, hbay, hlight⟩ := hnews
    obtain ⟨hb, hwatch⟩ := hbays hbay (hitems.mono (by decide)) (by simp [hkind])
    have hsame : ∀ m, (decide (m = node) && decide (s.kindOf m = some .fan)) = decide (m = node) := fun m => by simp [hdown, hkind]
    have hrep : (fun g : Fan => { g with drives := g.drives.map (fun d => if (decide (d.node = node) &&
        decide (s.kindOf d.node = some .fan)) = true then { d with report := none } else d) }) = Fan.withReport node none := by
      funext g
      simp only [hsame, decide_eq_true_eq]
      rfl
    obtain ⟨hg, hst⟩ := hgroup
    refine ⟨⟨hb, hwatch, hlights hlight (by simp [hkind]), hsigns hsign (by simp [hkind]), ?_, hzones, hitems.mono (by decide)⟩, hst⟩
    simp only [hsame, decide_eq_true_eq]
    exact hg
  | sign =>
    have ht' : t = s.changeSignOn node Sign.lost := by rw [ht, hkind]; rfl
    have h : s.keepsBut t [.signs] := by rw [ht']; exact s.changeSignOn_keeps node _
    obtain ⟨hb, hwatch⟩ := hbays (h .bays (by decide)) (.of_keeps h _) (by simp [hkind])
    obtain ⟨hg, hst⟩ := hgroups (h .fans (by decide)) (h .queue (by decide)) (.of_keeps h _) (by simp [hkind])
    refine ⟨⟨hb, hwatch, hlights (h .lights (by decide)) (by simp [hkind]), fun m => ?_, hg,
      .of_eq (h .zones (by decide)) (h .bays (by decide)) (h .fans (by decide)) (.of_keeps h _), .of_keeps h _⟩, hst⟩
    rw [ht', State.changeSignOn_get hw hp]
    refine ⟨fun hno => by rw [hno]; rfl, fun g hg => ⟨_, by rw [hg, Option.map_some], ?_, fun hs => ?_⟩⟩
    · simp only [hdown, hkind, decide_true, Bool.and_true, decide_eq_true_eq]
      split <;> rfl
    · have hfire : (s.changeSignOn node Sign.lost).fire = s.fire := s.changeSignOn_keeps node _ .fire (by decide)
      have hz : (s.changeSignOn node Sign.lost).zones = s.zones := s.changeSignOn_keeps node _ .zones (by decide)
      split
      · exact Sign.soundIn.congr (s := s) (g := g.lost) hs hfire fun k _ => by rw [hz]
      · exact hs.congr hfire fun k _ => by rw [hz]

end Sys2Proof.Machine

/-! ## Proofs: what the owners make of an answer and of a restored node (R3, R48 to R50, R125, R145, R162, R201) -/

namespace Sys2Proof.Machine

/-! ### A node restored (R77, R127, R146) -/

theorem Table.set_of_get {α : Type} {t : Table α} (hw : (Table.keys t).Pairwise (· < ·)) {k : Nat} {a : α}
    (h : Table.get t k = some a) : Table.set t k a = t := by
  induction t with
  | nil => simp [Table.get] at h
  | cons e t ih =>
    obtain ⟨hlt, hrest⟩ := List.pairwise_cons.1 hw
    simp only [Table.get] at h
    simp only [Table.set]
    by_cases hk : e.1 = k
    · rw [if_pos hk, Option.some.injEq] at h
      rw [if_neg (by omega), if_pos hk]
      exact congrArg (· :: t) (Prod.ext hk.symm h.symm)
    · rw [if_neg hk] at h
      have hlt' : e.1 < k := hlt k (List.mem_map.2 ⟨(k, a), Table.mem_of_get h, rfl⟩)
      rw [if_neg (by omega), if_neg hk, ih hrest h]

theorem State.changeFan_id {s : State} (hw : s.tablesSound) (group : Nat) : s.changeFan group (fun g => g) = s := by
  have hsame : Table.modify s.fans group (fun g => g) = s.fans := by
    cases h : Table.get s.fans group with
    | none => exact Table.modify_of_none h _
    | some g => rw [Table.modify_of_get h, Table.set_of_get hw.fans.1 h]
  unfold State.changeFan
  rw [hsame]
  rfl

theorem State.groupsJudged.of_unhit {s t : State} {hit : Fan → Bool} {f : Fan → Fan}
    (hhit : ∀ n g, Table.get s.fans n = some g → hit g = false) {l : List Field} (h : s.keepsBut t l)
    (hl : ∀ x ∈ [Field.fans, .queue, .items .main, .items .panel], x ∉ l := by simp) : s.groupsJudged t hit f :=
  (State.groupsTold.of_eq hhit (h .fans (hl _ (by decide))) (h .queue (hl _ (by decide)))
    (.of_keeps h _ (hl _ (by decide)) (hl _ (by decide)))).1

theorem State.zonesFollow.of_keeps {s t : State} {l : List Field} (h : s.keepsBut t l)
    (hl : ∀ x ∈ [Field.zones, .bays, .fans, .items .main, .items .panel], x ∉ l := by simp) : s.zonesFollow t :=
  .of_eq (h .zones (hl _ (by decide))) (h .bays (hl _ (by decide))) (h .fans (hl _ (by decide)))
    (.of_keeps h _ (hl _ (by decide)) (hl _ (by decide)))

theorem State.signsFollow.of_keeps {s t : State} {f : Sign → Sign} (hf : ∀ g, f g = g) {l : List Field} (h : s.keepsBut t l)
    (hl : ∀ x ∈ [Field.signs, .zones, .fire], x ∉ l := by simp) : s.signsFollow t f :=
  .of_eq (h .signs (hl _ (by decide))) (h .zones (hl _ (by decide))) (h .fire (hl _ (by decide))) fun _ g _ => hf g

/-- R162: the owners of a restored node are told, by its kind. -/
theorem State.noticeRestored_tells {s : State} (hw : s.tablesSound) (hp : s.placesSound) {node : Nat} {n : Node}
    (hget : Table.get s.nodes node = some n) :
    s.ownersRestored (s.noticeRestored node n.kind) node ∧ s.itemsStand (s.noticeRestored node n.kind) [.node] := by
  have hkindOf : s.kindOf node = some n.kind := State.kindOf_of_get hget
  obtain ⟨t, ht⟩ : ∃ t, t = s.noticeRestored node n.kind := ⟨_, rfl⟩
  have hkeep := s.noticeRestored_keeps_own node n.kind
  rw [← ht] at hkeep ⊢
  -- A kind that has no owner told of it.
  have quiet : ∀ k, n.kind = k → k ≠ .dimmer → k ≠ .sign → k ≠ .fan → t = s →
      s.ownersRestored t node ∧ s.itemsStand t [.node] := fun k hk h1 h2 h3 hts => by
    have hk0 : s.keepsBut t [] := by rw [hts]; exact .refl s _
    refine ⟨⟨fun m => by simp [hts, hkindOf, hk, h1], .of_keeps (fun g => by simp [hkindOf, hk, h2]) hk0,
      fun m g _ hb => by simp [hkindOf, hk, h2] at hb, .of_unhit (fun m g _ => by simp [hkindOf, hk, h3]) hk0, .of_keeps hk0,
      hk0 .bays (by decide), .of_keeps hk0 _⟩, .of_keeps hk0 _⟩
  cases hkind : n.kind with
  | sensor => exact quiet _ hkind (by decide) (by decide) (by decide) (by rw [ht, hkind]; rfl)
  | gas => exact quiet _ hkind (by decide) (by decide) (by decide) (by rw [ht, hkind]; rfl)
  | dimmer =>
    have ht' : t = s.changeLightOn node (fun l => { l with unseen := false }) := by rw [ht, hkind]; rfl
    have h : s.keepsBut t [.lights] := by rw [ht']; exact s.changeLightOn_keeps node _
    refine ⟨⟨fun m => ?_, .of_keeps (fun g => by simp [hkindOf, hkind]) h,
      fun m g _ hb => by simp [hkindOf, hkind] at hb, .of_unhit (fun m g _ => by simp [hkindOf, hkind]) h, .of_keeps h,
      h .bays (by decide), .of_keeps h _⟩, .of_keeps h _⟩
    rw [ht', State.changeLightOn_get hw hp]
    simp [hkindOf, hkind]
  | sign =>
    have ht' : t = s.changeSignOn node Sign.restored := by rw [ht, hkind]; rfl
    have h : s.keepsBut t [.signs] := by rw [ht']; exact s.changeSignOn_keeps node _
    have hread : ∀ m, Table.get t.signs m = (Table.get s.signs m).map (fun g => if g.config.node = node then g.restored else g) :=
      fun m => by rw [ht', State.changeSignOn_get hw hp]
    have hdirty : ∀ g : Sign, g.restored = { g with unseen := false, accepted := none, dirty := true } := fun g => by
      simp [Sign.restored, Sign.judged]
    have hlights : t.lights = s.lights := h .lights (by decide)
    refine ⟨⟨fun m => by simp [hkindOf, hkind, hlights], fun m => ?_, fun m g hg hb => ?_,
      .of_unhit (fun m g _ => by simp [hkindOf, hkind]) h, .of_keeps h, h .bays (by decide), .of_keeps h _⟩, .of_keeps h _⟩
    · rw [hread]
      refine ⟨fun hno => by rw [hno]; rfl, fun g hg => ⟨_, by rw [hg, Option.map_some], ?_, fun hs => ?_⟩⟩
      · by_cases hn : g.config.node = node
        · simp [hkindOf, hkind, hn, hdirty]
        · simp [hn]
      · have hz : t.zones = s.zones := h .zones (by decide)
        split
        · refine Sign.soundIn.congr (s := s) ?_ (h .fire (by decide)) fun k _ => by rw [hz]
          obtain ⟨hcontent, -⟩ := hs
          rw [hdirty]
          exact ⟨hcontent, by simp⟩
        · exact hs.congr (h .fire (by decide)) fun k _ => by rw [hz]
    · rw [hread, Option.map_eq_some_iff] at hg
      obtain ⟨g0, -, rfl⟩ := hg
      simp only [hkindOf, hkind, decide_true, Bool.and_true, decide_eq_true_eq] at hb
      have hn : g0.config.node = node := by
        split at hb
        · rw [hdirty] at hb; exact hb
        · exact hb
      rw [if_pos hn, hdirty]
  | fan =>
    have hnews := State.driveNews hw hp node (t := t) Fan.Report.id
      (fun hno => by
        rw [ht, hkind]
        show s.driveRestored node = s
        unfold State.driveRestored
        rw [hno])
      (fun group hof => by
        rw [ht, hkind, State.changeFan_id hw]
        show s.driveRestored node = _
        unfold State.driveRestored
        rw [hof])
    obtain ⟨hgroup, hzones, hsign, hitems, hnodes, hbay, hlight⟩ := hnews
    obtain ⟨hg, -⟩ := hgroup
    refine ⟨⟨fun m => by simp [hkindOf, hkind, hlight], ?_, fun m g _ hb => by simp [hkindOf, hkind] at hb, ?_, hzones, hbay,
      hitems.mono (by decide)⟩, hitems.mono (by decide)⟩
    · simpa [hkindOf, hkind] using hsign
    · simpa [hkindOf, hkind] using hg

end Sys2Proof.Machine

/-! ## Proofs: what the owners make of a good answer (R3, R48 to R50, R125, R137, R145, R201) -/

namespace Sys2Proof.Machine

/-! ### Codes on the wire -/

theorem byte_eq_iff {b : Byte} {k : Nat} (hk : k < 256) : b = BitVec.ofNat 8 k ↔ b.toNat = k := by
  rw [← BitVec.toNat_inj, BitVec.toNat_ofNat, Nat.mod_eq_of_lt (by omega)]

theorem HeadStatus.ofGasStatus_eq (b : Byte) :
    HeadStatus.ofGasStatus b = if b = 0 then .ready else if b = 1 then .warmup else .fault := by
  have h0 : b = 0 ↔ b.toNat = 0 := byte_eq_iff (by decide)
  have h1 : b = 1 ↔ b.toNat = 1 := byte_eq_iff (by decide)
  simp only [h0, h1]
  unfold HeadStatus.ofGasStatus
  split <;> simp_all

theorem Reading.ofByte_eq (b : Byte) : Reading.ofByte b =
    if b = 0 then .vacant else if b = 1 then .present else if b = 3 then .unused else .fault := by
  have h0 : b = 0 ↔ b.toNat = 0 := byte_eq_iff (by decide)
  have h1 : b = 1 ↔ b.toNat = 1 := byte_eq_iff (by decide)
  have h3 : b = 3 ↔ b.toNat = 3 := byte_eq_iff (by decide)
  simp only [h0, h1, h3]
  unfold Reading.ofByte
  split <;> simp_all

/-- R48, R50: a peak raised by a decoded reading. -/
theorem raisePeak_decoded (p : Option Peak) (maximum raw : Nat) : raisePeak p (decodeGas maximum raw) =
    raisePeak p { value := min maximum raw, overRange := decide (maximum < raw) } := by
  unfold decodeGas
  split
  · next h => rw [Nat.min_eq_right h, decide_eq_false (Nat.not_lt.2 h)]
  · next h => rw [Nat.min_eq_left (by omega), decide_eq_true (by omega)]

/-! ### A gas head's answer (R48 to R50) -/

/-- R48 to R50: a head's record after an answer. -/
def GasHead.answered (status : HeadStatus) (co no2 : Nat) (h : GasHead) : GasHead :=
  { status := status
    coPeak := if status = .ready then
        raisePeak h.coPeak { value := min 999 co, overRange := decide (999 < co) } else h.coPeak
    no2Peak := if status = .ready then
        raisePeak h.no2Peak { value := min 250 no2, overRange := decide (250 < no2) } else h.no2Peak }

theorem State.gasAnswer_spec {s : State} {node : Nat} {n : Node} (hget : Table.get s.nodes node = some n) (co no2 : Nat)
    (status : HeadStatus) :
    Table.get (s.gasAnswer node co no2 status).nodes node = some { n with head := n.head.answered status co no2 } ∧
    (∀ m, m ≠ node → Table.get (s.gasAnswer node co no2 status).nodes m = Table.get s.nodes m) ∧
    (if status = .fault ∧ n.head.status ≠ .fault then s.raise .node node .headFault else s).keepsBut
      (s.gasAnswer node co no2 status) [.nodes] := by
  obtain ⟨h', hh'⟩ : ∃ h' : GasHead, h' = n.head.answered status co no2 := ⟨_, rfl⟩
  have hbody : s.gasAnswer node co no2 status =
      if status = .fault ∧ n.head.status ≠ .fault
      then (s.withNodes (Table.set s.nodes node { n with head := h' })).raise .node node .headFault
      else s.withNodes (Table.set s.nodes node { n with head := h' }) := by
    unfold State.gasAnswer
    rw [hget, hh']
    simp only [raisePeak_decoded, GasHead.answered]
    by_cases hs : status = .ready <;> simp [hs]
  have hnodes : (s.gasAnswer node co no2 status).nodes = Table.set s.nodes node { n with head := h' } := by
    rw [hbody]; split <;> rfl
  rw [hnodes, ← hh']
  refine ⟨Table.get_set _ _ _, fun m hm => Table.get_set_ne _ _ hm, ?_⟩
  rw [hbody]
  split
  · exact (s.withNodes_keeps _).raise (by simp) _ _ _
  · exact s.withNodes_keeps _

/-! ### A drive's answer (R77 to R79) -/

/-- R77, R79: a group's record as a drive of it answers. -/
def Fan.heard (node : Nat) (r : DriveReport) (proven : Proof) (g : Fan) : Fan :=
  { g with
    drives := g.drives.map (fun d => if d.node = node then { d with report := some r } else d)
    proof := if r.running = true ∧ g.state = .running then some proven else g.proof }

theorem Fan.heard_report (node : Nat) (r : DriveReport) (proven : Proof) : Fan.Report (Fan.heard node r proven) where
  state _ := rfl
  degraded _ := rfl
  served _ := rfl
  nodes := (Fan.withReport_report node (some r)).nodes

theorem State.driveAnswer_unlisted {s : State} {node : Nat} (h : s.fanOf node = none) (r : DriveReport) :
    s.driveAnswer node r = s := by
  unfold State.driveAnswer
  rw [h]

theorem State.driveAnswer_listed {s : State} {node group : Nat} (h : s.fanOf node = some group) (r : DriveReport) :
    s.driveAnswer node r = (s.changeFan group (Fan.heard node r
      { expiry := s.seconds + BitVec.ofNat 32 s.settings.proofTime, proven := true })).judgeDrives group := by
  have hheard : ∀ p : Proof, Fan.heard node r p = fun g =>
      if r.running && decide ((g.withReport node (some r)).state = .running)
      then { g.withReport node (some r) with proof := some p } else g.withReport node (some r) := fun p => by
    funext g
    by_cases hr : r.running = true ∧ g.state = .running
    · simp [Fan.heard, Fan.withReport, hr]
    · simp only [Fan.heard, if_neg hr]
      rw [if_neg]
      · rfl
      · rw [Bool.and_eq_true, decide_eq_true_eq]
        exact hr
  unfold State.driveAnswer
  rw [h, hheard]
  rfl

/-! ### A sign's answer (R125) -/

theorem Sign.answered_eq (accepted fault : Bool) (g : Sign) : g.answered accepted fault =
    if g.sent = none then { g with displayFault := some fault }
    else
      { g with
        displayFault := some fault, sent := none, accepted := if accepted = true then g.sent else g.accepted
        dirty := decide ((if accepted = true then g.sent else g.accepted) ≠ some g.content) } := by
  unfold Sign.answered
  cases hs : g.sent with
  | none => simp
  | some c => cases accepted <;> simp [Sign.judged]

/-! ### A sensor head's answer (R3, R137) -/

theorem State.applyReadings_eq_foldl (s : State) (node : Nat) (c : List Byte) : s.applyReadings node c =
    (List.range 16).foldl (fun u k => u.applyReading node k
      (if byteAt c k = 0 then .vacant else if byteAt c k = 1 then .present
       else if byteAt c k = 3 then .unused else .fault)) s := by
  unfold State.applyReadings
  rw [State.forEach_eq_foldl]
  simp only [Reading.ofByte_eq]

/-- R137: aisle presence acts on the groups of the head's zone. -/
theorem State.aislePresence_spec {s : State} {node : Nat} {n : Node} (hget : Table.get s.nodes node = some n) :
    (∀ k, Table.get (s.aislePresence node).lights k = (Table.get s.lights k).map (fun l =>
      if n.zone = some l.zone ∧ l.state ≠ .forced then
        { l with
          state := .active, policy := l.settings.active, nextRamp := none
          holdExpiry := some (s.seconds + BitVec.ofNat 32 l.settings.hold)
          level := (l.ovr.map (fun o => o.level)).getD l.settings.active }
      else l)) ∧ s.keepsBut (s.aislePresence node) [.lights] := by
  cases hz : n.zone with
  | none =>
    have hsame : s.aislePresence node = s := by
      unfold State.aislePresence
      rw [hget]
      simp [hz]
    rw [hsame]
    exact ⟨fun k => by simp, .refl s _⟩
  | some zone =>
    have hmove : s.aislePresence node = s.movement zone := by
      unfold State.aislePresence
      rw [hget]
      simp [hz]
    rw [hmove]
    refine ⟨fun k => ?_, s.movement_keeps zone⟩
    rw [State.movement_lights]
    simp only [Option.some.injEq, eq_comm]

/-! ### What a notice of a lost node leaves -/

theorem State.putBay_itemsStand (s : State) (bay : Nat) (b : Bay) : s.itemsStand (s.putBay bay b) [.node] := by
  cases hget : Table.get s.bays bay with
  | none =>
    have hsame : s.putBay bay b = s := by unfold State.putBay; rw [hget]
    rw [hsame]
    exact .refl s _
  | some old =>
    obtain ⟨-, -, -, hwatched⟩ := State.putBay_spec hget b
    refine State.itemsStand.trans ?_ (.of_keeps hwatched _)
    unfold State.watched
    split
    · exact .raise _ (by decide) _ _
    · exact .refl _ _

theorem State.noticeLost_itemsStand (s : State) (node : Nat) (k : NodeKind) : s.itemsStand (s.noticeLost node k) [.node] := by
  cases k with
  | sensor =>
    refine State.itemsStand.forEach (fun ch u => ?_) _ s
    show u.itemsStand (u.loseBay node ch) [.node]
    unfold State.loseBay
    split
    · exact .refl u _
    · split
      · exact .refl u _
      · exact u.putBay_itemsStand _ _
  | gas => exact .of_keeps (s.loseGasHead_keeps node) _
  | dimmer => exact .of_keeps (s.changeLightOn_keeps node _) _
  | fan =>
    show s.itemsStand (s.driveLost node) [.node]
    unfold State.driveLost
    split
    · exact .refl s _
    · exact (State.itemsStand.of_keeps (s.changeFan_keeps _ _) _).trans ((State.judgeDrives_itemsStand _ _).mono (by decide))
  | sign => exact .of_keeps (s.changeSignOn_keeps node _) _

theorem State.noticeLost_keeps_owners (s : State) (node : Nat) {k : NodeKind} (hk : k ≠ .gas) :
    s.keepsBut (s.noticeLost node k) (ownerParts k) := by
  cases k with
  | sensor => exact s.loseHead_keeps node
  | gas => exact absurd rfl hk
  | dimmer => exact s.changeLightOn_keeps node _
  | fan => exact s.driveLost_keeps node
  | sign => exact s.changeSignOn_keeps node _

/-! ### The whole -/

/-- Settles O40: one lemma per kind of answer, and the notices by `noticeLost_tells` and `noticeRestored_tells`. -/
theorem answersAndNoticesReachTheOwners : Obligations.AnswersAndNoticesReachTheOwners := by
  intro s node n c hw hp hget flag
  refine ⟨fun _ => ⟨rfl, ?_⟩, fun _ rebound => ?_, fun _ rebound => ?_, fun _ rebound => ?_, fun _ rebound => ?_, ?_, ?_⟩
  · have h := State.gasAnswer_spec hget (word2At c 0) (word2At c 2) (HeadStatus.ofGasStatus (byteAt c 4))
    rw [HeadStatus.ofGasStatus_eq] at h
    have hans : s.handAnswer node .gas c false = s.gasAnswer node (word2At c 0) (word2At c 2)
        (if byteAt c 4 = 0 then .ready else if byteAt c 4 = 1 then .warmup else .fault) := by
      rw [← HeadStatus.ofGasStatus_eq]; rfl
    rw [hans]
    intro t status raised
    have hraised : ∀ (p : Option Peak) (maximum raw : Nat),
        raisePeak p { value := min maximum raw, overRange := decide (maximum < raw) } = raised maximum raw p :=
      fun p _ _ => by cases p <;> rfl
    unfold GasHead.answered at h
    rw [hraised, hraised] at h
    exact h
  · have hans : s.handAnswer node .dimmer c rebound =
        s.changeLightOn node (Light.reported (byteAt c 0).toNat (byteAt c 1).toNat) := rfl
    rw [hans]
    exact ⟨fun k => State.changeLightOn_get hw hp node _ k, s.changeLightOn_keeps node _⟩
  · intro t report proven
    have hans : t = s.driveAnswer node report := rfl
    have hnews := State.driveNews hw hp node (t := t) (Fan.heard_report node report proven)
      (fun hno => by rw [hans, State.driveAnswer_unlisted hno]) (fun group hof => by rw [hans, State.driveAnswer_listed hof])
    obtain ⟨hgroup, hzones, hsign, hitems, hnodes, hbay, hlight⟩ := hnews
    obtain ⟨hg, -⟩ := hgroup
    have hkeep : s.keepsBut t (ownerParts .fan) := by rw [hans]; exact s.driveAnswer_keeps node report
    have hrun : report.running = true ↔ flag 0 := by simp [report]
    refine ⟨?_, hzones, hsign, hitems, hkeep⟩
    unfold Fan.heard at hg
    simp only [hrun] at hg
    exact hg
  · intro t
    have hans : t = s.changeSignOn node (Sign.answered (decide (byteAt c 0 = 1)) (decide (byteAt c 1 ≠ 0))) := rfl
    have hread := State.changeSignOn_get hw hp node (Sign.answered (decide (byteAt c 0 = 1)) (decide (byteAt c 1 ≠ 0)))
    rw [hans]
    refine ⟨fun k => ?_, s.changeSignOn_keeps node _⟩
    rw [hread]
    congr 1
    funext g
    rw [Sign.answered_eq]
    by_cases hn : g.config.node = node
    · simp only [hn, if_true, ne_eq, not_true_eq_false, if_false, decide_eq_true_eq]
      rfl
    · simp [hn]
  · intro t read
    have hread : read = s.applyReadings node c := (s.applyReadings_eq_foldl node c).symm
    have hkeep : s.keepsBut read (.lights :: bayParts) := by rw [hread]; exact s.applyReadings_keeps node c
    have hans : t = if flag 16 then read.aislePresence node else read := by rw [hread]; rfl
    have hsec : read.seconds = s.seconds := hkeep .seconds (by decide)
    refine ⟨fun hno => by rw [hans, if_neg hno], fun hyes => ?_⟩
    have hspec := State.aislePresence_spec (s := read) (node := node) (n := n)
      (by rw [show read.nodes = s.nodes from hkeep .nodes (by decide)]; exact hget)
    rw [hsec] at hspec
    rw [hans, if_pos hyes]
    exact hspec
  · have hitems : s.itemsStand (s.noticeLost node n.kind) [.node] := s.noticeLost_itemsStand node n.kind
    refine ⟨hitems, ?_⟩
    split
    · next hk =>
      have hgas : s.noticeLost node n.kind = s.changeNode node (fun n => { n with head := { n.head with status := .unreported } }) := by
        rw [hk]; rfl
      rw [hgas]
      exact ⟨State.changeNode_get hget _, fun m hm => State.changeNode_get_ne _ _ hm, s.changeNode_keeps _ _⟩
    · next hk => exact ⟨(State.noticeLost_tells hw hp hget).lost, s.noticeLost_keeps_owners node hk⟩
  · obtain ⟨hrest, hitems⟩ := State.noticeRestored_tells hw hp hget
    exact ⟨hrest, hitems, s.noticeRestored_keeps_own node n.kind⟩

end Sys2Proof.Machine

/-! ## Proofs: news of several nodes (R162, R164) -/

namespace Sys2Proof.Machine

/-! ### What the owners read -/

/-- The owners' records, and the items of their classes, are as they were. -/
structure State.OwnersAlike (s t : State) : Prop where
  bays : t.bays = s.bays
  zones : t.zones = s.zones
  fans : t.fans = s.fans
  queue : t.queue = s.queue
  signs : t.signs = s.signs
  lights : t.lights = s.lights
  fire : t.fire = s.fire
  items : s.itemsStand t [.fire, .air, .fan, .bay, .link]

namespace State.OwnersAlike

theorem refl (s : State) : s.OwnersAlike s := ⟨rfl, rfl, rfl, rfl, rfl, rfl, rfl, .refl s _⟩

theorem trans {s t u : State} (h : s.OwnersAlike t) (h' : t.OwnersAlike u) : s.OwnersAlike u :=
  ⟨h'.bays.trans h.bays, h'.zones.trans h.zones, h'.fans.trans h.fans, h'.queue.trans h.queue, h'.signs.trans h.signs,
    h'.lights.trans h.lights, h'.fire.trans h.fire, h.items.trans h'.items⟩

theorem symm {s t : State} (h : s.OwnersAlike t) : t.OwnersAlike s :=
  ⟨h.bays.symm, h.zones.symm, h.fans.symm, h.queue.symm, h.signs.symm, h.lights.symm, h.fire.symm,
    fun p k hk => (h.items p k hk).symm⟩

theorem of_keeps {s t : State} {l : List Field} (h : s.keepsBut t l)
    (hl : ∀ x ∈ [Field.bays, .zones, .fans, .queue, .signs, .lights, .fire, .items .main, .items .panel], x ∉ l := by simp) :
    s.OwnersAlike t :=
  ⟨h .bays (hl _ (by decide)), h .zones (hl _ (by decide)), h .fans (hl _ (by decide)), h .queue (hl _ (by decide)),
    h .signs (hl _ (by decide)), h .lights (hl _ (by decide)), h .fire (hl _ (by decide)),
    .of_keeps h _ (hl _ (by decide)) (hl _ (by decide))⟩

/-- An item of a node moves no record. -/
theorem raiseNode (s : State) (m : Nat) (r : Reason) : s.OwnersAlike (s.raise .node m r) :=
  ⟨rfl, rfl, rfl, rfl, rfl, rfl, rfl, .raise s (by decide) m r⟩

theorem item {s t : State} (h : s.OwnersAlike t) {k : AttClass} (hk : k ∈ [AttClass.fire, .air, .fan, .bay, .link] := by simp)
    (p : Port) (n : Nat) : Table.get ((t.port p).att.items k) n = Table.get ((s.port p).att.items k) n :=
  congrArg (fun l => Table.get l n) (h.items p k hk)

end State.OwnersAlike

theorem State.drivesJudged_congr_failed {s t : State} (h : t.driveFailed = s.driveFailed) : t.drivesJudged = s.drivesJudged := by
  funext g
  unfold State.drivesJudged
  rw [h]

theorem State.groupsJudged.congr {s s' t t' : State} {hit : Fan → Bool} {f : Fan → Fan} (h : s.groupsJudged t hit f)
    (hs : s.OwnersAlike s') (ht : t.OwnersAlike t') (hfail : t'.driveFailed = t.driveFailed) : s'.groupsJudged t' hit f := by
  unfold State.groupsJudged at h ⊢
  rw [State.drivesJudged_congr_failed hfail, hs.fans, ht.fans, hs.queue, ht.queue]
  obtain ⟨hfans, hqueue, hitems⟩ := h
  refine ⟨hfans, hqueue, fun n g hg p => ?_⟩
  obtain ⟨h1, h2, h3⟩ := hitems n g hg p
  have e1 : Table.get (s'.port p).att.fan n = Table.get (s.port p).att.fan n := hs.item (k := .fan) (by decide) p n
  have e2 : Table.get (t'.port p).att.fan n = Table.get (t.port p).att.fan n := ht.item (k := .fan) (by decide) p n
  rw [e1, e2]
  exact ⟨h1, h2, h3⟩

theorem State.zonesFollow.congr {s s' t t' : State} (h : s.zonesFollow t) (hs : s.OwnersAlike s') (ht : t.OwnersAlike t') :
    s'.zonesFollow t' := by
  unfold State.zonesFollow at h ⊢
  rw [hs.zones, ht.zones, hs.bays, ht.bays, hs.fire]
  intro k
  have e1 : ∀ p, Table.get (s'.port p).att.air k = Table.get (s.port p).att.air k := fun p => hs.item (k := .air) (by decide) p k
  have e2 : ∀ p, Table.get (t'.port p).att.air k = Table.get (t.port p).att.air k := fun p => ht.item (k := .air) (by decide) p k
  simp only [State.airStatusOf_congr hs.fans, State.airStatusOf_congr ht.fans, e1, e2]
  exact h k

theorem State.ownersLost.congr {s s' t t' : State} {lost : Nat → Bool} (h : s.ownersLost t lost) (hs : s.OwnersAlike s')
    (ht : t.OwnersAlike t') (hkind : s'.kindOf = s.kindOf) (hfail : t'.driveFailed = t.driveFailed)
    (hsec : t'.seconds = t.seconds) : s'.ownersLost t' lost := by
  obtain ⟨hbays, hwatch, hlights, hsigns, hgroups, hzones, hitems⟩ := h
  refine ⟨?_, ?_, ?_, ?_, ?_, hzones.congr hs ht, ?_⟩
  · rw [hs.bays, ht.bays, hsec, hkind]
    exact hbays
  · rw [hs.bays, hkind]
    intro n b hb p
    rw [show Table.get (s'.port p).att.bay n = Table.get (s.port p).att.bay n from hs.item (k := .bay) (by decide) p n,
      show Table.get (t'.port p).att.bay n = Table.get (t.port p).att.bay n from ht.item (k := .bay) (by decide) p n]
    exact hwatch n b hb p
  · rw [hs.lights, ht.lights, hkind]
    exact hlights
  · rw [hkind]
    exact hsigns.congr hs.signs hs.zones hs.fire ht.signs ht.zones ht.fire
  · rw [hkind]
    exact hgroups.congr hs ht hfail
  · exact ((hs.symm.items.mono (by decide)).trans hitems).trans (ht.items.mono (by decide))

theorem State.Tells.congr {s s' t t' : State} {lost : Nat → Bool} (h : s.Tells t lost) (hs : s.OwnersAlike s')
    (ht : t.OwnersAlike t') (hkind : s'.kindOf = s.kindOf) (hfail : t'.driveFailed = t.driveFailed)
    (hsec : t'.seconds = t.seconds) : s'.Tells t' lost := by
  refine ⟨h.lost.congr hs ht hkind hfail hsec, ?_⟩
  rw [hs.fans, ht.fans]
  intro n g g' hg hg' h1 h2 p
  rw [show Table.get (s'.port p).att.fan n = Table.get (s.port p).att.fan n from hs.item (k := .fan) (by decide) p n,
    show Table.get (t'.port p).att.fan n = Table.get (t.port p).att.fan n from ht.item (k := .fan) (by decide) p n]
  exact h.stand n g g' hg hg' h1 h2 p

theorem State.ownersRestored.congr {s s' t t' : State} {node : Nat} (h : s.ownersRestored t node) (hs : s.OwnersAlike s')
    (ht : t.OwnersAlike t') (hkind : s'.kindOf = s.kindOf) (hfail : t'.driveFailed = t.driveFailed) :
    s'.ownersRestored t' node := by
  obtain ⟨hlights, hsigns, hdirty, hgroups, hzones, hbays, hitems⟩ := h
  refine ⟨?_, ?_, ?_, ?_, hzones.congr hs ht, ?_, ?_⟩
  · rw [hs.lights, ht.lights, hkind]
    exact hlights
  · rw [hkind]
    exact hsigns.congr hs.signs hs.zones hs.fire ht.signs ht.zones ht.fire
  · rw [ht.signs, hkind]
    exact hdirty
  · rw [hkind]
    exact hgroups.congr hs ht hfail
  · rw [ht.bays, hs.bays, hbays]
  · exact ((hs.symm.items.mono (by decide)).trans hitems).trans (ht.items.mono (by decide))

end Sys2Proof.Machine

/-! ## Proofs: nodes retired, suspended and resumed (R166, R167, R170) -/

namespace Sys2Proof.Machine

/-! ### A node that is SILENT or SUSPENDED -/

/-- Whether a node is SILENT or SUSPENDED. -/
def State.isDown (s : State) (m : Nat) : Bool :=
  (Table.get s.nodes m).any (fun n => decide (n.liveness = .silent) || decide (n.liveness = .suspended))

theorem State.driveFailed_eq (s : State) (d : Drive) : s.driveFailed d = (s.isDown d.node || d.report.any (fun r => r.fault)) := rfl

theorem State.driveFailed_of_down {s t : State} (h : ∀ m, t.isDown m = s.isDown m) : t.driveFailed = s.driveFailed := by
  funext d
  rw [State.driveFailed_eq, State.driveFailed_eq, h]

/-! ### Requests with effects on the owners -/

/-- A request that is answered OK and whose effect leaves its port's places and SERVICE KEY alone. -/
theorem exec_effects {s v : State} {cmd : Instr} {h : Head} {c : Cls} {body : Request} {l : List Byte} {touched : List Field}
    (hr : requestRow cmd = some (h, body)) (ha : s.accepts h c)
    (hs : serveRequest h.port body c (s.withKey h.key) = serveOk l v) (hk : (s.withKey h.key).keepsBut v touched)
    (hkey : Field.serviceKey ∉ touched) (hplace : Field.places h.port ∉ touched) :
    ∃ t, exec cmd s = .next t ∧ v.keepsBut t [.places h.port] ∧
      (t.port h.port).service = some (answer h body .ok l) ∧ t.serviceKey = h.key ∧
      (t.port h.port).waiting = (s.port h.port).waiting ∧
      s.keepsBut t ([.serviceKey, .places h.port] ++ touched) := by
  have hplaces : (v.port h.port).placesPart = (s.port h.port).placesPart :=
    (hk (.places h.port) hplace).trans (s.withKey_keeps h.key (.places h.port) (by simp))
  refine ⟨_, exec_answered hr ha hs, State.answered_keeps _ _ _ _ _, State.answered_service _ _ _ _ _,
    (State.answered_keeps _ _ _ _ _ .serviceKey (by simp)).trans (hk .serviceKey hkey),
    (State.answered_waiting _ _ _ _ _).trans (congrArg Prod.snd hplaces), ?_⟩
  exact ((s.withKey_keeps h.key).seq hk (n := .serviceKey :: touched) (by simp) (List.subset_cons_self _ _)).seq
    (State.answered_keeps _ _ _ _ _) (by simp) (by simp)

/-! ### A node lost -/

theorem State.changeNode_kindOf {s : State} {node : Nat} {n : Node} (hget : Table.get s.nodes node = some n) {f : Node → Node}
    (hf : (f n).kind = n.kind) : (s.changeNode node f).kindOf = s.kindOf := by
  funext m
  by_cases hm : m = node
  · subst hm
    rw [State.kindOf_of_get hget, State.kindOf_of_get (State.changeNode_get hget f), hf]
  · unfold State.kindOf
    rw [State.changeNode_get_ne s f hm]

/-- R162: a node's record changed and its owners told that it is lost. -/
structure State.NodeLost (s t : State) (node : Nat) (n n' : Node) : Prop where
  record : Table.get t.nodes node =
    some { n' with head := if n.kind = .gas then { n'.head with status := .unreported } else n'.head }
  others : ∀ m, m ≠ node → Table.get t.nodes m = Table.get s.nodes m
  items : s.itemsStand t [.node]
  keeps : s.keepsBut t (.nodes :: ownerParts n.kind)
  told : s.tablesSound → s.placesSound → s.Tells t (fun m => decide (m = node))

theorem State.noticeLost_nodes {s : State} {node : Nat} {n : Node} (hget : Table.get s.nodes node = some n) :
    Table.get (s.noticeLost node n.kind).nodes node =
      some { n with head := if n.kind = .gas then { n.head with status := .unreported } else n.head } ∧
    ∀ m, m ≠ node → Table.get (s.noticeLost node n.kind).nodes m = Table.get s.nodes m := by
  by_cases hk : n.kind = .gas
  · have hgas : s.noticeLost node n.kind = s.changeNode node (fun n => { n with head := { n.head with status := .unreported } }) := by
      rw [hk]; rfl
    rw [hgas, if_pos hk]
    exact ⟨State.changeNode_get hget _, fun m hm => State.changeNode_get_ne _ _ hm⟩
  · have hnodes : (s.noticeLost node n.kind).nodes = s.nodes :=
      s.noticeLost_keeps_owners node hk .nodes (by cases n.kind <;> simp [ownerParts])
    rw [hnodes, if_neg hk]
    exact ⟨hget, fun _ _ => rfl⟩

theorem State.changeNode_lost {s : State} {node : Nat} {n : Node} (hget : Table.get s.nodes node = some n) {f : Node → Node}
    (hf : ∀ n, (f n).at = n.at) (hk : (f n).kind = n.kind) :
    s.NodeLost ((s.changeNode node f).noticeLost node n.kind) node n (f n) := by
  have hget1 := State.changeNode_get hget f
  have hkeep := s.changeNode_keeps node f
  obtain ⟨hself, hother⟩ := State.noticeLost_nodes hget1
  rw [hk] at hself hother
  refine ⟨hself.trans (by rw [← hk]), fun m hm => (hother m hm).trans (State.changeNode_get_ne s f hm),
    (State.itemsStand.of_keeps hkeep _).trans (State.noticeLost_itemsStand _ _ _),
    hkeep.seq (State.noticeLost_keeps_own _ _ _) (by simp) (List.Subset.refl _), fun hw hp => ?_⟩
  obtain ⟨hw1, -, -, hp1⟩ := (s.changeNode_runs node hf).kept hw
  have htold := State.noticeLost_tells hw1 (hp1 hp) hget1
  rw [hk] at htold
  exact htold.congr (State.OwnersAlike.of_keeps hkeep).symm (.refl _) (State.changeNode_kindOf hget hk).symm rfl rfl

/-- R166: a node's record as it becomes SUSPENDED. -/
def Node.suspended (n : Node) : Node := { n with liveness := .suspended, due := false, suspendPending := false }

theorem State.suspendNow_eq {s : State} {node : Nat} {n : Node} (hget : Table.get s.nodes node = some n) :
    s.suspendNow node = (s.changeNode node Node.suspended).noticeLost node n.kind := by
  unfold State.suspendNow
  rw [hget]
  rfl

theorem State.suspendNow_lost {s : State} {node : Nat} {n : Node} (hget : Table.get s.nodes node = some n) :
    s.NodeLost (s.suspendNow node) node n n.suspended := by
  rw [State.suspendNow_eq hget]
  exact State.changeNode_lost hget (fun _ => rfl) rfl

theorem ownerParts_span (k : NodeKind) (i : SpanId) : Field.span i ∉ ownerParts k := by cases k <;> simp [ownerParts]
theorem ownerParts_serviceKey (k : NodeKind) : Field.serviceKey ∉ ownerParts k := by cases k <;> simp [ownerParts]
theorem ownerParts_places (k : NodeKind) (p : Port) : Field.places p ∉ ownerParts k := by cases k <;> simp [ownerParts]

theorem State.NodeLost.span {s t : State} {node : Nat} {n n' : Node} (h : s.NodeLost t node n n') (i : SpanId) :
    t.span i = s.span i := h.keeps (.span i) (by simp [ownerParts_span])

/-! ### Rounds whose nodes leave -/

theorem State.roundFollows.congr {t t' : State} {i : SpanId} {p : Span} (h : t.roundFollows i p) (hspan : t'.span i = t.span i)
    (hnodes : t'.nodes = t.nodes) : t'.roundFollows i p := by
  unfold State.roundFollows State.roundSettled at h ⊢
  rw [hspan, State.nodeLeft_congr hnodes]
  exact h

theorem State.closeRound_stuck (s : State) (i : SpanId) : ((s.closeRound i).span i).stuck = (s.span i).stuck := by
  rw [(s.closeRound_only i).1]

theorem State.closeRound_of_visit {s : State} {i : SpanId} (h : (s.span i).visit ≠ none) : s.closeRound i = s := by
  rcases s.closeRound_cases i with heq | ⟨-, hno, -⟩
  · exact heq
  · exact absurd hno h

/-! ### RETIRE_NODE (R170) -/

theorem State.nodeInUse_eq_false {s : State} {node : Nat} (hb : ∀ e ∈ s.bays, e.2.node ≠ node)
    (hf : ∀ e ∈ s.fans, ∀ d ∈ e.2.drives, d.node ≠ node) (hl : ∀ e ∈ s.lights, e.2.node ≠ node)
    (hs : ∀ e ∈ s.signs, e.2.config.node ≠ node) : s.nodeInUse node = false := by
  have hbays : Table.exists s.bays (fun _ b => decide (b.node = node)) = false := by
    unfold Table.exists
    rw [Table.find_eq_none.2 fun e he => by simpa using hb e he]
    rfl
  simp [State.nodeInUse, hbays, State.fanOf_none.2 hf, State.lightOf_none.2 hl, State.signOf_none.2 hs]

/-- R157, R170: the nodes and the span as a node is retired. -/
theorem State.retireNode_spec {s : State} (hw : s.tablesSound) (node : Nat) (n : Node) :
    Table.get (s.retireNode node n).nodes node = none ∧
    (∀ m, m ≠ node → Table.get (s.retireNode node n).nodes m = Table.get s.nodes m) ∧
    (∀ v, (s.span n.span).visit = some v → v.isTo node = true →
      (s.retireNode node n).span n.span = { s.span n.span with visit := some v.orphaned }) ∧
    (s.visiting node n = false → s.placesSound → (s.retireNode node n).roundFollows n.span (s.span n.span)) ∧
    s.keepsBut (s.retireNode node n) [.nodes, .span n.span] := by
  obtain ⟨u, hu⟩ : ∃ u, u = s.withNodes (Table.erase s.nodes node) := ⟨_, rfl⟩
  have hnodes : u.nodes = Table.erase s.nodes node := by rw [hu]; rfl
  have hspan : u.span n.span = s.span n.span := by rw [hu]; rfl
  have hkeep : s.keepsBut u [.nodes] := by rw [hu]; exact s.withNodes_keeps _
  have hruns : s.Runs u := by
    rw [hu]
    exact (State.Move.nodes _ (fun h => Table.wf_erase h.nodes node) fun _ hs =>
      hs.withNodes (hs.nodesApart.erase node) (Table.forall_erase (p := Node.addressed) hs.addresses node)).runs
  have heq : s.retireNode node n = (u.changeSpan n.span (Span.orphan node)).closeRound n.span := by rw [hu]; rfl
  rw [heq, State.closeRound_nodes, State.changeSpan_nodes, hnodes]
  refine ⟨Table.get_erase_self hw.nodes.1 node, fun m hm => Table.get_erase_ne _ hm, fun v hv hto => ?_, fun hno hp => ?_,
    (hkeep.seq (State.changeSpan_keeps _ _ _) (n := [.nodes, .span n.span]) (by simp) (by simp)).seq
      (State.closeRound_keeps _ _) (by simp) (by simp)⟩
  · have horphan : (s.span n.span).orphan node = { s.span n.span with visit := some v.orphaned } := by
      unfold Span.orphan
      rw [hv]
      exact if_pos hto
    rw [State.closeRound_of_visit, State.changeSpan_span, hspan, horphan]
    rw [State.changeSpan_span, hspan, horphan]
    simp
  · have horphan : (s.span n.span).orphan node = s.span n.span := by
      unfold Span.orphan
      unfold State.visiting at hno
      split
      · rfl
      · next v hv =>
        rw [hv, Option.any_some] at hno
        exact if_neg (by simp [hno])
    obtain ⟨hw1, -, -, hp1⟩ := hruns.kept hw
    obtain ⟨hw2, -, -, hp2⟩ := (State.changeSpan_keeps u n.span (Span.orphan node)).kept (by simp) hw1
    have h := State.closeRound_follows hw2 (hp2 (hp1 hp)) n.span
    rw [State.changeSpan_span, hspan, horphan] at h
    exact h

/-! ### SUSPEND_NODE and RESUME_NODE (R166, R167) -/

/-- R166: a node's record after SUSPEND_NODE. -/
def Node.suspend (visited : Bool) (n : Node) : Node :=
  if n.liveness = .suspended ∨ n.suspendPending = true then n
  else if visited then { n with suspendPending := true }
  else { n.suspended with head := if n.kind = .gas then { n.head with status := .unreported } else n.head }

/-- R166: whether SUSPEND_NODE suspends the node at once. -/
def Node.leavesNow (visited : Bool) (n : Node) : Bool :=
  decide (n.liveness ≠ .suspended) && !n.suspendPending && !visited

theorem State.suspend_spec {s : State} {node : Nat} {n : Node} (hget : Table.get s.nodes node = some n) :
    Table.get (s.suspend node n).nodes node = some (n.suspend (s.visiting node n)) ∧
    (∀ m, m ≠ node → Table.get (s.suspend node n).nodes m = Table.get s.nodes m) ∧
    ((s.suspend node n).span n.span).stuck = (s.span n.span).stuck ∧
    (n.leavesNow (s.visiting node n) = true → s.tablesSound → s.placesSound →
      s.ownersLost (s.suspend node n) (fun m => decide (m = node)) ∧
      (s.suspend node n).roundFollows n.span (s.span n.span)) ∧
    s.itemsStand (s.suspend node n) [.node] ∧
    s.keepsBut (s.suspend node n)
      (.nodes :: if n.leavesNow (s.visiting node n) then .span n.span :: ownerParts n.kind else []) := by
  by_cases hout : n.liveness = .suspended ∨ n.suspendPending = true
  · have heq : s.suspend node n = s := if_pos hout
    have hno : n.leavesNow (s.visiting node n) = false := by
      rcases hout with h | h <;> simp [Node.leavesNow, h]
    have hrec : n.suspend (s.visiting node n) = n := if_pos hout
    rw [heq, hno, hrec]
    exact ⟨hget, fun _ _ => rfl, rfl, by simp, .refl s _, .refl s _⟩
  · cases hv : s.visiting node n with
    | true =>
      have heq : s.suspend node n = s.changeNode node (fun n => { n with suspendPending := true }) :=
        (if_neg hout).trans (if_pos hv)
      have hno : n.leavesNow true = false := by simp [Node.leavesNow]
      have hrec : n.suspend true = { n with suspendPending := true } := if_neg hout
      rw [heq, hno, hrec]
      exact ⟨State.changeNode_get hget _, fun m hm => State.changeNode_get_ne _ _ hm, rfl, by simp,
        .of_keeps (s.changeNode_keeps _ _) _, s.changeNode_keeps _ _⟩
    | false =>
      have heq : s.suspend node n = (s.suspendNow node).closeRound n.span :=
        (if_neg hout).trans (if_neg (by simp [hv]))
      have hyes : n.leavesNow false = true := by
        obtain ⟨h1, h2⟩ := not_or.1 hout
        simp [Node.leavesNow, h1, h2]
      have hrec : n.suspend false =
          { n.suspended with head := if n.kind = .gas then { n.head with status := .unreported } else n.head } := if_neg hout
      have hlost := State.suspendNow_lost hget
      have hclose := (s.suspendNow node).closeRound_keeps n.span
      rw [heq, hyes, hrec, State.closeRound_nodes, State.closeRound_stuck, hlost.span]
      refine ⟨hlost.record, hlost.others, rfl, fun _ hw hp => ⟨?_, ?_⟩, hlost.items.trans (.of_keeps hclose _),
        hlost.keeps.seq hclose (fun f => ?_) (by simp)⟩
      · exact (hlost.told hw hp).lost.congr (.refl s) (.of_keeps hclose) rfl
          (State.driveFailed_of_down fun m => by unfold State.isDown; rw [State.closeRound_nodes])
          (hclose .seconds (by simp))
      · obtain ⟨hw1, -, -, hp1⟩ := (s.suspendNow_runs node).kept hw
        have h := State.closeRound_follows hw1 (hp1 hp) n.span
        rw [hlost.span] at h
        exact h
      · simp only [List.mem_cons, if_true]
        tauto

/-- R167: a node's record after RESUME_NODE. -/
def Node.resume (n : Node) : Node :=
  if n.liveness = .suspended then { n with liveness := .unseen, missCount := 0, roundsPassed := 0, due := false }
  else { n with suspendPending := false }

theorem State.resume_spec {s : State} {node : Nat} {n : Node} (hget : Table.get s.nodes node = some n) :
    Table.get (s.resume node n).nodes node = some n.resume ∧
    (∀ m, m ≠ node → Table.get (s.resume node n).nodes m = Table.get s.nodes m) ∧
    (∀ i, (s.resume node n).span i = s.span i) ∧
    (n.liveness = .suspended → s.tablesSound → s.placesSound → s.ownersRestored (s.resume node n) node) ∧
    s.itemsStand (s.resume node n) [.node] ∧
    s.keepsBut (s.resume node n) (.nodes :: if n.liveness = .suspended then ownerParts n.kind else []) := by
  by_cases hout : n.liveness = .suspended
  · obtain ⟨f, hf⟩ : ∃ f : Node → Node, f = fun n => { n with liveness := .unseen, missCount := 0, roundsPassed := 0, due := false } :=
      ⟨_, rfl⟩
    have hat : ∀ n, (f n).at = n.at := fun n => by rw [hf]
    have hkind : (f n).kind = n.kind := by rw [hf]
    have heq : s.resume node n = (s.changeNode node f).noticeRestored node n.kind := by
      unfold State.resume State.resumeNow
      rw [if_pos hout, hget, hf]
    have hrec : n.resume = f n := by rw [hf]; exact if_pos hout
    have hget1 := State.changeNode_get hget f
    have hkeep := s.changeNode_keeps node f
    have hkeep1 := (s.changeNode node f).noticeRestored_keeps_own node n.kind
    rw [heq, hrec, if_pos hout, State.noticeRestored_nodes]
    have hitems : (s.changeNode node f).itemsStand ((s.changeNode node f).noticeRestored node n.kind) [.node] := by
      cases hk : n.kind with
      | fan =>
        show (s.changeNode node f).itemsStand ((s.changeNode node f).driveRestored node) [.node]
        unfold State.driveRestored
        split
        · exact .refl _ _
        · exact (State.judgeDrives_itemsStand _ _).mono (by decide)
      | sensor => exact .refl _ _
      | gas => exact .refl _ _
      | dimmer => exact .of_keeps (State.changeLightOn_keeps _ _ _) _
      | sign => exact .of_keeps (State.changeSignOn_keeps _ _ _) _
    refine ⟨hget1, fun m hm => State.changeNode_get_ne s f hm, fun i => hkeep1 (.span i) (ownerParts_span _ i), fun _ hw hp => ?_,
      (State.itemsStand.of_keeps hkeep _).trans hitems, hkeep.seq hkeep1 (by simp) (List.subset_cons_self _ _)⟩
    obtain ⟨hw1, -, -, hp1⟩ := (s.changeNode_runs node hat).kept hw
    obtain ⟨hrest, -⟩ := State.noticeRestored_tells hw1 (hp1 hp) hget1
    rw [hkind] at hrest
    exact hrest.congr (State.OwnersAlike.of_keeps hkeep).symm (.refl _) (State.changeNode_kindOf hget hkind).symm rfl
  · have heq : s.resume node n = s.changeNode node (fun n => { n with suspendPending := false }) := if_neg hout
    have hrec : n.resume = { n with suspendPending := false } := if_neg hout
    rw [heq, hrec, if_neg hout]
    exact ⟨State.changeNode_get hget _, fun m hm => State.changeNode_get_ne _ _ hm, fun _ => rfl, fun h => absurd h hout,
      .of_keeps (s.changeNode_keeps _ _) _, s.changeNode_keeps _ _⟩

/-! ### The requests -/

theorem Node.suspend_span (visited : Bool) (n : Node) : (n.suspend visited).span = n.span := by
  unfold Node.suspend
  split
  · rfl
  · split <;> rfl

theorem Node.resume_span (n : Node) : n.resume.span = n.span := by
  unfold Node.resume
  split <;> rfl

/-- R170: RETIRE_NODE of a node to which nothing refers. -/
theorem exec_retireNode {h : Head} {s : State} {node : Nat} {n : Node} (ha : s.accepts h .service) (hnode : node ≤ 255)
    (hget : Table.get s.nodes node = some n) (hfire : s.fire.taken = false) (hw : s.tablesSound)
    (huse : s.nodeInUse node = false) :
    ∃ t, exec (.retireNode h node) s = .next t ∧ Table.get t.nodes node = none ∧
      (∀ m, m ≠ node → Table.get t.nodes m = Table.get s.nodes m) ∧
      (∀ v, (s.span n.span).visit = some v → v.isTo node = true →
        t.span n.span = { s.span n.span with visit := some v.orphaned }) ∧
      (s.visiting node n = false → s.placesSound → t.roundFollows n.span (s.span n.span)) ∧
      s.answers t h (.retireNode node) .ok (nodeView node n (s.span n.span).stuck.isSome) ∧
      s.keepsBut t [.serviceKey, .places h.port, .nodes, .span n.span] := by
  have hkey := s.withKey_keeps h.key
  have hw' : (s.withKey h.key).tablesSound := hw
  have hget' : Table.get (s.withKey h.key).nodes node = some n := hget
  have hserve : serveRequest h.port (.retireNode node) .service (s.withKey h.key) =
      serveOk (nodeView node n (s.span n.span).stuck.isSome) ((s.withKey h.key).retireNode node n) := by
    show serveRetireNode .service node (s.withKey h.key) = _
    unfold serveRetireNode
    rw [need_pos (by simp [within, hnode]), need_pos serviceOnly_service, hget']
    dsimp only
    rw [need_pos (by simpa [State.fireActive] using hfire), need_pos (by
        rw [show (s.withKey h.key).nodeInUse node = s.nodeInUse node from rfl, huse]; rfl),
      State.nodeViewOf_of_get hget', State.withKey_span]
  obtain ⟨hgone, hother, horphan, hround, hkeep⟩ := State.retireNode_spec hw' node n
  obtain ⟨t, ht, hv, hans, hkept⟩ := exec_performs (s := s) (w := s) (cmd := .retireNode h node) rfl ha hserve
    (hkey.seq hkeep (n := .serviceKey :: [.nodes, .span n.span]) (by simp) (by simp)) (by simp)
    (hkeep .serviceKey (by simp))
  have hnodes : t.nodes = _ := hv .nodes (by simp)
  have hspan : t.span n.span = _ := hv (.span n.span) (by simp)
  rw [State.withKey_span] at horphan
  refine ⟨t, ht, by rw [hnodes]; exact hgone, fun m hm => by rw [hnodes]; exact hother m hm,
    fun v hvis hto => hspan.trans (horphan v hvis hto), fun hno hp => ?_, hans, hkept⟩
  have hround' := hround (by unfold State.visiting; rw [State.withKey_span]; exact hno) hp
  rw [State.withKey_span] at hround'
  exact hround'.congr hspan hnodes

/-- Settles O31: by `retireNode_spec`, `suspend_spec` and `resume_spec`. -/
theorem nodesLeaveAndReturn : Obligations.NodesLeaveAndReturn := by
  intro h s node n ha hnode hget visited
  have hkey := s.withKey_keeps h.key
  have hkeyAlike : (s.withKey h.key).OwnersAlike s := (State.OwnersAlike.of_keeps hkey).symm
  have hget' : Table.get (s.withKey h.key).nodes node = some n := hget
  have hvisited : (s.withKey h.key).visiting node n = visited := by
    unfold State.visiting
    rw [State.withKey_span]
    rfl
  have hsame : ∀ {v t : State}, v.keepsBut t [.places h.port] → v.OwnersAlike t := fun hv => .of_keeps hv
  have hfailed : ∀ {v t : State}, v.keepsBut t [.places h.port] → t.driveFailed = v.driveFailed := fun hv => by
    refine State.driveFailed_of_down fun m => ?_
    unfold State.isDown
    rw [hv .nodes (by simp)]
  refine ⟨fun hfire => ?_, fun hfire hw hb hf hl hs => ?_, ?_, ?_⟩
  · refine exec_refuses (cmd := .retireNode h node) rfl ha ?_
    show serveRetireNode .service node (s.withKey h.key) = _
    unfold serveRetireNode
    rw [need_pos (by simp [within, hnode]), need_pos serviceOnly_service, hget']
    exact need_neg (by simpa [State.fireActive] using hfire) _ _ _
  · obtain ⟨t, ht, hgone, hother, horphan, hround, hans, hkept⟩ :=
      exec_retireNode ha hnode hget hfire hw (State.nodeInUse_eq_false hb hf hl hs)
    refine ⟨t, ht, hgone, hother, fun v hvis hv => ⟨fun hc => ?_, fun hr => ?_⟩, hround, hans, hkept⟩
    · rw [horphan v hvis (by simp [Visit.isTo, hv, hc])]
      simp [Visit.orphaned, hc]
    · rw [horphan v hvis (by simp [Visit.isTo, hv, hr])]
      simp [Visit.orphaned, hr]
  · obtain ⟨hself, hother, hstuck, htold, hitems, hkeep⟩ := State.suspend_spec hget'
    rw [hvisited] at hself htold hkeep
    rw [State.withKey_span] at hstuck htold
    have hserve : serveRequest h.port (.suspendNode node) .service (s.withKey h.key) =
        serveOk (nodeView node (n.suspend visited) (s.span n.span).stuck.isSome) ((s.withKey h.key).suspend node n) := by
      show serveSuspendNode .service node (s.withKey h.key) = _
      unfold serveSuspendNode
      rw [need_pos (by simp [within, hnode]), need_pos serviceOnly_service, hget']
      dsimp only
      rw [State.nodeViewOf_of_get hself, Node.suspend_span, hstuck]
    obtain ⟨t, ht, hv, hservice, hkeyed, hwaiting, hkept⟩ := exec_effects (cmd := .suspendNode h node) rfl ha hserve hkeep
      (by split <;> simp [ownerParts_serviceKey]) (by split <;> simp [ownerParts_places])
    have hnodes : t.nodes = _ := hv .nodes (by simp)
    refine ⟨t, ht, ⟨by rw [hnodes]; exact hself, hservice⟩, fun m hm => by rw [hnodes]; exact hother m hm, hkeyed, hwaiting,
      fun hnow hw hp => ?_, hitems.trans (.of_keeps hv _), hkept⟩
    obtain ⟨hlost, hround⟩ := htold hnow hw hp
    exact ⟨hlost.congr hkeyAlike (hsame hv) rfl (hfailed hv) (hv .seconds (by simp)), hround.congr (hv (.span n.span) (by simp)) hnodes⟩
  · obtain ⟨hself, hother, hspan, htold, hitems, hkeep⟩ := State.resume_spec hget'
    simp only [State.withKey_span] at hspan
    have hserve : serveRequest h.port (.resumeNode node) .service (s.withKey h.key) =
        serveOk (nodeView node n.resume (s.span n.span).stuck.isSome) ((s.withKey h.key).resume node n) := by
      show serveResumeNode .service node (s.withKey h.key) = _
      unfold serveResumeNode
      rw [need_pos (by simp [within, hnode]), need_pos serviceOnly_service, hget']
      dsimp only
      rw [State.nodeViewOf_of_get hself, Node.resume_span, hspan]
    obtain ⟨t, ht, hv, hservice, hkeyed, hwaiting, hkept⟩ := exec_effects (cmd := .resumeNode h node) rfl ha hserve hkeep
      (by split <;> simp [ownerParts_serviceKey]) (by split <;> simp [ownerParts_places])
    have hnodes : t.nodes = _ := hv .nodes (by simp)
    refine ⟨t, ht, ⟨by rw [hnodes]; exact hself, hservice⟩, fun m hm => by rw [hnodes]; exact hother m hm, hkeyed, hwaiting,
      fun hout hw hp => ?_, hitems.trans (.of_keeps hv _), hkept⟩
    exact (htold hout hw hp).congr hkeyAlike (hsame hv) rfl (hfailed hv)

end Sys2Proof.Machine

/-! ## Proofs: a drive on a node that is not a FAN (R77, R164) -/

namespace Sys2Proof.Machine

theorem State.forEach_skip {f : Nat → State → State} {ns : List Nat} {s : State} (h : ∀ n ∈ ns, f n s = s) :
    State.forEach f ns s = s := by
  induction ns with
  | nil => rfl
  | cons n ns ih =>
    rw [State.forEach, h n List.mem_cons_self]
    exact ih fun m hm => h m (List.mem_cons_of_mem n hm)

theorem State.forEach_append (f : Nat → State → State) (l l' : List Nat) (s : State) :
    State.forEach f (l ++ l') s = State.forEach f l' (State.forEach f l s) := by
  induction l generalizing s with
  | nil => rfl
  | cons n ns ih => exact ih (f n s)

/-- R164: addresses from `k` on that no node of the span has are passed over. -/
theorem State.silenceSpan_stops {s u : State} {i : SpanId} {k : Nat} (hk : k ≤ 127)
    (hu : State.forEach (State.silenceAt i) (List.range k) s = u)
    (hnone : ∀ e ∈ u.nodes, e.2.span = i → e.2.address < k) : s.silenceSpan i = u := by
  have hsplit : List.range 127 = List.range k ++ (List.range (127 - k)).map (k + ·) := by
    rw [← List.range_add]
    congr 1
    omega
  unfold State.silenceSpan
  rw [hsplit, State.forEach_append, hu]
  refine State.forEach_skip fun a ha => ?_
  obtain ⟨b, -, rfl⟩ := List.mem_map.1 ha
  have hat : u.nodeAt i (k + b) = none := by
    unfold State.nodeAt
    refine Table.find_eq_none.2 fun e he => ?_
    by_cases hs : e.2.span = i
    · have := hnone e he hs
      simp [show e.2.address ≠ k + b by omega]
    · simp [hs]
  unfold State.silenceAt
  rw [hat]

/-- Nodes 3, a FAN at address 1, and 4, a SIGN at address 2, are the nodes of span 1, both LIVE; group 23 lists both as
drives. The span is STUCK and not yet silenced. R97 takes FAN nodes alone, so that no run of the part leads here. -/
def strayDrive : State :=
  { Tests.site with
    nodes := Table.set Tests.site.nodes 4 (Tests.aNode .span1 2 .sign none)
    fans := [(23, { Tests.aFan with drives := [{ node := 3, report := none }, { node := 4, report := none }] })]
    span1 := { Tests.site.span1 with stuck := some { since := 0, retry := 1000, silenced := false } } }

/-- The same span once its nodes are SILENT. -/
def strayDriveSilent : State :=
  State.forEach (State.silenceAt .span1) (List.range 3) ((strayDrive.atMs 10000).changeSpan .span1
    (fun p => { p with stuck := some { since := 0, retry := 1000, silenced := true } }))

theorem strayDrive_tables : strayDrive.tablesSound := by unfold State.tablesSound; decide
theorem strayDrive_places : strayDrive.placesSound := by unfold State.placesSound; decide

theorem strayDrive_silenced : strayDrive.silenceStuck .span1 = strayDriveSilent :=
  State.silenceSpan_stops (k := 3) (by decide) rfl (by decide)

/-- R77, R164: node 3 falls SILENT first, and the group is judged while node 4 is LIVE: it is DEGRADED. Node 4 falls
SILENT next; the notice of a SIGN reaches no drive, and the group is not judged again. -/
theorem strayDriveSilent_state : (Table.get strayDriveSilent.fans 23).map (fun g => g.state) = some .stopped := by decide

/-- Refutes O42: of `strayDrive`, whose group 23 lists a SIGN node as a drive. STUCK_SILENCING leaves the group STOPPED
and DEGRADED; the statement has its drives judged by the state at the end, where both nodes are SILENT, which is FAULT. -/
theorem not_spanSticksAndFrees : ¬ Obligations.SpanSticksAndFrees := by
  intro hall
  obtain ⟨-, -, -, -, hstuck⟩ := hall strayDrive .span1
  obtain ⟨-, -, hsilences, -, -⟩ := hstuck { since := 0, retry := 1000, silenced := false } rfl
  obtain ⟨t, ht, -, -, -, -, hlost, -⟩ := hsilences rfl strayDrive_tables strayDrive_places
  have hexec : exec (.stuckSilencing .span1) strayDrive = .next strayDriveSilent :=
    congrArg Host.Outcome.next strayDrive_silenced
  obtain rfl : t = strayDriveSilent := Host.Outcome.next.inj (ht.symm.trans hexec)
  obtain ⟨-, -, -, -, ⟨hfans, -, -⟩, -, -⟩ := hlost
  have hgroup := congrArg (Option.map (fun g => g.state)) (hfans 23)
  rw [strayDriveSilent_state] at hgroup
  exact absurd hgroup (by decide)

end Sys2Proof.Machine

/-! ## Proofs: a visit that fails (R161, R162, R166) -/

namespace Sys2Proof.Machine

/-! ### Owners told again of a lost node -/

theorem Table.modify_self {α : Type} {t : Table α} (hw : (Table.keys t).Pairwise (· < ·)) {k : Nat} {a : α}
    (h : Table.get t k = some a) {f : α → α} (hf : f a = a) : Table.modify t k f = t := by
  rw [Table.modify_of_get h, hf, Table.set_of_get hw h]

theorem State.changeFan_self {s : State} (hw : s.tablesSound) {group : Nat} {g : Fan} (h : Table.get s.fans group = some g)
    {f : Fan → Fan} (hf : f g = g) : s.changeFan group f = s := by
  unfold State.changeFan
  rw [Table.modify_self hw.fans.1 h hf]
  rfl

/-- R78, R80: judged drives do not put their group in FAULT again. -/
theorem State.drivesJudged_faults (s : State) (g : Fan) : s.faults (s.drivesJudged g) = false := by
  have hdrives : (s.drivesJudged g).drives = g.drives := by rw [State.drivesJudged_only]
  have hstate := s.drivesJudged_state g
  cases hf : s.faults g with
  | true =>
    rw [hf, if_pos rfl] at hstate
    simp [State.faults, hstate, FanState.available]
  | false =>
    rw [hf, if_neg Bool.false_ne_true] at hstate
    unfold State.faults at hf ⊢
    rw [hdrives, hstate, hf]

theorem State.drivesJudged_degrades (s : State) (g : Fan) :
    s.degrades (s.drivesJudged g) = (s.drivesJudged g).degraded := by
  have hdrives : (s.drivesJudged g).drives = g.drives := by rw [State.drivesJudged_only]
  rw [State.drivesJudged_degraded]
  unfold State.degrades State.faults
  rw [hdrives]
  cases g.drives.all (fun d => !s.driveFailed d) <;> cases g.drives.all s.driveFailed <;>
    cases g.state.available <;> rfl

theorem State.judgeDrives_self {s : State} (hw : s.tablesSound) {group : Nat} {g : Fan} (h : Table.get s.fans group = some g)
    {g0 : Fan} (hg : g = s.drivesJudged g0) : s.judgeDrives group = s := by
  have hfaults : s.faults g = false := by rw [hg, State.drivesJudged_faults]
  have hdegrades : s.degrades g = g.degraded := by rw [hg, State.drivesJudged_degrades]
  have hsame : s.changeFan group (fun g => { g with degraded := s.degrades g }) = s :=
    State.changeFan_self hw h (by rw [hdegrades])
  rw [State.judgeDrives_eq h, hfaults, hdegrades, hsame]
  cases g.degraded <;> rfl

/-- R162: owners that have been told of a lost node have nothing to change when they are told of it again. -/
theorem State.noticeLost_again {s u : State} (hw : u.tablesSound) {node : Nat} {k : NodeKind} (hkind : s.kindOf node = some k)
    (h : s.ownersLost u (fun m => decide (m = node))) : u.OwnersAlike (u.noticeLost node k) := by
  obtain ⟨hbays, -, hlights, hsigns, ⟨hfans, -, -⟩, -, -⟩ := h
  cases k with
  | gas => exact .of_keeps (u.loseGasHead_keeps node)
  | sensor =>
    have hself : u.loseHead node = u := State.forEach_skip fun c _ => by
      show u.loseBay node c = u
      unfold State.loseBay
      cases hat : u.bayAt node c with
      | none => rfl
      | some bay =>
        obtain ⟨b, hmem, hb⟩ := Table.find_some hat
        simp only [Bool.and_eq_true, decide_eq_true_eq] at hb
        have hget := Table.get_of_mem hw.bays.1 hmem
        have hlost : b.lost = b := by
          have := hbays bay
          rw [hget] at this
          obtain ⟨b0, -, hb0⟩ := Option.map_eq_some_iff.1 this.symm
          have hn : b0.node = node := by rw [← hb.1, ← hb0]; split <;> rfl
          rw [← hb0, if_pos (by simp [hn, hkind])]
          rfl
        dsimp only
        rw [hget]
        dsimp only
        unfold State.putBay
        rw [hget]
        exact if_pos hlost
    rw [show u.noticeLost node .sensor = u from hself]
    exact .refl u
  | dimmer =>
    have hself : u.changeLightOn node (fun l => { l with unseen := true }) = u := by
      unfold State.changeLightOn
      cases hof : u.lightOf node with
      | none => rfl
      | some m =>
        obtain ⟨l, hmem, hl⟩ := Table.find_some hof
        have hget := Table.get_of_mem hw.lights.1 hmem
        have hunseen : { l with unseen := true } = l := by
          have := hlights m
          rw [hget] at this
          obtain ⟨l0, -, hl0⟩ := Option.map_eq_some_iff.1 this.symm
          have hn : l0.node = node := by rw [← of_decide_eq_true hl, ← hl0]; split <;> rfl
          rw [← hl0, if_pos (by simp [hn, hkind])]
        dsimp only
        rw [Table.modify_self hw.lights.1 hget hunseen]
        rfl
    rw [show u.noticeLost node .dimmer = u from hself]
    exact .refl u
  | sign =>
    have hself : u.changeSignOn node Sign.lost = u := by
      unfold State.changeSignOn
      cases hof : u.signOf node with
      | none => rfl
      | some m =>
        obtain ⟨g, hmem, hg⟩ := Table.find_some hof
        have hget := Table.get_of_mem hw.signs.1 hmem
        have hlost : g.lost = g := by
          obtain ⟨hno, hsome⟩ := hsigns m
          obtain ⟨g0, hg0⟩ := Option.ne_none_iff_exists'.1 fun h0 => by simp [hno h0] at hget
          obtain ⟨g1, hg1, he, -⟩ := hsome g0 hg0
          obtain rfl := Option.some.inj (hget.symm.trans hg1)
          beta_reduce at he
          have hn : g0.config.node = node := by
            by_contra hn
            rw [if_neg (by simp [hn])] at he
            exact hn ((congrArg (fun x : Sign => x.config.node) he).symm.trans (of_decide_eq_true hg))
          rw [if_pos (by simp [hn, hkind])] at he
          rw [he]
          rfl
        dsimp only
        rw [Table.modify_self hw.signs.1 hget hlost]
        rfl
    rw [show u.noticeLost node .sign = u from hself]
    exact .refl u
  | fan =>
    have hself : u.driveLost node = u := by
      unfold State.driveLost
      cases hof : u.fanOf node with
      | none => rfl
      | some group =>
        obtain ⟨g, hmem, hg⟩ := Table.find_some hof
        have hget := Table.get_of_mem hw.fans.1 hmem
        have hjudged := hfans group
        rw [hget] at hjudged
        obtain ⟨g0, -, hg0⟩ := Option.map_eq_some_iff.1 hjudged.symm
        have hdown : ∀ m, (decide (m = node) && decide (s.kindOf m = some .fan)) = decide (m = node) := fun m => by
          by_cases hm : m = node
          · subst hm; simp [hkind]
          · simp [hm]
        simp only [hdown] at hg0
        have hhit : g0.drives.any (fun d => decide (d.node = node)) = true := by
          by_contra hno
          rw [if_neg hno] at hg0
          exact hno (hg0 ▸ hg)
        rw [if_pos hhit] at hg0
        have hdrives : g.drives = g0.drives.map (fun d => if decide (d.node = node) = true then { d with report := none } else d) := by
          rw [← hg0, State.drivesJudged_only]
        have hreport : g.withReport node none = g := by
          unfold Fan.withReport
          rw [hdrives, List.map_map]
          have hone : ((fun d : Drive => if d.node = node then { d with report := none } else d) ∘
              fun d => if decide (d.node = node) = true then { d with report := none } else d) =
              fun d => if decide (d.node = node) = true then { d with report := none } else d := by
            funext d
            by_cases hd : d.node = node <;> simp [hd]
          rw [hone, ← hdrives]
        dsimp only
        rw [State.changeFan_self hw hget hreport]
        exact State.judgeDrives_self hw hget hg0.symm
    rw [show u.noticeLost node .fan = u from hself]
    exact .refl u

end Sys2Proof.Machine

/-! ## Proofs: what a failed visit makes of its node and the owners (R161, R162, R166) -/

namespace Sys2Proof.Machine

/-! ### The node's record -/

/-- R161: a miss counted. -/
def Node.missedBy (e : VisitError) (n : Node) : Node := { n with missCount := min 15 (n.missCount + 1), lastError := some e }

/-- R161: a node's record as it becomes SILENT. -/
def Node.silenced (n : Node) : Node := { n with liveness := .silent, roundsPassed := 0, due := false }

/-- R161: whether a miss makes the node SILENT. -/
def Node.falls (missLimit : Nat) (n : Node) : Bool :=
  decide ((n.liveness = .live ∨ n.liveness = .unseen) ∧ missLimit ≤ min 15 (n.missCount + 1))

/-- R161: a node's record once a miss is counted and judged. -/
def Node.struck (missLimit : Nat) (e : VisitError) (n : Node) : Node :=
  if n.falls missLimit then (n.missedBy e).silenced else n.missedBy e

theorem Node.missed_eq (missLimit : Nat) (e : VisitError) (n : Node) : n.missed missLimit e =
    if n.suspendPending then (n.struck missLimit e).suspended else n.struck missLimit e := by
  unfold Node.missed Node.struck Node.falls
  dsimp only
  by_cases h : (n.liveness = .live ∨ n.liveness = .unseen) ∧ missLimit ≤ min 15 (n.missCount + 1)
  · rw [if_pos h, decide_eq_true h]
    rfl
  · rw [if_neg h, decide_eq_false h]
    rfl

theorem State.changeNode_congr {s : State} {node : Nat} {n : Node} (hget : Table.get s.nodes node = some n) {f g : Node → Node}
    (h : f n = g n) : s.changeNode node f = s.changeNode node g := by
  unfold State.changeNode
  rw [Table.modify_of_get hget, Table.modify_of_get hget, h]

theorem State.failedVisit_eq {s : State} {node : Nat} {n : Node} (hget : Table.get s.nodes node = some n) (e : VisitError) :
    s.failedVisit node e = if n.falls s.settings.missLimit = true then (s.changeNode node (Node.missedBy e)).silenceNode node
      else s.changeNode node (Node.missedBy e) := by
  unfold State.failedVisit Node.falls
  rw [hget]
  dsimp only
  rw [State.changeNode_congr hget (f := fun m => { m with missCount := min 15 (n.missCount + 1), lastError := some e })
    (g := Node.missedBy e) rfl]
  simp only [decide_eq_true_eq]

/-! ### Changes before a notice -/

theorem State.NodeLost.after {s u : State} {node : Nat} {n n' : Node} {f : Node → Node}
    (h : (s.changeNode node f).NodeLost u node (f n) n') (hget : Table.get s.nodes node = some n) (hf : ∀ n, (f n).at = n.at)
    (hk : (f n).kind = n.kind) : s.NodeLost u node n n' := by
  have hkeep := s.changeNode_keeps node f
  refine ⟨by rw [h.record, hk], fun m hm => (h.others m hm).trans (State.changeNode_get_ne s f hm),
    (State.itemsStand.of_keeps hkeep _).trans h.items, hkeep.seq (hk ▸ h.keeps) (by simp) (List.Subset.refl _), fun hw hp => ?_⟩
  obtain ⟨hw1, -, -, hp1⟩ := (s.changeNode_runs node hf).kept hw
  exact (h.told hw1 (hp1 hp)).congr (State.OwnersAlike.of_keeps hkeep).symm (.refl _) (State.changeNode_kindOf hget hk).symm rfl rfl

/-- R161: a node becomes SILENT: its owners are told, then SILENT is raised. -/
theorem State.silenceNode_lost {s : State} {node : Nat} {n : Node} (hget : Table.get s.nodes node = some n) :
    ∃ u, s.Runs u ∧ s.NodeLost u node n n.silenced ∧ s.silenceNode node = u.raise .node node .silent := by
  have hsilence : s.silenceNode node = ((s.changeNode node Node.silenced).noticeLost node n.kind).raise .node node .silent := by
    unfold State.silenceNode
    rw [hget]
    rfl
  exact ⟨_, (s.changeNode_runs node (f := Node.silenced) fun _ => rfl).trans (State.noticeLost_runs _ _ _),
    State.changeNode_lost hget (fun _ => rfl) rfl, hsilence⟩

/-! ### A node told SILENT, then SUSPENDED -/

theorem State.isDown_of_get {s : State} {m : Nat} {n : Node} (h : Table.get s.nodes m = some n) :
    s.isDown m = (decide (n.liveness = .silent) || decide (n.liveness = .suspended)) := by
  unfold State.isDown
  rw [h]
  rfl

theorem State.isDown_congr {s t : State} {m : Nat} (h : Table.get t.nodes m = Table.get s.nodes m) : t.isDown m = s.isDown m := by
  unfold State.isDown
  rw [h]

/-- Two states whose node tables agree but for one node, down in both, fail the same drives. -/
theorem State.driveFailed_of_one {s t : State} {node : Nat} (h : ∀ m, m ≠ node → Table.get t.nodes m = Table.get s.nodes m)
    (hs : s.isDown node = true) (ht : t.isDown node = true) : t.driveFailed = s.driveFailed :=
  State.driveFailed_of_down fun m => by
    by_cases hm : m = node
    · rw [hm, hs, ht]
    · exact State.isDown_congr (h m hm)

/-- R162, R166: owners told that a node is SILENT are as told when it is SUSPENDED next. -/
theorem State.suspendNow_told {s x : State} {node : Nat} {n r : Node} (hw : x.tablesSound) (hget : Table.get x.nodes node = some r)
    (hkind : r.kind = n.kind) (hs : Table.get s.nodes node = some n) (hdown : x.isDown node = true)
    (h : s.ownersLost x (fun m => decide (m = node))) : s.ownersLost (x.suspendNow node) (fun m => decide (m = node)) := by
  obtain ⟨y, hy⟩ : ∃ y, y = x.changeNode node Node.suspended := ⟨_, rfl⟩
  have hkeep : x.keepsBut y [.nodes] := by rw [hy]; exact x.changeNode_keeps node _
  have hgety : Table.get y.nodes node = some r.suspended := by rw [hy]; exact State.changeNode_get hget _
  have hdowny : y.isDown node = true := State.isDown_of_get hgety
  have hlost : s.ownersLost y (fun m => decide (m = node)) :=
    h.congr (.refl s) (.of_keeps hkeep) rfl
      (State.driveFailed_of_one (fun m hm => by rw [hy]; exact State.changeNode_get_ne _ _ hm) hdown hdowny)
      (hkeep .seconds (by decide))
  have hwy : y.tablesSound := by
    rw [hy]
    obtain ⟨hw1, -⟩ := (x.changeNode_runs node (f := Node.suspended) fun _ => rfl).kept hw
    exact hw1
  have hagain := State.noticeLost_again hwy (State.kindOf_of_get hs) hlost
  obtain ⟨hself, hother⟩ := State.noticeLost_nodes hgety
  have hkindy : r.suspended.kind = n.kind := hkind
  rw [hkindy] at hself hother
  rw [State.suspendNow_eq hget, ← hy, hkind]
  exact hlost.congr (.refl s) hagain rfl (State.driveFailed_of_one hother hdowny (State.isDown_of_get hself))
    (y.noticeLost_keeps node n.kind .seconds (by decide))

/-! ### The failed visit -/

/-- R161, R162, R166: a miss of a node, and what it makes of the owners. -/
structure State.NodeMissed (s w : State) (node : Nat) (n : Node) (e : VisitError) : Prop where
  record : Table.get w.nodes node = some { n.missed s.settings.missLimit e with
    head := if (n.falls s.settings.missLimit || n.suspendPending) = true ∧ n.kind = .gas
      then { n.head with status := .unreported } else n.head }
  others : ∀ m, m ≠ node → Table.get w.nodes m = Table.get s.nodes m
  items : ∀ (p : Port) (m : Nat), Table.get (w.port p).att.node m =
    if n.falls s.settings.missLimit = true ∧ m = node then some .silent else Table.get (s.port p).att.node m
  told : (n.falls s.settings.missLimit || n.suspendPending) = true → s.tablesSound → s.placesSound →
    s.ownersLost w (fun m => decide (m = node))
  keeps : s.keepsBut w ([.nodes] ++ (if n.falls s.settings.missLimit || n.suspendPending then ownerParts n.kind else []) ++
    if n.falls s.settings.missLimit then [.items .main, .items .panel] else [])

/-- The items of a class, number by number. -/
theorem State.itemsStand.get {s t : State} {l : List AttClass} (h : s.itemsStand t l) {k : AttClass} (hk : k ∈ l) (p : Port)
    (m : Nat) : Table.get ((t.port p).att.items k) m = Table.get ((s.port p).att.items k) m :=
  congrArg (fun t => Table.get t m) (h p k hk)

theorem State.raise_node_get (s : State) (node : Nat) (r : Reason) (p : Port) (m : Nat) :
    Table.get ((s.raise .node node r).port p).att.node m = if m = node then some r else Table.get (s.port p).att.node m := by
  have h : ((s.raise .node node r).port p).att.node = Table.set (s.port p).att.node node r := s.raise_items .node node r p .node
  rw [h]
  by_cases hm : m = node
  · rw [hm, Table.get_set, if_pos rfl]
  · rw [Table.get_set_ne _ _ hm, if_neg hm]

theorem State.failedVisit_missed {s : State} {node : Nat} {n : Node} (hget : Table.get s.nodes node = some n) (e : VisitError) :
    s.NodeMissed ((s.failedVisit node e).applySuspension node) node n e := by
  obtain ⟨x, hx⟩ : ∃ x, x = s.failedVisit node e := ⟨_, rfl⟩
  have hsusp : ∀ {r : Node}, Table.get x.nodes node = some r →
      x.applySuspension node = if r.suspendPending then x.suspendNow node else x := fun hr => by
    unfold State.applySuspension
    rw [hr]
  rw [← hx]
  rw [State.failedVisit_eq hget] at hx
  cases hfalls : n.falls s.settings.missLimit with
  | false =>
    rw [hfalls, if_neg Bool.false_ne_true] at hx
    have hgetx : Table.get x.nodes node = some (n.missedBy e) := by rw [hx]; exact State.changeNode_get hget _
    have hpend : (n.missedBy e).suspendPending = n.suspendPending := rfl
    have hstruck : n.struck s.settings.missLimit e = n.missedBy e := if_neg (by simp [hfalls])
    rw [hsusp hgetx, hpend]
    cases hp : n.suspendPending with
    | false =>
      rw [if_neg Bool.false_ne_true]
      have hrec : n.missed s.settings.missLimit e = n.missedBy e := by rw [Node.missed_eq, hp, hstruck]; rfl
      have hkeep : s.keepsBut x [.nodes] := by rw [hx]; exact s.changeNode_keeps node _
      have hother : ∀ m, m ≠ node → Table.get x.nodes m = Table.get s.nodes m := fun m hm => by
        rw [hx]; exact State.changeNode_get_ne s _ hm
      refine ⟨?_, hother, fun p m => ?_, ?_, ?_⟩
      · rw [hrec, hfalls, hp]
        exact hgetx
      · rw [hfalls, if_neg (by simp)]
        exact (State.itemsStand.of_keeps hkeep [.node]).get (k := .node) (by decide) p m
      · simp [hfalls, hp]
      · simpa [hfalls, hp] using hkeep
    | true =>
      rw [if_pos rfl]
      have hrec : n.missed s.settings.missLimit e = (n.missedBy e).suspended := by rw [Node.missed_eq, hp, hstruck]; rfl
      have hlost : s.NodeLost (x.suspendNow node) node n (n.missedBy e).suspended := by
        have h := State.suspendNow_lost hgetx
        rw [hx] at h ⊢
        exact h.after hget (fun _ => rfl) rfl
      refine ⟨?_, hlost.others, fun p m => ?_, fun _ hw hp => (hlost.told hw hp).lost, ?_⟩
      · rw [hrec, hfalls, hp]
        exact hlost.record.trans (by simp [Node.suspended, Node.missedBy])
      · rw [hfalls, if_neg (by simp)]
        exact hlost.items.get (k := .node) (by decide) p m
      · simpa [hfalls, hp] using hlost.keeps
  | true =>
    rw [hfalls, if_pos rfl] at hx
    have hget1 : Table.get (s.changeNode node (Node.missedBy e)).nodes node = some (n.missedBy e) := State.changeNode_get hget _
    obtain ⟨u, hruns, hlost1, hraise⟩ := State.silenceNode_lost hget1
    have hlost : s.NodeLost u node n (n.missedBy e).silenced := hlost1.after hget (fun _ => rfl) rfl
    rw [hraise] at hx
    obtain ⟨r, hr⟩ : ∃ r : Node, r = { (n.missedBy e).silenced with
      head := if n.kind = .gas then { n.head with status := .unreported } else n.head } := ⟨_, rfl⟩
    have hgetx : Table.get x.nodes node = some r := by rw [hx, hr]; exact hlost.record
    have hpend : r.suspendPending = n.suspendPending := by rw [hr]; rfl
    have hkindr : r.kind = n.kind := by rw [hr]; rfl
    have hheadr : r.head = if n.kind = .gas then { n.head with status := .unreported } else n.head := by rw [hr]
    have hdown : x.isDown node = true := by rw [State.isDown_of_get hgetx, hr]; rfl
    have hstruck : n.struck s.settings.missLimit e = (n.missedBy e).silenced := if_pos hfalls
    have hkeep : s.keepsBut x (.nodes :: (ownerParts n.kind ++ [.items .main, .items .panel])) := by
      rw [hx]
      exact hlost.keeps.seq (State.raise_keeps _ _ _ _) (by simp) (by simp)
    have hother : ∀ m, m ≠ node → Table.get x.nodes m = Table.get s.nodes m := fun m hm => by
      rw [hx]; exact hlost.others m hm
    have hitem : ∀ (p : Port) (m : Nat), Table.get (x.port p).att.node m =
        if m = node then some .silent else Table.get (s.port p).att.node m := fun p m => by
      rw [hx, State.raise_node_get]
      congr 1
      exact hlost.items.get (k := .node) (by decide) p m
    have htold : s.tablesSound → s.placesSound → s.ownersLost x (fun m => decide (m = node)) := fun hw hp => by
      have hfail : x.driveFailed = u.driveFailed := by rw [hx]; rfl
      have hsec : x.seconds = u.seconds := by rw [hx]; rfl
      refine (hlost.told hw hp).lost.congr (.refl s) ?_ rfl hfail hsec
      rw [hx]
      exact State.OwnersAlike.raiseNode u node .silent
    rw [hsusp hgetx, hpend]
    cases hp : n.suspendPending with
    | false =>
      rw [if_neg Bool.false_ne_true]
      have hrec : n.missed s.settings.missLimit e = (n.missedBy e).silenced := by rw [Node.missed_eq, hp, hstruck]; rfl
      refine ⟨?_, hother, fun p m => ?_, fun _ => htold, ?_⟩
      · rw [hrec, hfalls, hp, hgetx, hr]
        simp
      · rw [hfalls, hitem]
        simp
      · simpa [hfalls, hp] using hkeep
    | true =>
      rw [if_pos rfl]
      have hrec : n.missed s.settings.missLimit e = (n.missedBy e).silenced.suspended := by rw [Node.missed_eq, hp, hstruck]; rfl
      have hlost2 := State.suspendNow_lost hgetx
      refine ⟨?_, fun m hm => (hlost2.others m hm).trans (hother m hm), fun p m => ?_, fun _ hw hps => ?_, ?_⟩
      · rw [hrec, hfalls, hp, hlost2.record, hkindr, hr]
        by_cases hk : n.kind = .gas <;> simp [hk, Node.suspended]
      · rw [hfalls]
        exact (hlost2.items.get (k := .node) (by simp) p m).trans ((hitem p m).trans (by simp))
      · obtain ⟨hw1, -⟩ := (s.changeNode_runs node (f := Node.missedBy e) fun _ => rfl).kept hw
        obtain ⟨hwu, -⟩ := hruns.kept hw1
        have hwx : x.tablesSound := by rw [hx]; exact hwu
        exact State.suspendNow_told hwx hgetx hkindr hget hdown (htold hw hps)
      · have h2 := hlost2.keeps
        rw [hkindr] at h2
        simpa [hfalls, hp] using hkeep.trans (h2.mono (by simp))

end Sys2Proof.Machine

/-! ## Proofs: how a visit ends (R156, R157, R161, R170, R172) -/

namespace Sys2Proof.Machine

/-! ### The state a visit ends in -/

/-- From `s` the part has come to `s0`, where the visit `v` of span `i` is about to end: the parts in `touched` have
moved, among the time base's, and of the span what its bytes move. -/
structure State.Awaits (s s0 : State) (i : SpanId) (v : Visit) (touched : List Field) : Prop where
  keeps : s.keepsBut s0 (touched ++ [.span i])
  clock : touched ⊆ clockParts
  visit : ∃ v', (s0.span i).visit = some v' ∧ v'.node = v.node ∧ v'.address = v.address ∧ v'.fate = v.fate
  inRound : (s0.span i).inRound = (s.span i).inRound
  stuck : (s0.span i).stuck = (s.span i).stuck
  roundStart : (s0.span i).roundStart = (s.span i).roundStart

namespace State.Awaits

variable {s s0 : State} {i : SpanId} {v : Visit} {touched : List Field}

theorem same (h : s.Awaits s0 i v touched) {f : Field} (hclock : f ∉ clockParts := by simp) (hspan : f ≠ .span i := by simp) :
    f.same s s0 :=
  h.keeps f fun hf => by
    rcases List.mem_append.1 hf with hf | hf
    · exact hclock (h.clock hf)
    · exact hspan (List.mem_singleton.1 hf)

theorem kept (h : s.Awaits s0 i v touched) : s.Kept s0 :=
  h.keeps.kept fun f hf hn => by
    rcases List.mem_append.1 hn with hn | hn
    · have := h.clock hn
      simp only [List.mem_cons, List.not_mem_nil, or_false] at hf this
      rcases hf with rfl | rfl | rfl | rfl | rfl | rfl | rfl | rfl <;> simp at this
    · rw [List.mem_singleton.1 hn] at hf
      simp at hf

theorem nodes (h : s.Awaits s0 i v touched) : s0.nodes = s.nodes := h.same (f := .nodes)
theorem settings (h : s.Awaits s0 i v touched) : s0.settings = s.settings := h.same (f := .settings)

theorem itemsStand (h : s.Awaits s0 i v touched) (l : List AttClass) : s.itemsStand s0 l := fun p k _ =>
  PortState.items_eq (h.same (f := .items p)) k

theorem alike (h : s.Awaits s0 i v touched) : s.OwnersAlike s0 :=
  ⟨h.same (f := .bays), h.same (f := .zones), h.same (f := .fans), h.same (f := .queue), h.same (f := .signs),
    h.same (f := .lights), h.same (f := .fire), h.itemsStand _⟩

end State.Awaits

/-- A visit ends at a moment. -/
theorem State.Awaits.at {s : State} {i : SpanId} {v : Visit} (h : (s.span i).visit = some v) (moment : Millis) :
    s.Awaits (s.atMs moment) i v clockParts := by
  have hspan : (s.atMs moment).span i = s.span i := s.atMs_keeps moment (.span i) (by simp)
  refine ⟨(s.atMs_keeps moment).mono (by simp), List.Subset.refl _, ⟨v, by rw [hspan, h], rfl, rfl, rfl⟩, ?_, ?_, ?_⟩ <;> rw [hspan]

/-! ### The span once a visit is over -/

/-- R156, R157: the visit gone, the position set and the round closed where no node is left. -/
theorem State.visitOver_of {s w : State} {i : SpanId} {v : Visit} {a : Nat} (hkept : s.Kept w) (hvisit : (w.span i).visit = none)
    (hround : (w.span i).inRound = (s.span i).inRound) (hstuck : (w.span i).stuck = (s.span i).stuck)
    (hstart : (w.span i).roundStart = (s.span i).roundStart) (ha : a = v.address) :
    s.visitOver ((w.changeSpan i (fun p => { p with position := some a })).closeRound i) i v := by
  obtain ⟨w1, hw1⟩ : ∃ w1, w1 = w.changeSpan i (fun p => { p with position := some a }) := ⟨_, rfl⟩
  have hspan : w1.span i = { w.span i with position := some a } := by rw [hw1]; exact State.changeSpan_span _ _ _
  obtain ⟨honly, hcase⟩ := w1.closeRound_only i
  have hkept1 : w.Kept w1 := by rw [hw1]; exact (State.changeSpan_runs _ _ _).kept
  have hstand : (w1.span i).visit = none ∧ (w1.span i).stuck = (s.span i).stuck ∧
      (w1.span i).roundStart = (s.span i).roundStart ∧ (w1.span i).inRound = (s.span i).inRound ∧
      (w1.span i).position = some v.address := by
    rw [hspan]
    exact ⟨hvisit, hstuck, hstart, hround, by rw [ha]⟩
  obtain ⟨h1, h2, h3, h4, h5⟩ := hstand
  rw [← hw1]
  refine ⟨by rw [honly]; exact h1, ?_, fun hw hp hr hst => ?_, by rw [honly]; exact h2, by rw [honly]; exact h3⟩
  · rw [h4, h5] at hcase
    rcases hcase with ⟨hr, hpos⟩ | ⟨hr, hpos⟩
    · exact .inl ⟨hpos, hr⟩
    · exact .inr ⟨hpos, hr⟩
  · obtain ⟨hw', -, -, hp'⟩ := hkept hw
    obtain ⟨hw'', -, -, hp''⟩ := hkept1 hw'
    have hfollow := State.closeRound_follows hw'' (hp'' (hp' hp)) i
    unfold State.roundFollows at hfollow
    rw [if_pos ⟨h2.trans hst, h1, h4.trans hr⟩, h5] at hfollow
    exact hfollow.2

/-- The span as the visit leaves it. -/
theorem State.withoutVisit_span (s : State) (i : SpanId) :
    (s.changeSpan i (fun p => { p with visit := none })).span i = { s.span i with visit := none } := s.changeSpan_span i _

/-! ### A visit that fails (R161) -/

/-- Whose frames hold what ending a counted visit moves. -/
theorem State.endVisit_counted {s : State} {i : SpanId} {v : Visit} (h : (s.span i).visit = some v) (hf : v.fate = .counted)
    (e : VisitEnd) : s.endVisit i e = (((s.changeSpan i (fun p => { p with visit := none })).applyOutcome v e).changeSpan i
      (fun p => { p with position := some v.address })).closeRound i := by
  unfold State.endVisit
  rw [h]
  dsimp only
  rw [hf]

/-- What ending a visit moves: of the span, the nodes and what the owners move. -/
theorem keeps_ended {s s1 w t : State} {i : SpanId} {touched owners items : List Field} (h1 : s.keepsBut s1 (touched ++ [.span i]))
    (h2 : s1.keepsBut w ([.nodes] ++ owners ++ items)) (h3 : w.keepsBut t [.span i]) :
    s.keepsBut t (touched ++ [.span i, .nodes] ++ owners ++ items) := by
  refine ((h1.mono fun f hf => ?_).trans (h2.mono fun f hf => ?_)).trans (h3.mono (by simp))
  · simp only [List.mem_append, List.mem_cons] at hf ⊢
    tauto
  · simp only [List.mem_append, List.mem_cons] at hf ⊢
    tauto

/-- R161, R162, R166: a failed visit. -/
theorem State.Awaits.fails {s s0 : State} {i : SpanId} {v : Visit} {touched : List Field} (h : s.Awaits s0 i v touched)
    (hf : v.fate = .counted) {n : Node} (hget : Table.get s.nodes v.node = some n) (e : VisitError) :
    s.visitFails (s0.endVisit i (.failed e)) i v n e touched := by
  obtain ⟨v', hv', hnode, haddr, hfate⟩ := h.visit
  obtain ⟨s1, hs1⟩ : ∃ s1, s1 = s0.changeSpan i (fun p => { p with visit := none }) := ⟨_, rfl⟩
  obtain ⟨w, hw⟩ : ∃ w, w = s1.applyOutcome v' (.failed e) := ⟨_, rfl⟩
  obtain ⟨t, ht⟩ : ∃ t, t = (w.changeSpan i (fun p => { p with position := some v'.address })).closeRound i := ⟨_, rfl⟩
  have heq : s0.endVisit i (.failed e) = t := by
    rw [State.endVisit_counted hv' (hfate.trans hf), ht, hw, hs1]
  have hkeep1 : s0.keepsBut s1 [.span i] := by rw [hs1]; exact State.changeSpan_keeps _ _ _
  have hspan1 : s1.span i = { s0.span i with visit := none } := by rw [hs1]; exact s0.withoutVisit_span i
  have hnodes1 : s1.nodes = s.nodes := (hkeep1 .nodes (by simp)).trans h.nodes
  have hset1 : s1.settings = s.settings := (hkeep1 .settings (by simp)).trans h.settings
  have hmiss : s1.NodeMissed w v.node n e := by
    rw [hw, ← hnode]
    exact State.failedVisit_missed (by rw [hnodes1, hnode]; exact hget) e
  have hkeept : w.keepsBut t [.span i] := by
    rw [ht]
    exact (State.changeSpan_keeps _ _ _).seq (State.closeRound_keeps _ _) (by simp) (by simp)
  have hnodest : t.nodes = w.nodes := hkeept .nodes (by simp)
  have hspanw : w.span i = s1.span i := by
    rw [hw]
    exact s1.applyOutcome_keeps v' _ (.span i) (by simp)
  have halike1 : s.OwnersAlike s1 := h.alike.trans (.of_keeps hkeep1)
  have hkept1 : s.Kept s1 := h.kept.trans (by rw [hs1]; exact (State.changeSpan_runs _ _ _).kept)
  have hkeptw : s.Kept w := hkept1.trans (by rw [hw]; exact (State.applyOutcome_runs _ _ _).kept)
  rw [heq]
  obtain ⟨hrec, hother, hitems, htold, hkeep⟩ := hmiss
  rw [hset1] at hrec hitems htold hkeep
  refine ⟨?_, fun m hm => ?_, ?_, fun p m => ?_, fun htell hw hp => ?_, ?_⟩
  · rw [hnodest]
    exact hrec
  · rw [hnodest, hother m hm, hnodes1]
  · rw [ht]
    refine State.visitOver_of hkeptw ?_ ?_ ?_ ?_ haddr
    · rw [hspanw, hspan1]
    · rw [hspanw, hspan1]; exact h.inRound
    · rw [hspanw, hspan1]; exact h.stuck
    · rw [hspanw, hspan1]; exact h.roundStart
  · have h1 : Table.get (t.port p).att.node m = Table.get (w.port p).att.node m :=
      (State.itemsStand.of_keeps hkeept [.node]).get (k := .node) (by decide) p m
    have h2 : Table.get (s1.port p).att.node m = Table.get (s.port p).att.node m :=
      ((h.itemsStand [.node]).trans (.of_keeps hkeep1 _)).get (k := .node) (by decide) p m
    rw [h1, hitems, h2]
    rfl
  · obtain ⟨hw1, -, -, hp1⟩ := hkept1 hw
    refine (htold htell hw1 (hp1 hp)).congr halike1.symm (.of_keeps hkeept) ?_ ?_ (hkeept .seconds (by simp))
    · unfold State.kindOf
      rw [hnodes1]
    · exact State.driveFailed_of_down fun m => State.isDown_congr (by rw [hnodest])
  · have hfirst : s.keepsBut s1 (touched ++ [.span i]) := h.keeps.seq hkeep1 (List.Subset.refl _) (by simp)
    exact keeps_ended hfirst hkeep hkeept

end Sys2Proof.Machine

/-! ## Proofs: visits whose outcome is discarded, and the limits of a visit (R159, R161, R170, R172) -/

namespace Sys2Proof.Machine

/-- R166: a node's record as it becomes SUSPENDED, its head UNREPORTED (R49). -/
def Node.left (n : Node) : Node :=
  { n.suspended with head := if n.kind = .gas then { n.head with status := .unreported } else n.head }

/-- R166: the node as it leaves by a pending suspension, if it does. -/
def State.leaving (s : State) (node : Nat) : Option Node := (Table.get s.nodes node).filter (fun n => n.suspendPending)

/-- R166: what a pending suspension, applied or not, makes of the nodes and the owners. -/
structure State.Suspends (s w : State) (node : Nat) (leaving : Option Node) : Prop where
  nodes : ∀ m, Table.get w.nodes m = (Table.get s.nodes m).map (fun n =>
    if leaving.isSome = true ∧ m = node then n.left else n)
  told : leaving.isSome = true → s.tablesSound → s.placesSound → s.ownersLost w (fun m => decide (m = node))
  items : s.itemsStand w [.node]
  keeps : s.keepsBut w ([.nodes] ++ (leaving.map (fun n => ownerParts n.kind)).getD [])

theorem State.Suspends.stand (s : State) (node : Nat) : s.Suspends s node none :=
  ⟨fun m => by simp, by simp, .refl s _, .refl s _⟩

theorem State.applySuspension_suspends (s : State) (node : Nat) : s.Suspends (s.applySuspension node) node (s.leaving node) := by
  cases hget : Table.get s.nodes node with
  | none =>
    have heq : s.applySuspension node = s := by unfold State.applySuspension; rw [hget]
    have hleave : s.leaving node = none := by simp [State.leaving, hget]
    rw [heq, hleave]
    exact .stand s node
  | some n =>
    have heq : s.applySuspension node = if n.suspendPending then s.suspendNow node else s := by
      unfold State.applySuspension
      rw [hget]
    cases hp : n.suspendPending with
    | false =>
      have hleave : s.leaving node = none := by simp [State.leaving, hget, hp]
      rw [heq, hp, hleave]
      exact .stand s node
    | true =>
      have hleave : s.leaving node = some n := by simp [State.leaving, hget, hp]
      have hlost := State.suspendNow_lost hget
      rw [heq, hp, hleave]
      refine ⟨fun m => ?_, fun _ hw hps => (hlost.told hw hps).lost, hlost.items, hlost.keeps⟩
      by_cases hm : m = node
      · rw [hm, hget]
        exact hlost.record.trans (by simp [Node.left, Node.suspended])
      · rw [if_pos rfl, hlost.others m hm]
        cases Table.get s.nodes m <;> simp [hm]

/-! ### A visit whose outcome is discarded (R170, R172) -/

theorem State.endVisit_retired {s : State} {i : SpanId} {v : Visit} (h : (s.span i).visit = some v) (hf : v.fate = .retired)
    (e : VisitEnd) : s.endVisit i e = (((s.changeSpan i (fun p => { p with visit := none })).changeSpan i
      (fun p => { p with position := some v.address })).closeRound i) := by
  unfold State.endVisit
  rw [h]
  dsimp only
  rw [hf]

/-- R172: the visit of a part restarted since: the suspension that may have been asked for, and a new round. -/
theorem State.endVisit_restarted {s : State} {i : SpanId} {v : Visit} (h : (s.span i).visit = some v)
    (hf : v.fate = .restarted ∨ v.fate = .restartedRetired) (e : VisitEnd) :
    ∃ w, s.endVisit i e = w.beginRound i ∧
      (s.changeSpan i (fun p => { p with visit := none })).Suspends w v.node
        ((s.leaving v.node).filter (fun _ => decide (v.fate = .restarted))) ∧
      (s.changeSpan i (fun p => { p with visit := none })).Runs w := by
  obtain ⟨u, hu⟩ : ∃ u, u = s.changeSpan i (fun p => { p with visit := none }) := ⟨_, rfl⟩
  have hleave : u.leaving v.node = s.leaving v.node := by
    rw [hu]
    unfold State.leaving
    rw [State.changeSpan_nodes]
  rcases hf with hf | hf
  · refine ⟨u.applySuspension v.node, ?_, ?_, ?_⟩
    · unfold State.endVisit
      rw [h]
      dsimp only
      rw [hf, hu]
    · have hall : (s.leaving v.node).filter (fun _ => decide (v.fate = .restarted)) = u.leaving v.node := by
        rw [hleave]
        cases s.leaving v.node <;> simp [hf]
      rw [hall, ← hu]
      exact u.applySuspension_suspends v.node
    · rw [← hu]
      exact u.applySuspension_runs v.node
  · refine ⟨u, ?_, ?_, ?_⟩
    · unfold State.endVisit
      rw [h]
      dsimp only
      rw [hf, hu]
    · have hno : (s.leaving v.node).filter (fun _ => decide (v.fate = .restarted)) = none := by
        cases s.leaving v.node <;> simp [hf]
      rw [hno, ← hu]
      exact .stand u v.node
    · rw [← hu]

/-- R157: a round that begins leaves each node as LIVE, SILENT or SUSPENDED as it is. -/
theorem State.beginRound_isDown (s : State) (i : SpanId) (m : Nat) : (s.beginRound i).isDown m = s.isDown m := by
  unfold State.isDown
  rw [State.beginRound_nodes]
  cases Table.get s.nodes m with
  | none => rfl
  | some n =>
    simp only [Option.map_some, Option.any_some]
    split
    · split <;> rfl
    · rfl

/-- R166, R172: the node that leaves at the end of a visit that RESTART met, by the visit's fate. -/
theorem State.leaving_filter (s : State) (v : Visit) :
    (s.leaving v.node).filter (fun _ => decide (v.fate = .restarted)) = (Table.get s.nodes v.node).filter (fun n =>
      decide (v.fate = .restarted) && decide (v.node = v.node) && n.suspendPending) := by
  unfold State.leaving
  cases Table.get s.nodes v.node with
  | none => rfl
  | some n => cases hp : n.suspendPending <;> by_cases hf : v.fate = .restarted <;> simp [hf]

theorem State.leaving_iff {s : State} {v : Visit} {m : Nat} {n : Node} (h : Table.get s.nodes m = some n) :
    (((s.leaving v.node).filter (fun _ => decide (v.fate = .restarted))).isSome = true ∧ m = v.node) ↔
      (decide (v.fate = .restarted) && decide (m = v.node) && n.suspendPending) = true := by
  by_cases hm : m = v.node
  · subst hm
    unfold State.leaving
    rw [h]
    cases hp : n.suspendPending <;> by_cases hf : v.fate = .restarted <;> simp [hp, hf]
  · simp [hm]

/-- R170, R172: a visit whose outcome is discarded. -/
theorem State.Awaits.discards {s s0 : State} {i : SpanId} {v : Visit} {touched : List Field} (h : s.Awaits s0 i v touched)
    (e : VisitEnd) : s.visitDiscarded (s0.endVisit i e) i v touched := by
  obtain ⟨v', hv', hnode, haddr, hfate⟩ := h.visit
  obtain ⟨s1, hs1⟩ : ∃ s1, s1 = s0.changeSpan i (fun p => { p with visit := none }) := ⟨_, rfl⟩
  have hkeep1 : s0.keepsBut s1 [.span i] := by rw [hs1]; exact State.changeSpan_keeps _ _ _
  have hfirst : s.keepsBut s1 (touched ++ [.span i]) := h.keeps.seq hkeep1 (List.Subset.refl _) (by simp)
  have hspan1 : s1.span i = { s0.span i with visit := none } := by rw [hs1]; exact s0.withoutVisit_span i
  have hnodes1 : s1.nodes = s.nodes := (hkeep1 .nodes (by simp)).trans h.nodes
  have hset1 : s1.settings = s.settings := (hkeep1 .settings (by simp)).trans h.settings
  have halike1 : s.OwnersAlike s1 := h.alike.trans (.of_keeps hkeep1)
  have hkept1 : s.Kept s1 := h.kept.trans (by rw [hs1]; exact (State.changeSpan_runs _ _ _).kept)
  refine ⟨fun hf => ?_, fun hf => ?_⟩
  · have heq := State.endVisit_retired hv' (hfate.trans hf) e
    rw [← hs1] at heq
    rw [heq]
    refine ⟨State.visitOver_of hkept1 ?_ ?_ ?_ ?_ haddr, hfirst.seq ((State.changeSpan_keeps _ _ _).seq
      (State.closeRound_keeps _ _) (n := [.span i]) (by simp) (by simp)) (List.Subset.refl _) (by simp)⟩
    · rw [hspan1]
    · rw [hspan1]; exact h.inRound
    · rw [hspan1]; exact h.stuck
    · rw [hspan1]; exact h.roundStart
  · obtain ⟨w, heq, hsusp, hruns⟩ := State.endVisit_restarted hv' (by rw [hfate]; exact hf) e
    have hleave : s0.leaving v.node = s.leaving v.node := by unfold State.leaving; rw [h.nodes]
    rw [← hs1, hnode, hfate, hleave] at hsusp
    rw [← hs1] at hruns
    rw [heq]
    obtain ⟨hnodes, htold, hitems, hkeep⟩ := hsusp
    have hfilter := s.leaving_filter v
    have hkeept := w.beginRound_keeps i
    have hkeptw : s.Kept w := hkept1.trans hruns.kept
    have hspanw : w.span i = s1.span i := hkeep (.span i) (by
      cases ((s.leaving v.node).filter (fun _ => decide (v.fate = .restarted))) <;> simp [ownerParts_span])
    have hsetw : w.settings = s.settings := (hkeep .settings (by
      cases hl : ((s.leaving v.node).filter (fun _ => decide (v.fate = .restarted))) with
      | none => simp
      | some n => cases hk : n.kind <;> simp [hk, ownerParts])).trans hset1
    have hvisit : (w.span i).visit = none := by rw [hspanw, hspan1]
    have hstuck : (w.span i).stuck = (s.span i).stuck := by rw [hspanw, hspan1]; exact h.stuck
    obtain ⟨honly, -⟩ := w.beginRound_span i
    refine ⟨fun m => ?_, ?_, ?_, ?_, fun hw hp hst => ?_, fun hl hw hp => ?_, ?_, ?_⟩
    · rw [State.beginRound_nodes, hnodes, hnodes1, hsetw, Option.map_map]
      cases hget : Table.get s.nodes m with
      | none => rfl
      | some n =>
        have hiff := State.leaving_iff (v := v) hget
        simp only [Option.map_some, Function.comp, hiff]
        by_cases hpend : (decide (v.fate = .restarted) && decide (m = v.node) && n.suspendPending) = true
        · rw [if_pos hpend, if_pos hpend, if_neg (by simp [Node.left, Node.suspended])]
          rfl
        · rw [if_neg hpend, if_neg hpend]
    · rw [honly]; exact hvisit
    · rw [honly]; exact (hkeept .ms (by simp)).symm
    · rw [honly]; exact hstuck
    · obtain ⟨hw1, -, -, hp1⟩ := hkeptw hw
      exact State.beginRound_settled hw1 (hp1 hp) (hstuck.trans hst) hvisit
    · rw [← hfilter] at hl
      obtain ⟨hw1, -, -, hp1⟩ := hkept1 hw
      refine (htold hl hw1 (hp1 hp)).congr halike1.symm (.of_keeps hkeept) ?_ ?_ (hkeept .seconds (by simp))
      · unfold State.kindOf
        rw [hnodes1]
      · exact State.driveFailed_of_down (w.beginRound_isDown i)
    · exact (((h.itemsStand _).trans (.of_keeps hkeep1 _)).trans hitems).trans (.of_keeps hkeept _)
    · rw [← hfilter]
      refine ((hfirst.mono fun f hf => ?_).trans (hkeep.mono fun f hf => ?_)).trans (hkeept.mono fun f hf => ?_)
      · simp only [List.mem_append, List.mem_cons] at hf ⊢
        tauto
      · simp only [List.mem_append, List.mem_cons] at hf ⊢
        tauto
      · simp only [List.mem_append, List.mem_cons] at hf ⊢
        tauto

end Sys2Proof.Machine

/-! ## Proofs: visits that fail at their limits (R159, R161, R166, R170, R172) -/

namespace Sys2Proof.Machine

theorem State.endVisit_movedTo (s : State) (i : SpanId) (e : VisitEnd) (moment : Millis) :
    s.movedTo ((s.atMs moment).endVisit i e) moment :=
  (s.atMs_movedTo moment).kept (((s.atMs moment).endVisit_keeps i e).sameClock)

/-- R159: the end of a visit at its limit, as a command gives it. -/
theorem State.visit_ends_at {s : State} {i : SpanId} {v : Visit} (hv : (s.span i).visit = some v) (moment : Millis) (e : VisitError) :
    let t := (s.atMs moment).endVisit i (.failed e)
    s.movedTo t moment ∧ (v.fate ≠ .counted → s.visitDiscarded t i v clockParts) ∧
      ∀ n : Node, v.fate = .counted → Table.get s.nodes v.node = some n → s.visitFails t i v n e clockParts :=
  ⟨s.endVisit_movedTo i _ moment, fun _ => (State.Awaits.at hv moment).discards _,
    fun _ hf hget => (State.Awaits.at hv moment).fails hf hget e⟩

/-- Settles O41: the two commands end the visit at their moments, by `visit_ends_at`. -/
theorem visitsFail : Obligations.VisitsFail := by
  intro s i
  have hlimit : exec (.answerLimitExpiry i) s = .next (s.answerLimitPasses i) := rfl
  have hgap : exec (.answerGapTimeout i) s = .next (s.answerGapPasses i) := rfl
  refine ⟨fun hv => ?_, fun v hv => ⟨fun ha => ?_, fun ha => ?_⟩, fun v cmd e moment hv hcmd => ?_⟩
  · rw [hlimit, hgap]
    unfold State.answerLimitPasses State.answerGapPasses
    rw [hv]
    exact ⟨rfl, rfl⟩
  · rw [hgap]
    unfold State.answerGapPasses
    rw [hv]
    dsimp only
    rw [if_pos (by simp [ha])]
  · rw [hlimit]
    unfold State.answerLimitPasses
    rw [hv]
    dsimp only
    rw [if_neg (by simpa using ha)]
  · have hexec : exec cmd s = .next ((s.atMs moment).endVisit i (.failed e)) := by
      rcases hcmd with ⟨ha, rfl, rfl, rfl⟩ | ⟨ha, rfl, rfl, rfl⟩
      · rw [hlimit]
        unfold State.answerLimitPasses
        rw [hv]
        dsimp only
        rw [if_pos (by simp [ha])]
      · rw [hgap]
        unfold State.answerGapPasses
        rw [hv]
        dsimp only
        rw [if_neg (by simpa using ha)]
        rfl
    exact ⟨_, hexec, State.visit_ends_at hv moment e⟩

end Sys2Proof.Machine

/-! ## Proofs: what the owners do beside the spans (R155, R162) -/

namespace Sys2Proof.Machine

/-! ### Changes that neither read nor move a span -/

section

variable (s : State) (i : SpanId) (p : Span)

theorem State.withSpan_withBays (t : Table Bay) : (s.withSpan i p).withBays t = (s.withBays t).withSpan i p := by cases i <;> rfl
theorem State.withSpan_withZones (t : Table Zone) : (s.withSpan i p).withZones t = (s.withZones t).withSpan i p := by cases i <;> rfl
theorem State.withSpan_withSigns (t : Table Sign) : (s.withSpan i p).withSigns t = (s.withSigns t).withSpan i p := by cases i <;> rfl
theorem State.withSpan_withLights (t : Table Light) : (s.withSpan i p).withLights t = (s.withLights t).withSpan i p := by
  cases i <;> rfl
theorem State.withSpan_withNodes (t : Table Node) : (s.withSpan i p).withNodes t = (s.withNodes t).withSpan i p := by cases i <;> rfl
theorem State.withSpan_raise (c : AttClass) (o : Nat) (r : Reason) : (s.withSpan i p).raise c o r = (s.raise c o r).withSpan i p := by
  cases i <;> rfl

/-! #### Zones and signs -/

theorem State.withSpan_markSigns (z : Nat) : (s.withSpan i p).markSigns z = (s.markSigns z).withSpan i p := by cases i <;> rfl

theorem State.withSpan_adjustZone (zone : Nat) (f : Zone → Zone) :
    (s.withSpan i p).adjustZone zone f = (s.adjustZone zone f).withSpan i p := by
  unfold State.adjustZone
  rw [State.withSpan_zones]
  cases Table.get s.zones zone with
  | none => rfl
  | some z =>
    dsimp only
    rw [State.withSpan_withZones, State.withSpan_markSigns, apply_ite (State.withSpan · i p)]

theorem State.withSpan_recount (old new : Option Bay) : (s.withSpan i p).recount old new = (s.recount old new).withSpan i p := by
  cases old with
  | none =>
    cases new with
    | none => rfl
    | some b' => exact s.withSpan_adjustZone i p _ _
  | some b =>
    cases new with
    | none => exact s.withSpan_adjustZone i p _ _
    | some b' =>
      unfold State.recount
      dsimp only
      simp only [State.withSpan_adjustZone]
      rw [apply_ite (State.withSpan · i p)]

theorem State.withSpan_changeCauses (zone : Nat) (f : Causes → Causes) :
    (s.withSpan i p).changeCauses zone f = (s.changeCauses zone f).withSpan i p := by
  unfold State.changeCauses
  rw [State.withSpan_zones]
  cases Table.get s.zones zone with
  | none => rfl
  | some z =>
    dsimp only
    rw [State.withSpan_withZones, State.withSpan_markSigns, apply_ite (State.withSpan · i p)]

theorem State.withSpan_judgeAirCause (zone : Nat) : (s.withSpan i p).judgeAirCause zone = (s.judgeAirCause zone).withSpan i p := by
  unfold State.judgeAirCause
  rw [State.withSpan_zones]
  cases Table.get s.zones zone with
  | none => rfl
  | some z => exact s.withSpan_changeCauses i p zone _

theorem State.withSpan_judgeStatus (zone : Nat) : (s.withSpan i p).judgeStatus zone = (s.judgeStatus zone).withSpan i p := by
  unfold State.judgeStatus
  rw [State.withSpan_zones, State.airStatusOf_congr (s.withSpan_fans i p)]
  cases Table.get s.zones zone with
  | none => rfl
  | some z =>
    dsimp only
    rw [State.withSpan_withZones, State.withSpan_raise, State.withSpan_judgeAirCause, apply_ite (State.withSpan · i p)]

/-- Commands for each number of a list. -/
theorem State.withSpan_forEach {f : Nat → State → State} (hf : ∀ n s, f n (State.withSpan s i p) = (f n s).withSpan i p)
    (ns : List Nat) : State.forEach f ns (s.withSpan i p) = (State.forEach f ns s).withSpan i p := by
  induction ns generalizing s with
  | nil => rfl
  | cons n ns ih => rw [State.forEach, State.forEach, hf, ih]

theorem State.withSpan_availabilityNotice (m : ZoneSet) :
    (s.withSpan i p).availabilityNotice m = (s.availabilityNotice m).withSpan i p :=
  s.withSpan_forEach i p (fun n s => s.withSpan_judgeStatus i p n) _

/-! #### Fan groups -/

theorem State.withSpan_changeFan (group : Nat) (f : Fan → Fan) :
    (s.withSpan i p).changeFan group f = (s.changeFan group f).withSpan i p := by cases i <;> rfl

theorem State.withSpan_leaveQueue (group : Nat) : (s.withSpan i p).leaveQueue group = (s.leaveQueue group).withSpan i p := by
  cases i <;> rfl

theorem State.withSpan_driveFailed : (s.withSpan i p).driveFailed = s.driveFailed := by cases i <;> rfl

theorem State.withSpan_enterFault (group : Nat) (c : FaultCause) :
    (s.withSpan i p).enterFault group c = (s.enterFault group c).withSpan i p := by
  unfold State.enterFault
  rw [State.withSpan_fans]
  cases Table.get s.fans group with
  | none => rfl
  | some g =>
    dsimp only
    rw [State.withSpan_changeFan, State.withSpan_leaveQueue, State.withSpan_raise, State.withSpan_availabilityNotice]

theorem State.withSpan_judgeDrives (group : Nat) : (s.withSpan i p).judgeDrives group = (s.judgeDrives group).withSpan i p := by
  unfold State.judgeDrives
  rw [State.withSpan_fans, State.withSpan_driveFailed]
  cases Table.get s.fans group with
  | none => rfl
  | some g =>
    dsimp only
    simp only [State.withSpan_changeFan, State.withSpan_enterFault, State.withSpan_raise, apply_ite (State.withSpan · i p)]

theorem State.withSpan_fanOf (node : Nat) : (s.withSpan i p).fanOf node = s.fanOf node := by cases i <;> rfl

theorem State.withSpan_driveLost (node : Nat) : (s.withSpan i p).driveLost node = (s.driveLost node).withSpan i p := by
  unfold State.driveLost
  rw [State.withSpan_fanOf]
  cases s.fanOf node with
  | none => rfl
  | some group => dsimp only; rw [State.withSpan_changeFan, State.withSpan_judgeDrives]

theorem State.withSpan_driveRestored (node : Nat) : (s.withSpan i p).driveRestored node = (s.driveRestored node).withSpan i p := by
  unfold State.driveRestored
  rw [State.withSpan_fanOf]
  cases s.fanOf node with
  | none => rfl
  | some group => exact s.withSpan_judgeDrives i p group

theorem State.withSpan_driveAnswer (node : Nat) (r : DriveReport) :
    (s.withSpan i p).driveAnswer node r = (s.driveAnswer node r).withSpan i p := by
  cases h : s.fanOf node with
  | none => rw [State.driveAnswer_unlisted h, State.driveAnswer_unlisted (by rw [State.withSpan_fanOf, h])]
  | some group =>
    rw [State.driveAnswer_listed h, State.driveAnswer_listed (by rw [State.withSpan_fanOf, h]), State.withSpan_changeFan,
      State.withSpan_judgeDrives, State.withSpan_seconds, State.withSpan_settings]

/-! #### Bays -/

theorem State.withSpan_putBay (bay : Nat) (b : Bay) : (s.withSpan i p).putBay bay b = (s.putBay bay b).withSpan i p := by
  unfold State.putBay
  rw [State.withSpan_bays, State.withSpan_seconds]
  cases Table.get s.bays bay with
  | none => rfl
  | some old =>
    dsimp only
    rw [State.withSpan_withBays, State.withSpan_recount, State.withSpan_raise]
    simp only [apply_ite (State.withSpan · i p)]

theorem State.withSpan_bayAt (node channel : Nat) : (s.withSpan i p).bayAt node channel = s.bayAt node channel := by cases i <;> rfl

theorem State.withSpan_loseBay (node channel : Nat) : (s.withSpan i p).loseBay node channel = (s.loseBay node channel).withSpan i p := by
  unfold State.loseBay
  rw [State.withSpan_bayAt, State.withSpan_bays]
  cases s.bayAt node channel with
  | none => rfl
  | some bay =>
    dsimp only
    cases Table.get s.bays bay with
    | none => rfl
    | some b => exact s.withSpan_putBay i p bay b.lost

theorem State.withSpan_addCredit (zone : Nat) (arrival : Bool) :
    (s.withSpan i p).addCredit zone arrival = (s.addCredit zone arrival).withSpan i p := by
  unfold State.addCredit
  rw [State.withSpan_zones]
  cases Table.get s.zones zone with
  | none => rfl
  | some z => exact s.withSpan_withZones i p _

theorem State.withSpan_movement (zone : Nat) : (s.withSpan i p).movement zone = (s.movement zone).withSpan i p := by
  cases i <;> rfl

theorem State.withSpan_applyReading (node channel : Nat) (r : Reading) :
    (s.withSpan i p).applyReading node channel r = (s.applyReading node channel r).withSpan i p := by
  unfold State.applyReading
  rw [State.withSpan_bayAt, State.withSpan_bays, State.withSpan_settings]
  cases s.bayAt node channel with
  | none => rfl
  | some bay =>
    dsimp only
    cases Table.get s.bays bay with
    | none => rfl
    | some b =>
      dsimp only
      rw [State.withSpan_putBay]
      cases (b.read s.settings.arrivalConfirm s.settings.departureConfirm r).notice with
      | none => rfl
      | some arrival =>
        dsimp only
        unfold State.movementNotice
        rw [State.withSpan_addCredit, State.withSpan_movement]

/-! #### Answers and notices -/

theorem State.withSpan_changeNode (node : Nat) (f : Node → Node) :
    (s.withSpan i p).changeNode node f = (s.changeNode node f).withSpan i p := by cases i <;> rfl

theorem State.withSpan_changeSignOn (node : Nat) (f : Sign → Sign) :
    (s.withSpan i p).changeSignOn node f = (s.changeSignOn node f).withSpan i p := by
  have hof : (s.withSpan i p).signOf node = s.signOf node := by cases i <;> rfl
  unfold State.changeSignOn
  rw [hof, State.withSpan_signs]
  cases s.signOf node with
  | none => rfl
  | some n => exact s.withSpan_withSigns i p _

theorem State.withSpan_changeLightOn (node : Nat) (f : Light → Light) :
    (s.withSpan i p).changeLightOn node f = (s.changeLightOn node f).withSpan i p := by
  have hof : (s.withSpan i p).lightOf node = s.lightOf node := by cases i <;> rfl
  unfold State.changeLightOn
  rw [hof, State.withSpan_lights]
  cases s.lightOf node with
  | none => rfl
  | some n => exact s.withSpan_withLights i p _

theorem State.withSpan_noticeLost (node : Nat) (k : NodeKind) :
    (s.withSpan i p).noticeLost node k = (s.noticeLost node k).withSpan i p := by
  cases k with
  | sensor => exact s.withSpan_forEach i p (fun c s => s.withSpan_loseBay i p node c) _
  | gas => exact s.withSpan_changeNode i p node _
  | dimmer => exact s.withSpan_changeLightOn i p node _
  | fan => exact s.withSpan_driveLost i p node
  | sign => exact s.withSpan_changeSignOn i p node _

theorem State.withSpan_noticeRestored (node : Nat) (k : NodeKind) :
    (s.withSpan i p).noticeRestored node k = (s.noticeRestored node k).withSpan i p := by
  cases k with
  | sensor => rfl
  | gas => rfl
  | dimmer => exact s.withSpan_changeLightOn i p node _
  | fan => exact s.withSpan_driveRestored i p node
  | sign => exact s.withSpan_changeSignOn i p node _

theorem State.withSpan_suspendNow (node : Nat) : (s.withSpan i p).suspendNow node = (s.suspendNow node).withSpan i p := by
  unfold State.suspendNow
  rw [State.withSpan_nodes]
  cases Table.get s.nodes node with
  | none => rfl
  | some n => dsimp only; rw [State.withSpan_changeNode, State.withSpan_noticeLost]

theorem State.withSpan_aislePresence (node : Nat) : (s.withSpan i p).aislePresence node = (s.aislePresence node).withSpan i p := by
  unfold State.aislePresence
  rw [State.withSpan_nodes]
  cases (Table.get s.nodes node).bind (fun n => n.zone) with
  | none => rfl
  | some zone => exact s.withSpan_movement i p zone

theorem State.withSpan_gasAnswer (node co no2 : Nat) (st : HeadStatus) :
    (s.withSpan i p).gasAnswer node co no2 st = (s.gasAnswer node co no2 st).withSpan i p := by
  unfold State.gasAnswer
  rw [State.withSpan_nodes]
  cases Table.get s.nodes node with
  | none => rfl
  | some n =>
    dsimp only
    simp only [State.withSpan_withNodes, State.withSpan_raise, apply_ite (State.withSpan · i p)]

theorem State.withSpan_handAnswer (node : Nat) (k : NodeKind) (content : List Byte) (rebound : Bool) :
    (s.withSpan i p).handAnswer node k content rebound = (s.handAnswer node k content rebound).withSpan i p := by
  cases k with
  | sensor =>
    have hread : (s.withSpan i p).applyReadings node content = (s.applyReadings node content).withSpan i p :=
      s.withSpan_forEach i p (fun c s => s.withSpan_applyReading i p node c _) _
    unfold State.handAnswer
    dsimp only
    rw [hread, State.withSpan_aislePresence, apply_ite (State.withSpan · i p)]
  | gas =>
    unfold State.handAnswer
    dsimp only
    rw [State.withSpan_gasAnswer, apply_ite (State.withSpan · i p)]
  | dimmer => exact s.withSpan_changeLightOn i p node _
  | fan => exact s.withSpan_driveAnswer i p node _
  | sign => exact s.withSpan_changeSignOn i p node _

end

end Sys2Proof.Machine

/-! ## Proofs: the bytes of an answer (R155, R159, R160) -/

namespace Sys2Proof.Machine

/-! ### The judgement of an answer (R159) -/

section

variable {address : Nat} {kind : NodeKind} {answer : List Byte}

theorem judgeAnswer_unfinished (h : answer.length < 3 ∨
    (1 ≤ (byteAt answer 2).toNat ∧ (byteAt answer 2).toNat ≤ 18 ∧ answer.length < 3 + (byteAt answer 2).toNat)) :
    judgeAnswer address kind answer = none := by
  unfold judgeAnswer
  split
  · rfl
  · next hlen =>
    rcases h with h | ⟨h1, h2, h3⟩
    · exact absurd h hlen
    · dsimp only
      rw [if_neg (by simp [Config.longestAnswer]; omega), if_pos h3]

theorem judgeAnswer_length (h : answer.length = 3) (hbad : (byteAt answer 2).toNat = 0 ∨ 18 < (byteAt answer 2).toNat) :
    judgeAnswer address kind answer = some (.failed .check) := by
  unfold judgeAnswer
  rw [if_neg (by omega)]
  dsimp only
  rw [if_pos (by simp [Config.longestAnswer]; omega)]

theorem judgeAnswer_complete (h1 : 1 ≤ (byteAt answer 2).toNat) (h18 : (byteAt answer 2).toNat ≤ 18)
    (hlen : answer.length = 3 + (byteAt answer 2).toNat) : judgeAnswer address kind answer = some (
      if byteSum answer ≠ 0 then .failed .check
      else if byteAt answer 0 = byte address ∧ byteAt answer 1 = byte kind.code ∧ (byteAt answer 2).toNat = answerLength kind
      then .good ((answer.drop 3).take ((byteAt answer 2).toNat - 1)) else .failed .stray) := by
  unfold judgeAnswer
  rw [if_neg (by omega)]
  dsimp only
  rw [if_neg (by simp [Config.longestAnswer]; omega), if_neg (by omega)]
  have hmis : (byteAt answer 0 ≠ byte address ∨ byteAt answer 1 ≠ byte kind.code ∨
      (byteAt answer 2).toNat ≠ answerLength kind) ↔ ¬(byteAt answer 0 = byte address ∧ byteAt answer 1 = byte kind.code ∧
      (byteAt answer 2).toNat = answerLength kind) := by tauto
  by_cases hsum : byteSum answer = 0
  · simp only [hsum, ne_eq, not_true_eq_false, if_false]
    by_cases hm : byteAt answer 0 = byte address ∧ byteAt answer 1 = byte kind.code ∧ (byteAt answer 2).toNat = answerLength kind
    · rw [if_neg (hmis.not.2 (not_not.2 hm)), if_pos hm]
    · rw [if_pos (hmis.2 hm), if_neg hm]
  · rw [if_pos hsum, if_pos hsum]

end

/-! ### A byte on a span (R155) -/

theorem State.withSpan_withSpan (s : State) (i : SpanId) (p q : Span) : (s.withSpan i p).withSpan i q = s.withSpan i q := by
  cases i <;> rfl

/-- The span as a byte of the answer is taken. -/
def Span.taking (now : Millis) (v : Visit) (answer : List Byte) (p : Span) : Span :=
  { p with lineAt := now, visit := some { v with answer := answer, lastByte := now } }

theorem State.spanByte_idle {s : State} {i : SpanId} (h : (s.span i).visit = none) (b : Byte) (stopOk : Bool) :
    s.spanByte i b stopOk = s.changeSpan i (Span.lineByte s.ms) := by
  unfold State.spanByte
  dsimp only
  rw [h]

theorem State.spanByte_dropped {s : State} {i : SpanId} {v : Visit} (h : (s.span i).visit = some v) {b : Byte}
    (hdrop : s.answerByte (!v.answer.isEmpty) b false = none) :
    s.spanByte i b false = (s.changeSpan i (Span.lineByte s.ms)).withFreeCount (s.freeCount + 1) := by
  unfold State.spanByte
  dsimp only
  rw [h]
  dsimp only
  rw [hdrop]
  rfl

/-- R159: a byte taken in: the answer goes on, or the visit ends. -/
theorem State.spanByte_taken {s : State} {i : SpanId} {v : Visit} (h : (s.span i).visit = some v) {b : Byte} :
    s.spanByte i b true = (judgeAnswer v.address v.kind (v.answer ++ [b])).elim
      (s.withSpan i ((s.span i).taking s.ms v (v.answer ++ [b])))
      (fun e => (s.withSpan i ((s.span i).taking s.ms v (v.answer ++ [b]))).endVisit i e) := by
  have hs2 : (s.changeSpan i (Span.lineByte s.ms)).changeSpan i
      (fun p => { p with visit := some { v with answer := v.answer ++ [b], lastByte := s.ms } }) =
      s.withSpan i ((s.span i).taking s.ms v (v.answer ++ [b])) := by
    unfold State.changeSpan
    rw [State.withSpan_withSpan, State.withSpan_span]
    rfl
  have hbyte : s.answerByte (!v.answer.isEmpty) b true = some b := rfl
  unfold State.spanByte
  dsimp only
  rw [h]
  dsimp only
  rw [hbyte]
  dsimp only
  rw [if_pos rfl, hs2]
  cases judgeAnswer v.address v.kind (v.answer ++ [b]) <;> rfl

/-- R159: of a byte with a bad stop bit within an answer, what is taken in is the free value (log 15). -/
theorem State.spanByte_badStop {s : State} {i : SpanId} {v : Visit} (h : (s.span i).visit = some v) (ha : v.answer ≠ []) {b b' : Byte}
    (hb : Config.badStopByte s.freeCount b = some b') :
    s.spanByte i b false = State.spanByte i b' true { s with freeCount := s.freeCount + 1 } := by
  have hspan : ({ s with freeCount := s.freeCount + 1 } : State).span i = s.span i := by cases i <;> rfl
  have hbyte : s.answerByte (!v.answer.isEmpty) b false = some b' := by
    unfold State.answerByte
    rw [if_neg Bool.false_ne_true, if_pos (by simpa using ha), hb]
  have hbyte' : State.answerByte { s with freeCount := s.freeCount + 1 } (!v.answer.isEmpty) b' true = some b' := rfl
  have hline : (s.changeSpan i (Span.lineByte s.ms)).withFreeCount (s.freeCount + 1) =
      ({ s with freeCount := s.freeCount + 1 } : State).changeSpan i (Span.lineByte s.ms) := by cases i <;> rfl
  unfold State.spanByte
  dsimp only
  rw [hspan, h]
  dsimp only
  rw [hbyte, hbyte', if_neg Bool.false_ne_true, if_pos rfl, hline]

theorem State.Awaits.taking (s : State) (i : SpanId) (v : Visit) (answer : List Byte) :
    s.Awaits (s.withSpan i ((s.span i).taking s.ms v answer)) i v [] := by
  refine ⟨s.withSpan_keeps i _, by simp, ⟨{ v with answer := answer, lastByte := s.ms }, by rw [State.withSpan_span]; rfl, rfl, rfl, rfl⟩, ?_, ?_, ?_⟩ <;>
    rw [State.withSpan_span] <;> rfl

/-! ### A good visit (R160, R166) -/

/-- R160: a node's record as it has answered well. -/
def Node.heard (n : Node) : Node :=
  { n with
    missCount := 0
    liveness := if n.liveness = .suspended then .suspended else .live
    due := if n.liveness = .silent then false else n.due }

/-- R160: the node has answered; a SILENT one is reported restored and raises RESTORED. -/
def State.nodeHeard (s : State) (node : Nat) (n : Node) : State :=
  if n.liveness = .silent then ((s.changeNode node (fun _ => n.heard)).noticeRestored node n.kind).raise .node node .restored
  else s.changeNode node (fun _ => n.heard)

theorem State.goodVisit_eq {s : State} {node : Nat} {n : Node} (hget : Table.get s.nodes node = some n) (content : List Byte)
    (rebound : Bool) : s.goodVisit node content rebound = (s.nodeHeard node n).handAnswer node n.kind content rebound := by
  have hchange : ∀ f : Node → Node, f n = n.heard → s.changeNode node f = s.changeNode node (fun _ => n.heard) :=
    fun f hf => State.changeNode_congr hget hf
  unfold State.goodVisit State.nodeHeard
  rw [hget]
  dsimp only
  cases hl : n.liveness with
  | unseen =>
    dsimp only
    rw [if_neg (by decide), hchange _ (by simp [Node.heard, hl])]
  | live =>
    dsimp only
    rw [if_neg (by decide), hchange _ (by simp [Node.heard, hl])]
  | silent =>
    dsimp only
    rw [if_pos rfl, hchange _ (by simp [Node.heard, hl])]
  | suspended =>
    dsimp only
    rw [if_neg (by decide), hchange _ (by simp [Node.heard, hl])]

theorem State.nodeHeard_get {s : State} {node : Nat} {n : Node} (hget : Table.get s.nodes node = some n) :
    Table.get (s.nodeHeard node n).nodes node = some n.heard := by
  have h := State.changeNode_get hget (fun _ => n.heard)
  unfold State.nodeHeard
  split
  · exact (congrArg (fun t => Table.get t node) (State.noticeRestored_nodes _ _ _)).trans h
  · exact h

/-- R201: what handing a good answer over makes of the nodes, and what else it moves, by the node's kind. -/
structure State.Handed (s t : State) (node : Nat) (n : Node) : Prop where
  record : ∃ n', Table.get t.nodes node = some n' ∧ n' = { n with head := n'.head } ∧ (n.kind ≠ .gas → n'.head = n.head)
  others : ∀ m, m ≠ node → Table.get t.nodes m = Table.get s.nodes m
  keeps : s.keepsBut t (.nodes :: (ownerParts n.kind ++ (if n.kind = .sensor then [.lights] else []) ++
    if n.kind = .gas then [.items .main, .items .panel] else []))

/-- An answer that leaves the nodes. -/
theorem State.Handed.of_keeps {s t : State} {node : Nat} {n : Node} (hget : Table.get s.nodes node = some n) {l : List Field}
    (h : s.keepsBut t l) (hno : Field.nodes ∉ l) (hsub : l ⊆ (.nodes :: (ownerParts n.kind ++
      (if n.kind = .sensor then [.lights] else []) ++ if n.kind = .gas then [.items .main, .items .panel] else []))) :
    s.Handed t node n := by
  have hn : t.nodes = s.nodes := h .nodes hno
  exact ⟨⟨n, by rw [hn, hget], rfl, fun _ => rfl⟩, fun m _ => by rw [hn], h.mono hsub⟩

theorem State.handAnswer_handed {s : State} {node : Nat} {n : Node} (hget : Table.get s.nodes node = some n) (content : List Byte)
    (rebound : Bool) : s.Handed (s.handAnswer node n.kind content rebound) node n := by
  cases hk : n.kind with
  | sensor =>
    refine .of_keeps hget (l := .lights :: bayParts) ?_ (by decide) (by simp [hk, ownerParts])
    have hread := s.applyReadings_keeps node content
    unfold State.handAnswer
    dsimp only
    split
    · refine hread.seq (n := .lights :: bayParts) ?_ (List.Subset.refl _) (List.Subset.refl _)
      unfold State.aislePresence
      split
      · exact .refl _ _
      · exact (State.movement_keeps _ _).mono (by decide)
    · exact hread
  | dimmer => exact .of_keeps hget (s.changeLightOn_keeps node _) (by decide) (by simp [hk, ownerParts])
  | fan => exact .of_keeps hget (s.driveAnswer_keeps node _) (by decide) (by simp [hk, ownerParts])
  | sign => exact .of_keeps hget (s.changeSignOn_keeps node _) (by decide) (by simp [hk, ownerParts])
  | gas =>
    cases rebound with
    | true => exact .of_keeps hget (.refl s []) (by simp) (by simp)
    | false =>
      obtain ⟨hself, hother, -⟩ := State.gasAnswer_spec hget (word2At content 0) (word2At content 2)
        (HeadStatus.ofGasStatus (byteAt content 4))
      exact ⟨⟨_, hself, rfl, fun h => absurd hk h⟩, hother, (s.gasAnswer_keeps _ _ _ _).mono (by simp [hk])⟩

/-! ### The end of a good visit -/

theorem State.withSpan_nodeHeard (s : State) (i : SpanId) (p : Span) (node : Nat) (n : Node) :
    (s.withSpan i p).nodeHeard node n = (s.nodeHeard node n).withSpan i p := by
  unfold State.nodeHeard
  rw [State.withSpan_changeNode, State.withSpan_noticeRestored, State.withSpan_raise, apply_ite (State.withSpan · i p)]

/-- R160, R166: what a good visit makes of the part beside its span. -/
def State.heardFrom (s : State) (node : Nat) (n : Node) (content : List Byte) (rebound : Bool) : State :=
  let s3 := (s.nodeHeard node n).handAnswer node n.kind content rebound
  if n.suspendPending = true then s3.suspendNow node else s3

theorem State.withSpan_heardFrom (s : State) (i : SpanId) (p : Span) (node : Nat) (n : Node) (content : List Byte) (rebound : Bool) :
    (s.withSpan i p).heardFrom node n content rebound = (s.heardFrom node n content rebound).withSpan i p := by
  unfold State.heardFrom
  dsimp only
  rw [State.withSpan_nodeHeard, State.withSpan_handAnswer, State.withSpan_suspendNow, apply_ite (State.withSpan · i p)]

theorem State.applyOutcome_good {s : State} {v : Visit} {n : Node} (hget : Table.get s.nodes v.node = some n) (content : List Byte) :
    s.applyOutcome v (.good content) = s.heardFrom v.node n content v.rebound := by
  obtain ⟨⟨n', hget', he, -⟩, -, -⟩ := State.handAnswer_handed (State.nodeHeard_get hget) content v.rebound
  have hpend : n'.suspendPending = n.suspendPending := by rw [he]; rfl
  show (s.goodVisit v.node content v.rebound).applySuspension v.node = _
  rw [State.goodVisit_eq hget]
  unfold State.applySuspension State.heardFrom
  dsimp only
  rw [show Table.get ((s.nodeHeard v.node n).handAnswer v.node n.kind content v.rebound).nodes v.node = some n' from hget']
  dsimp only
  rw [hpend]

/-- R156, R160: the end of a good visit. -/
theorem State.endVisit_good {s s0 : State} {i : SpanId} {v v' : Visit} (hs0 : ∃ p, s0 = s.withSpan i p)
    (hv : (s0.span i).visit = some v') (hnode : v'.node = v.node) (haddr : v'.address = v.address) (hfate : v'.fate = .counted)
    (hreb : v'.rebound = v.rebound) (hround : (s0.span i).inRound = (s.span i).inRound)
    (hstuck : (s0.span i).stuck = (s.span i).stuck) (hstart : (s0.span i).roundStart = (s.span i).roundStart) {n : Node}
    (hget : Table.get s.nodes v.node = some n) (content : List Byte) :
    (s.heardFrom v.node n content v.rebound).keepsBut (s0.endVisit i (.good content)) [.span i] ∧
      s.visitOver (s0.endVisit i (.good content)) i v := by
  obtain ⟨p, rfl⟩ := hs0
  rw [State.withSpan_span] at hv hround hstuck hstart
  have hs1 : (s.withSpan i p).changeSpan i (fun p => { p with visit := none }) = s.withSpan i { p with visit := none } := by
    unfold State.changeSpan
    rw [State.withSpan_withSpan, State.withSpan_span]
  have hw : (s.withSpan i { p with visit := none }).applyOutcome v' (.good content) =
      (s.heardFrom v.node n content v.rebound).withSpan i { p with visit := none } := by
    rw [State.applyOutcome_good (by rw [State.withSpan_nodes, hnode]; exact hget), hnode, hreb, State.withSpan_heardFrom]
  have hend := State.endVisit_counted (s := s.withSpan i p) (by rw [State.withSpan_span]; exact hv) hfate (.good content)
  rw [hs1, hw] at hend
  rw [hend]
  refine ⟨((State.withSpan_keeps _ _ _).seq (State.changeSpan_keeps _ _ _) (n := [.span i]) (by simp) (by simp)).seq
    (State.closeRound_keeps _ _) (by simp) (by simp), State.visitOver_of ?_ ?_ ?_ ?_ ?_ haddr⟩
  · rw [← hw]
    exact ((s.withSpan_keeps i _).kept (by simp)).trans (State.applyOutcome_runs _ _ _).kept
  · rw [State.withSpan_span]
  · rw [State.withSpan_span]; exact hround
  · rw [State.withSpan_span]; exact hstuck
  · rw [State.withSpan_span]; exact hstart

end Sys2Proof.Machine

/-! ## Proofs: the bytes of an answer, settled (R155, R159 to R162, R166, R170, R172) -/

namespace Sys2Proof.Machine

theorem exec_spanByte (s : State) (i : SpanId) (b : Byte) (stopOk : Bool) :
    exec (.spanByteReceived i b stopOk) s = .next (s.spanByte i b stopOk) := rfl

/-- R159: a byte that is dropped keeps the line busy, and a free value is drawn. -/
theorem exec_spanByte_dropped {s : State} {i : SpanId} {v : Visit} (hv : (s.span i).visit = some v) {b : Byte}
    (hdrop : s.answerByte (!v.answer.isEmpty) b false = none) :
    ∃ t, exec (.spanByteReceived i b false) s = .next t ∧ t.span i = { s.span i with lineAt := s.ms } ∧
      t.freeCount = s.freeCount + 1 ∧ s.keepsBut t [.span i, .freeCount] := by
  have hfree := State.withFreeCount_keeps (s.changeSpan i (Span.lineByte s.ms)) (s.freeCount + 1)
  refine ⟨_, (exec_spanByte s i b false).trans (congrArg _ (State.spanByte_dropped hv hdrop)), ?_, rfl,
    (State.changeSpan_keeps _ _ _).seq hfree (by simp) (by simp)⟩
  exact (hfree (.span i) (by simp)).trans (s.changeSpan_span i _)

/-- R159: a byte after which the answer goes on. -/
theorem exec_spanByte_goesOn {s : State} {i : SpanId} {v : Visit} (hv : (s.span i).visit = some v) {b : Byte}
    (hj : judgeAnswer v.address v.kind (v.answer ++ [b]) = none) :
    exec (.spanByteReceived i b true) s = .next (s.withSpan i ((s.span i).taking s.ms v (v.answer ++ [b]))) := by
  rw [exec_spanByte, State.spanByte_taken hv, hj]
  rfl

/-- R159: a byte that ends the visit. -/
theorem exec_spanByte_ends {s : State} {i : SpanId} {v : Visit} (hv : (s.span i).visit = some v) {b : Byte} {e : VisitEnd}
    (hj : judgeAnswer v.address v.kind (v.answer ++ [b]) = some e) : exec (.spanByteReceived i b true) s =
      .next ((s.withSpan i ((s.span i).taking s.ms v (v.answer ++ [b]))).endVisit i e) := by
  rw [exec_spanByte, State.spanByte_taken hv, hj]
  rfl

/-- R160: a good answer of a LIVE or UNSEEN node that is not to be suspended. -/
theorem State.heardFrom_live {s t : State} {i : SpanId} {node : Nat} {n : Node} (hget : Table.get s.nodes node = some n)
    {content : List Byte} {rebound : Bool} (ht : (s.heardFrom node n content rebound).keepsBut t [.span i])
    (hlive : n.liveness = .live ∨ n.liveness = .unseen) (hpend : n.suspendPending = false) :
    (∃ n', Table.get t.nodes node = some n' ∧ n' = { n with missCount := 0, liveness := .live, head := n'.head } ∧
      (n.kind ≠ .gas → n'.head = n.head)) ∧
    (∀ m, m ≠ node → Table.get t.nodes m = Table.get s.nodes m) ∧
    s.keepsBut t ([.span i, .nodes] ++ ownerParts n.kind ++ (if n.kind = .sensor then [.lights] else []) ++
      if n.kind = .gas then [.items .main, .items .panel] else []) := by
  obtain ⟨s1, hs1⟩ : ∃ s1, s1 = s.changeNode node (fun _ => n.heard) := ⟨_, rfl⟩
  have hkeep1 : s.keepsBut s1 [.nodes] := by rw [hs1]; exact s.changeNode_keeps node _
  have hget1 : Table.get s1.nodes node = some n.heard := by rw [hs1]; exact State.changeNode_get hget _
  have hheard : n.heard = { n with missCount := 0, liveness := .live } := by
    unfold Node.heard
    rcases hlive with hl | hl <;> simp [hl]
  have heq : s.heardFrom node n content rebound = s1.handAnswer node n.kind content rebound := by
    unfold State.heardFrom State.nodeHeard
    dsimp only
    rw [hpend, if_neg Bool.false_ne_true, if_neg (by rcases hlive with hl | hl <;> simp [hl]), hs1]
  obtain ⟨⟨n', hn', he, hhead⟩, hother, hkeep⟩ := State.handAnswer_handed hget1 content rebound
  rw [heq] at ht
  have hnodes : t.nodes = (s1.handAnswer node n.kind content rebound).nodes := ht .nodes (by simp)
  rw [hnodes]
  refine ⟨⟨n', hn', by rw [he, hheard], hhead⟩, fun m hm => ?_, ?_⟩
  · rw [show Table.get (s1.handAnswer node n.kind content rebound).nodes m = Table.get s1.nodes m from hother m hm, hs1]
    exact State.changeNode_get_ne _ _ hm
  · refine ((hkeep1.mono (by simp)).trans (State.keepsBut.mono hkeep fun f hf => ?_)).trans (ht.mono (by simp))
    have hkind : n.heard.kind = n.kind := rfl
    rw [hkind] at hf
    simp only [List.mem_append, List.mem_cons] at hf ⊢
    tauto

/-- Settles O39: the judgement of the answer gives the visit's end; `Awaits.discards`, `Awaits.fails` and
`endVisit_good` say what it makes of the part. -/
theorem answerBytesJudged : Obligations.AnswerBytesJudged := by
  intro s i b
  refine ⟨fun stopOk hv => ⟨_, (exec_spanByte s i b stopOk).trans (congrArg _ (State.spanByte_idle hv b stopOk)),
    s.changeSpan_span i _, State.changeSpan_keeps _ _ _⟩, fun v hv => ?_⟩
  intro answer length complete matching dropped
  have hwait : s.Awaits (s.withSpan i ((s.span i).taking s.ms v answer)) i v [] := .taking s i v answer
  have hfailed : ∀ {n : Node} {e : VisitError}, v.fate = .counted → Table.get s.nodes v.node = some n →
      judgeAnswer v.address v.kind answer = some (.failed e) →
      ∃ t, exec (.spanByteReceived i b true) s = .next t ∧ s.visitFails t i v n e [] := fun hf hget hj =>
    ⟨_, exec_spanByte_ends hv hj, hwait.fails hf hget _⟩
  have hcomplete : complete → judgeAnswer v.address v.kind answer = some (if byteSum answer ≠ 0 then .failed .check
      else if matching then .good ((answer.drop 3).take (length - 1)) else .failed .stray) := fun ⟨_, h1, h18, hlen⟩ =>
    judgeAnswer_complete h1 h18 hlen
  refine ⟨fun ha => exec_spanByte_dropped hv ?_, fun ha => ⟨fun hb => exec_spanByte_dropped hv ?_, fun b' hb' => ?_⟩,
    fun hun => ?_, fun hf hend => ?_, fun n hf hget => ?_⟩
  · rw [ha]; rfl
  · unfold State.answerByte
    rw [if_neg Bool.false_ne_true, if_pos (by simpa using ha), hb]
  · rw [exec_spanByte, exec_spanByte, State.spanByte_badStop hv ha hb']
  · exact ⟨_, exec_spanByte_goesOn hv (judgeAnswer_unfinished hun), State.withSpan_span _ _ _, s.withSpan_keeps i _⟩
  · obtain ⟨e, hj⟩ : ∃ e, judgeAnswer v.address v.kind answer = some e := by
      rcases hend with hc | ⟨h3, hbad⟩
      · exact ⟨_, hcomplete hc⟩
      · exact ⟨_, judgeAnswer_length h3 hbad⟩
    exact ⟨_, exec_spanByte_ends hv hj, hwait.discards e⟩
  · intro failed
    refine ⟨fun hc hsum hm => ?_, fun hc hsum => hfailed hf hget ?_, fun h3 hbad => hfailed hf hget (judgeAnswer_length h3 hbad),
      fun hc hsum hm => hfailed hf hget ?_⟩
    · have hj := hcomplete hc
      rw [if_neg (not_not.2 hsum), if_pos hm] at hj
      intro heard s1 s2 s3 s4
      obtain ⟨hkeep, hover⟩ := State.endVisit_good (s := s) (s0 := s.withSpan i ((s.span i).taking s.ms v answer)) (i := i) (v := v)
        (v' := { v with answer := answer, lastByte := s.ms }) ⟨_, rfl⟩ (by rw [State.withSpan_span]; rfl) rfl rfl hf rfl
        (by rw [State.withSpan_span]; rfl) (by rw [State.withSpan_span]; rfl) (by rw [State.withSpan_span]; rfl) hget
        ((answer.drop 3).take (length - 1))
      exact ⟨_, exec_spanByte_ends hv hj, hkeep, hover, fun hlive hpend => State.heardFrom_live hget hkeep hlive hpend⟩
    · rw [hcomplete hc, if_pos hsum]
    · rw [hcomplete hc, if_neg (not_not.2 hsum), if_neg hm]

end Sys2Proof.Machine
